-- ==== Sys2Proof/Word.lean ====
section
/-! DEFINITION. The byte of the serial links (spec 10.1): every other quantity of the part is an
unsigned integer (0.7) and is held as a natural number. -/

namespace Sys2Proof

/-- One byte of a select period (Chapter 10). -/
abbrev Byte := BitVec 8

end Sys2Proof
end

