-- ==== Sys2Proof/Syntax.lean ====
section
/-! DEFINITION. The commands of the part: one constructor of `Instr` for each row of the operation
table. A request is what one select period brings in (R165): its header says on which port, under
which tag and with which length N it came and how many bytes the period clocked, and its body fields
stand in the order of Table 10-3. -/

namespace Sys2Proof

/-- The four ports of Table 0-1. -/
inductive Port where
  | circulation
  | rack
  | mail
  | returns
  deriving DecidableEq, Repr

/-- The request kinds of Table 10-3, in its order. -/
inductive Kind where
  | patronOpen
  | patronSet
  | patronClose
  | patronQuery
  | orderPlace
  | orderCancel
  | orderRetry
  | orderQuery
  | loanQuery
  | titleLoad
  | titleSet
  | titleDrop
  | titleQuery
  | cartridgeAdd
  | cartridgeDrop
  | clockSet
  | circSet
  | nextInsert
  | bayInsert
  | bayRemove
  | bayFault
  | bayClear
  | verifyDone
  | rackStart
  | rackStop
  | rackSet
  | sliceNext
  | sliceDone
  | packItem
  | containerClose
  | containerSealed
  | bagClose
  | bagHanded
  | mailSet
  | returnItem
  | laneClear
  | laneMask
  | status
  | fetchNotices
  | cartridgeQuery
  | bayQuery
  | rackQuery
  | projectionQuery
  | containerQuery
  | bagQuery
  | laneQuery
  | noticeMask
  deriving DecidableEq, Repr

/-- What a select period that brings in a request says besides the body: the port whose link it is,
the frame's tag byte, its length byte N, and the count of bytes clocked before select is released
(R164, R165, R167). -/
structure Header where
  port : Port
  tag : Nat
  length : Nat
  clocked : Nat
  deriving DecidableEq, Repr

/-- The commands of the part, one for each row of the operation table. A field whose value is a code
of Table 10-4 is carried as the byte sent, since the owning block answers a code outside its list. -/
inductive Instr where
  /-- PATRON_OPEN (R20). -/
  | patronOpen (h : Header) (patron region high restore : Nat)
  /-- PATRON_SET (R21). -/
  | patronSet (h : Header) (patron region high restore suspended : Nat)
  /-- PATRON_CLOSE (R22). -/
  | patronClose (h : Header) (patron : Nat)
  /-- PATRON_QUERY (R23). -/
  | patronQuery (h : Header) (patron : Nat)
  /-- ORDER_PLACE (R10). -/
  | orderPlace (h : Header) (patron title priority : Nat)
  /-- ORDER_CANCEL (R16). -/
  | orderCancel (h : Header) (order : Nat)
  /-- ORDER_RETRY (R19). -/
  | orderRetry (h : Header) (order : Nat)
  /-- ORDER_QUERY (R24). -/
  | orderQuery (h : Header) (form order patron title : Nat)
  /-- LOAN_QUERY (R24). -/
  | loanQuery (h : Header) (form loan patron title : Nat)
  /-- TITLE_LOAD (R33). -/
  | titleLoad (h : Header) (title format size selector copies : Nat)
  /-- TITLE_SET (R35). -/
  | titleSet (h : Header) (title size selector copies : Nat)
  /-- TITLE_DROP (R38). -/
  | titleDrop (h : Header) (title : Nat)
  /-- TITLE_QUERY (R40). -/
  | titleQuery (h : Header) (title copy : Nat)
  /-- CARTRIDGE_ADD (R49). -/
  | cartridgeAdd (h : Header) (serial : Nat)
  /-- CARTRIDGE_DROP (R50). -/
  | cartridgeDrop (h : Header) (serial : Nat)
  /-- CLOCK_SET (R120). -/
  | clockSet (h : Header) (day second : Nat)
  /-- CIRC_SET (R148). -/
  | circSet (h : Header) (period grace wear reserve : Nat)
  /-- NEXT_INSERT (R53). -/
  | nextInsert (h : Header)
  /-- BAY_INSERT (R61). -/
  | bayInsert (h : Header) (bay serial : Nat)
  /-- BAY_REMOVE (R74). -/
  | bayRemove (h : Header) (bay : Nat)
  /-- BAY_FAULT (R77). -/
  | bayFault (h : Header) (bay fault : Nat)
  /-- BAY_CLEAR (R79). -/
  | bayClear (h : Header) (bay : Nat)
  /-- VERIFY_DONE (R69). -/
  | verifyDone (h : Header) (bay result : Nat)
  /-- RACK_START (R85). -/
  | rackStart (h : Header)
  /-- RACK_STOP (R86). -/
  | rackStop (h : Header)
  /-- RACK_SET (R87). -/
  | rackSet (h : Header) (widthA widthB blankSel vt mode : Nat)
  /-- SLICE_NEXT (R91). -/
  | sliceNext (h : Header)
  /-- SLICE_DONE (R95). -/
  | sliceDone (h : Header) (even odd : Nat)
  /-- PACK_ITEM (R127). -/
  | packItem (h : Header) (item identity copy : Nat)
  /-- CONTAINER_CLOSE (R135). -/
  | containerClose (h : Header) (container : Nat)
  /-- CONTAINER_SEALED (R137). -/
  | containerSealed (h : Header) (container : Nat)
  /-- BAG_CLOSE (R138). -/
  | bagClose (h : Header) (bag : Nat)
  /-- BAG_HANDED (R140). -/
  | bagHanded (h : Header) (bag : Nat)
  /-- MAIL_SET (R122). -/
  | mailSet (h : Header) (cutoff margin idle allowance : Nat)
  /-- RETURN_ITEM (R150). -/
  | returnItem (h : Header) (item identity copy condition : Nat)
  /-- LANE_CLEAR (R157). -/
  | laneClear (h : Header)
  /-- LANE_MASK (R158). -/
  | laneMask (h : Header) (unreadable unknownItem notOnLoan : Nat)
  /-- STATUS (R177). -/
  | status (h : Header)
  /-- FETCH_NOTICES (R174). -/
  | fetchNotices (h : Header) (most : Nat)
  /-- CARTRIDGE_QUERY (R55). -/
  | cartridgeQuery (h : Header) (serial : Nat)
  /-- BAY_QUERY (R81). -/
  | bayQuery (h : Header) (bay : Nat)
  /-- RACK_QUERY (R99). -/
  | rackQuery (h : Header)
  /-- PROJECTION_QUERY (R111). -/
  | projectionQuery (h : Header) (order : Nat)
  /-- CONTAINER_QUERY (R142). -/
  | containerQuery (h : Header) (container : Nat)
  /-- BAG_QUERY (R142). -/
  | bagQuery (h : Header) (bag : Nat)
  /-- LANE_QUERY (R159). -/
  | laneQuery (h : Header)
  /-- NOTICE_MASK (R175). -/
  | noticeMask (h : Header) (mask mode : Nat)
  /-- UNKNOWN_KIND (R166): a request whose kind code is not in Table 10-3. -/
  | unknownKind (h : Header) (code : Nat)
  /-- FRAME_DISCARD (R165): a select period whose frame is discarded. -/
  | frameDiscard (port : Port) (clocked : Nat)
  /-- READ_PERIOD (R165, R167): a select period with first byte 0. -/
  | readPeriod (port : Port) (clocked : Nat)
  /-- LINK_RESET (R171): a select period with first byte 0xFF. -/
  | linkReset (port : Port) (clocked : Nat)
  /-- RESPONSE_PLACED (R167): the port unit places the response its slot awaits. -/
  | responsePlaced (port : Port)
  /-- RESET_ASSERT (R179). -/
  | resetAssert
  /-- RESET_RELEASE (R180). -/
  | resetRelease
  /-- SECOND_ADVANCE (R114): the time base reaches the next multiple of 500 channel ticks. -/
  | secondAdvance
  /-- SLOT_EXPIRY (R97): the outstanding slot passes its deadline. -/
  | slotExpiry
  /-- IDLE_EXPIRY (R132): a container's idle count reaches the idle time. -/
  | idleExpiry (container : Nat)
  deriving DecidableEq, Repr

end Sys2Proof
end

