-- ==== Sys2Proof/Decode.lean ====
section
/-! DEFINITION. The operation table gives no row any bits, so `decodeTableWord` spells no command. What
the spec does give is the request frame of Chapter 10: Table 10-3 (codes, ports, lengths, fields), the
reading of a select period's bytes (R165, R166 test 1), and the frame that carries a request (R164). -/

namespace Sys2Proof

/-! ### Numbers in frames (R164, 10.2) -/

/-- A number as `size` bytes, most significant byte first. -/
def beBytes : Nat → Nat → List Byte
  | 0, _ => []
  | n + 1, v => BitVec.ofNat 8 (v / 256 ^ n) :: beBytes n v

/-- The number that bytes spell, most significant byte first. -/
def fromBytes (bytes : List Byte) : Nat :=
  bytes.foldl (fun a b => a * 256 + b.toNat) 0

/-- The sum of a frame's bytes modulo 256. -/
def byteSum (bytes : List Byte) : Byte :=
  bytes.foldl (· + ·) 0

/-- The frame made of `bytes` and the check byte that brings its sum to 0 modulo 256 (R164). -/
def withCheck (bytes : List Byte) : List Byte :=
  bytes ++ [-(byteSum bytes)]

/-! ### Table 10-3 -/

/-- The kind codes of Table 10-3. -/
def Kind.code : Kind → Nat
  | .patronOpen => 0x10
  | .patronSet => 0x11
  | .patronClose => 0x12
  | .patronQuery => 0x13
  | .orderPlace => 0x14
  | .orderCancel => 0x15
  | .orderRetry => 0x16
  | .orderQuery => 0x17
  | .loanQuery => 0x18
  | .titleLoad => 0x19
  | .titleSet => 0x1A
  | .titleDrop => 0x1B
  | .titleQuery => 0x1C
  | .cartridgeAdd => 0x1D
  | .cartridgeDrop => 0x1E
  | .clockSet => 0x1F
  | .circSet => 0x20
  | .nextInsert => 0x30
  | .bayInsert => 0x31
  | .bayRemove => 0x32
  | .bayFault => 0x33
  | .bayClear => 0x34
  | .verifyDone => 0x35
  | .rackStart => 0x36
  | .rackStop => 0x37
  | .rackSet => 0x38
  | .sliceNext => 0x39
  | .sliceDone => 0x3A
  | .packItem => 0x50
  | .containerClose => 0x51
  | .containerSealed => 0x52
  | .bagClose => 0x53
  | .bagHanded => 0x54
  | .mailSet => 0x55
  | .returnItem => 0x70
  | .laneClear => 0x71
  | .laneMask => 0x72
  | .status => 0x90
  | .fetchNotices => 0x91
  | .cartridgeQuery => 0x92
  | .bayQuery => 0x93
  | .rackQuery => 0x94
  | .projectionQuery => 0x95
  | .containerQuery => 0x96
  | .bagQuery => 0x97
  | .laneQuery => 0x98
  | .noticeMask => 0x99

/-- The port a kind belongs to; `none` for a kind of every port. -/
def Kind.port : Kind → Option Port
  | .patronOpen => some .circulation
  | .patronSet => some .circulation
  | .patronClose => some .circulation
  | .patronQuery => some .circulation
  | .orderPlace => some .circulation
  | .orderCancel => some .circulation
  | .orderRetry => some .circulation
  | .orderQuery => some .circulation
  | .loanQuery => some .circulation
  | .titleLoad => some .circulation
  | .titleSet => some .circulation
  | .titleDrop => some .circulation
  | .titleQuery => some .circulation
  | .cartridgeAdd => some .circulation
  | .cartridgeDrop => some .circulation
  | .clockSet => some .circulation
  | .circSet => some .circulation
  | .nextInsert => some .rack
  | .bayInsert => some .rack
  | .bayRemove => some .rack
  | .bayFault => some .rack
  | .bayClear => some .rack
  | .verifyDone => some .rack
  | .rackStart => some .rack
  | .rackStop => some .rack
  | .rackSet => some .rack
  | .sliceNext => some .rack
  | .sliceDone => some .rack
  | .packItem => some .mail
  | .containerClose => some .mail
  | .containerSealed => some .mail
  | .bagClose => some .mail
  | .bagHanded => some .mail
  | .mailSet => some .mail
  | .returnItem => some .returns
  | .laneClear => some .returns
  | .laneMask => some .returns
  | .status => none
  | .fetchNotices => none
  | .cartridgeQuery => none
  | .bayQuery => none
  | .rackQuery => none
  | .projectionQuery => none
  | .containerQuery => none
  | .bagQuery => none
  | .laneQuery => none
  | .noticeMask => none

/-- The fixed length N of a kind. -/
def Kind.length : Kind → Nat
  | .patronOpen => 10
  | .patronSet => 11
  | .patronClose => 7
  | .patronQuery => 7
  | .orderPlace => 12
  | .orderCancel => 6
  | .orderRetry => 6
  | .orderQuery => 14
  | .loanQuery => 14
  | .titleLoad => 14
  | .titleSet => 13
  | .titleDrop => 8
  | .titleQuery => 9
  | .cartridgeAdd => 8
  | .cartridgeDrop => 8
  | .clockSet => 9
  | .circSet => 11
  | .nextInsert => 5
  | .bayInsert => 9
  | .bayRemove => 5
  | .bayFault => 6
  | .bayClear => 5
  | .verifyDone => 6
  | .rackStart => 5
  | .rackStop => 5
  | .rackSet => 9
  | .sliceNext => 5
  | .sliceDone => 6
  | .packItem => 10
  | .containerClose => 6
  | .containerSealed => 6
  | .bagClose => 5
  | .bagHanded => 5
  | .mailSet => 13
  | .returnItem => 11
  | .laneClear => 5
  | .laneMask => 7
  | .status => 5
  | .fetchNotices => 5
  | .cartridgeQuery => 8
  | .bayQuery => 5
  | .rackQuery => 5
  | .projectionQuery => 6
  | .containerQuery => 6
  | .bagQuery => 5
  | .laneQuery => 5
  | .noticeMask => 7

/-- The sizes in bytes of a kind's body fields, in order. -/
def Kind.sizes : Kind → List Nat
  | .patronOpen => [3, 1, 1, 1]
  | .patronSet => [3, 1, 1, 1, 1]
  | .patronClose => [3]
  | .patronQuery => [3]
  | .orderPlace => [3, 4, 1]
  | .orderCancel => [2]
  | .orderRetry => [2]
  | .orderQuery => [1, 2, 3, 4]
  | .loanQuery => [1, 2, 3, 4]
  | .titleLoad => [4, 1, 3, 1, 1]
  | .titleSet => [4, 3, 1, 1]
  | .titleDrop => [4]
  | .titleQuery => [4, 1]
  | .cartridgeAdd => [4]
  | .cartridgeDrop => [4]
  | .clockSet => [2, 3]
  | .circSet => [2, 1, 2, 2]
  | .nextInsert => []
  | .bayInsert => [1, 4]
  | .bayRemove => [1]
  | .bayFault => [1, 1]
  | .bayClear => [1]
  | .verifyDone => [1, 1]
  | .rackStart => []
  | .rackStop => []
  | .rackSet => [1, 1, 1, 1, 1]
  | .sliceNext => []
  | .sliceDone => [1, 1]
  | .packItem => [1, 4, 1]
  | .containerClose => [2]
  | .containerSealed => [2]
  | .bagClose => [1]
  | .bagHanded => [1]
  | .mailSet => [3, 2, 2, 2]
  | .returnItem => [1, 4, 1, 1]
  | .laneClear => []
  | .laneMask => [1, 1, 1]
  | .status => []
  | .fetchNotices => [1]
  | .cartridgeQuery => [4]
  | .bayQuery => [1]
  | .rackQuery => []
  | .projectionQuery => [2]
  | .containerQuery => [2]
  | .bagQuery => [1]
  | .laneQuery => []
  | .noticeMask => [2, 1]

/-- Every kind of Table 10-3. -/
def Kind.all : List Kind :=
  [.patronOpen, .patronSet, .patronClose, .patronQuery, .orderPlace,
   .orderCancel, .orderRetry, .orderQuery, .loanQuery, .titleLoad,
   .titleSet, .titleDrop, .titleQuery, .cartridgeAdd, .cartridgeDrop,
   .clockSet, .circSet, .nextInsert, .bayInsert, .bayRemove,
   .bayFault, .bayClear, .verifyDone, .rackStart, .rackStop,
   .rackSet, .sliceNext, .sliceDone, .packItem, .containerClose,
   .containerSealed, .bagClose, .bagHanded, .mailSet, .returnItem,
   .laneClear, .laneMask, .status, .fetchNotices, .cartridgeQuery,
   .bayQuery, .rackQuery, .projectionQuery, .containerQuery, .bagQuery,
   .laneQuery, .noticeMask]

/-- The kind that has a code, if the code is in Table 10-3. -/
def Kind.ofCode (c : Nat) : Option Kind :=
  Kind.all.find? (fun k => k.code == c)

/-- The command of a request of kind `k` whose body fields have the values `v`, in order. A field that
`v` lacks is read as 0: a frame of another length than the kind's has no fields to read (R166 test 3). -/
def Kind.build (k : Kind) (h : Header) (v : List Nat) : Instr :=
  match k with
  | .patronOpen => .patronOpen h (v.getD 0 0) (v.getD 1 0) (v.getD 2 0) (v.getD 3 0)
  | .patronSet => .patronSet h (v.getD 0 0) (v.getD 1 0) (v.getD 2 0) (v.getD 3 0) (v.getD 4 0)
  | .patronClose => .patronClose h (v.getD 0 0)
  | .patronQuery => .patronQuery h (v.getD 0 0)
  | .orderPlace => .orderPlace h (v.getD 0 0) (v.getD 1 0) (v.getD 2 0)
  | .orderCancel => .orderCancel h (v.getD 0 0)
  | .orderRetry => .orderRetry h (v.getD 0 0)
  | .orderQuery => .orderQuery h (v.getD 0 0) (v.getD 1 0) (v.getD 2 0) (v.getD 3 0)
  | .loanQuery => .loanQuery h (v.getD 0 0) (v.getD 1 0) (v.getD 2 0) (v.getD 3 0)
  | .titleLoad => .titleLoad h (v.getD 0 0) (v.getD 1 0) (v.getD 2 0) (v.getD 3 0) (v.getD 4 0)
  | .titleSet => .titleSet h (v.getD 0 0) (v.getD 1 0) (v.getD 2 0) (v.getD 3 0)
  | .titleDrop => .titleDrop h (v.getD 0 0)
  | .titleQuery => .titleQuery h (v.getD 0 0) (v.getD 1 0)
  | .cartridgeAdd => .cartridgeAdd h (v.getD 0 0)
  | .cartridgeDrop => .cartridgeDrop h (v.getD 0 0)
  | .clockSet => .clockSet h (v.getD 0 0) (v.getD 1 0)
  | .circSet => .circSet h (v.getD 0 0) (v.getD 1 0) (v.getD 2 0) (v.getD 3 0)
  | .nextInsert => .nextInsert h
  | .bayInsert => .bayInsert h (v.getD 0 0) (v.getD 1 0)
  | .bayRemove => .bayRemove h (v.getD 0 0)
  | .bayFault => .bayFault h (v.getD 0 0) (v.getD 1 0)
  | .bayClear => .bayClear h (v.getD 0 0)
  | .verifyDone => .verifyDone h (v.getD 0 0) (v.getD 1 0)
  | .rackStart => .rackStart h
  | .rackStop => .rackStop h
  | .rackSet => .rackSet h (v.getD 0 0) (v.getD 1 0) (v.getD 2 0) (v.getD 3 0) (v.getD 4 0)
  | .sliceNext => .sliceNext h
  | .sliceDone => .sliceDone h (v.getD 0 0) (v.getD 1 0)
  | .packItem => .packItem h (v.getD 0 0) (v.getD 1 0) (v.getD 2 0)
  | .containerClose => .containerClose h (v.getD 0 0)
  | .containerSealed => .containerSealed h (v.getD 0 0)
  | .bagClose => .bagClose h (v.getD 0 0)
  | .bagHanded => .bagHanded h (v.getD 0 0)
  | .mailSet => .mailSet h (v.getD 0 0) (v.getD 1 0) (v.getD 2 0) (v.getD 3 0)
  | .returnItem => .returnItem h (v.getD 0 0) (v.getD 1 0) (v.getD 2 0) (v.getD 3 0)
  | .laneClear => .laneClear h
  | .laneMask => .laneMask h (v.getD 0 0) (v.getD 1 0) (v.getD 2 0)
  | .status => .status h
  | .fetchNotices => .fetchNotices h (v.getD 0 0)
  | .cartridgeQuery => .cartridgeQuery h (v.getD 0 0)
  | .bayQuery => .bayQuery h (v.getD 0 0)
  | .rackQuery => .rackQuery h
  | .projectionQuery => .projectionQuery h (v.getD 0 0)
  | .containerQuery => .containerQuery h (v.getD 0 0)
  | .bagQuery => .bagQuery h (v.getD 0 0)
  | .laneQuery => .laneQuery h
  | .noticeMask => .noticeMask h (v.getD 0 0) (v.getD 1 0)

/-- The kind, header and body fields of a request; `none` for the commands that are no request of
Table 10-3. -/
def Instr.request : Instr → Option (Kind × Header × List Nat)
  | .patronOpen h patron region high restore => some (.patronOpen, h, [patron, region, high, restore])
  | .patronSet h patron region high restore suspended => some (.patronSet, h, [patron, region, high, restore, suspended])
  | .patronClose h patron => some (.patronClose, h, [patron])
  | .patronQuery h patron => some (.patronQuery, h, [patron])
  | .orderPlace h patron title priority => some (.orderPlace, h, [patron, title, priority])
  | .orderCancel h order => some (.orderCancel, h, [order])
  | .orderRetry h order => some (.orderRetry, h, [order])
  | .orderQuery h form order patron title => some (.orderQuery, h, [form, order, patron, title])
  | .loanQuery h form loan patron title => some (.loanQuery, h, [form, loan, patron, title])
  | .titleLoad h title format size selector copies => some (.titleLoad, h, [title, format, size, selector, copies])
  | .titleSet h title size selector copies => some (.titleSet, h, [title, size, selector, copies])
  | .titleDrop h title => some (.titleDrop, h, [title])
  | .titleQuery h title copy => some (.titleQuery, h, [title, copy])
  | .cartridgeAdd h serial => some (.cartridgeAdd, h, [serial])
  | .cartridgeDrop h serial => some (.cartridgeDrop, h, [serial])
  | .clockSet h day second => some (.clockSet, h, [day, second])
  | .circSet h period grace wear reserve => some (.circSet, h, [period, grace, wear, reserve])
  | .nextInsert h => some (.nextInsert, h, [])
  | .bayInsert h bay serial => some (.bayInsert, h, [bay, serial])
  | .bayRemove h bay => some (.bayRemove, h, [bay])
  | .bayFault h bay fault => some (.bayFault, h, [bay, fault])
  | .bayClear h bay => some (.bayClear, h, [bay])
  | .verifyDone h bay result => some (.verifyDone, h, [bay, result])
  | .rackStart h => some (.rackStart, h, [])
  | .rackStop h => some (.rackStop, h, [])
  | .rackSet h widthA widthB blankSel vt mode => some (.rackSet, h, [widthA, widthB, blankSel, vt, mode])
  | .sliceNext h => some (.sliceNext, h, [])
  | .sliceDone h even odd => some (.sliceDone, h, [even, odd])
  | .packItem h item identity copy => some (.packItem, h, [item, identity, copy])
  | .containerClose h container => some (.containerClose, h, [container])
  | .containerSealed h container => some (.containerSealed, h, [container])
  | .bagClose h bag => some (.bagClose, h, [bag])
  | .bagHanded h bag => some (.bagHanded, h, [bag])
  | .mailSet h cutoff margin idle allowance => some (.mailSet, h, [cutoff, margin, idle, allowance])
  | .returnItem h item identity copy condition => some (.returnItem, h, [item, identity, copy, condition])
  | .laneClear h => some (.laneClear, h, [])
  | .laneMask h unreadable unknownItem notOnLoan => some (.laneMask, h, [unreadable, unknownItem, notOnLoan])
  | .status h => some (.status, h, [])
  | .fetchNotices h most => some (.fetchNotices, h, [most])
  | .cartridgeQuery h serial => some (.cartridgeQuery, h, [serial])
  | .bayQuery h bay => some (.bayQuery, h, [bay])
  | .rackQuery h => some (.rackQuery, h, [])
  | .projectionQuery h order => some (.projectionQuery, h, [order])
  | .containerQuery h container => some (.containerQuery, h, [container])
  | .bagQuery h bag => some (.bagQuery, h, [bag])
  | .laneQuery h => some (.laneQuery, h, [])
  | .noticeMask h mask mode => some (.noticeMask, h, [mask, mode])
  | .unknownKind _ _ => none
  | .frameDiscard _ _ => none
  | .readPeriod _ _ => none
  | .linkReset _ _ => none
  | .responsePlaced _ => none
  | .resetAssert => none
  | .resetRelease => none
  | .secondAdvance => none
  | .slotExpiry => none
  | .idleExpiry _ => none

/-! ### From a select period's bytes to a command -/

/-- The values of consecutive fields of the given sizes. -/
def splitFields : List Nat → List Byte → List Nat
  | [], _ => []
  | n :: sizes, bytes => fromBytes (bytes.take n) :: splitFields sizes (bytes.drop n)

/-- The command of a frame that R165 has passed: test 1 of R166 tells an unknown kind, and the fields
are read only where N is the kind's length. -/
def decodeFrame (p : Port) (clocked : Nat) (frame : List Byte) : Instr :=
  let h : Header := ⟨p, (frame.getD 2 0).toNat, frame.length, clocked⟩
  let code := (frame.getD 1 0).toNat
  match Kind.ofCode code with
  | none => .unknownKind h code
  | some k => k.build h (if frame.length = k.length then splitFields k.sizes (frame.drop 3) else [])

/-- The command that the bytes of one select period spell (R165). A period in which no byte is clocked
spells none. -/
def decodePeriod (p : Port) (bytes : List Byte) : Option Instr :=
  match bytes with
  | [] => none
  | first :: _ =>
    let n := first.toNat
    if n = 0 then some (.readPeriod p bytes.length)
    else if n = 255 then some (.linkReset p bytes.length)
    else if n < 5 ∨ 64 < n then some (.frameDiscard p bytes.length)
    else if bytes.length < n then some (.frameDiscard p bytes.length)
    else if byteSum (bytes.take n) ≠ 0 then some (.frameDiscard p bytes.length)
    else some (decodeFrame p bytes.length (bytes.take n))

/-! ### From a command to a select period's bytes -/

/-- The body of a request: its fields at their sizes, or one byte where the kind carries no fields. -/
def bodyBytes (sizes values : List Nat) : List Byte :=
  if sizes = [] then [0] else (List.zipWith beBytes sizes values).flatten

/-- The bytes of the select period that brings in a request or is a read period or a link reset:
the frame, and bytes of 0 for what is clocked after it (which the part ignores, R165). -/
def encodePeriod (i : Instr) : Option (List Byte) :=
  match i with
  | .readPeriod _ n => some (List.replicate n 0)
  | .linkReset _ n => some (255 :: List.replicate (n - 1) 0)
  | _ =>
    match i.request with
    | none => none
    | some (k, h, v) =>
      let frame := withCheck ([BitVec.ofNat 8 k.length, BitVec.ofNat 8 k.code, BitVec.ofNat 8 h.tag] ++ bodyBytes k.sizes v)
      some (frame ++ List.replicate (h.clocked - k.length) 0)

/-! ### The fixed name -/

/-- The table gives bits to no row, so no word spells a command (log entry 4). -/
def decodeTableWord (_nbits _w : Nat) : Option Instr := none

end Sys2Proof
end

