-- ==== Sys2Proof/Config.lean ====
section
/-! DEFINITION. What the spec leaves open. The part has no setting that an implementation fixes; the
one value the spec does not state is held here as a constant with no body. -/

namespace Sys2Proof

/-- R12 and R19 report "the state the order holds when the response is placed". Where the order has
left the book between the request and RESPONSE_PLACED, no rule states the byte reported. It is this
constant at the order's number: nothing in the model can evaluate it (log entry 5). -/
opaque Config.goneOrderState : Nat → Nat

end Sys2Proof
end

