-- ==== Sys2Proof/Machine/State.lean ====
section
/-! DEFINITION. The state of the part, block by block as Table 0-2 divides it, and the state after
power-on reset. Every field is plain data. -/

namespace Sys2Proof.Machine

/-- A table of records found by number, as (number, record) pairs in strictly rising order of number:
where a record sits in a table cannot be seen from any port (1.1). -/
abbrev Table (α : Type) := List (Nat × α)

/-! ### Patron table (Chapter 1) -/

/-- The hold causes of a patron (1.2). -/
structure Causes where
  limit : Bool
  overdue : Bool
  suspended : Bool
  deriving DecidableEq, Repr

/-- A patron record (R1, Table 1-1); its number is its key in the table. -/
structure Patron where
  region : Nat
  high : Nat
  restore : Nat
  outstanding : Nat
  overdue : Nat
  causes : Causes
  deferred : List Nat
  openContainer : Option Nat
  deriving DecidableEq, Repr

/-! ### Order book (Chapter 1) -/

/-- Priority of an order (Table 1-2). -/
inductive Priority where
  | standard
  | rush
  deriving DecidableEq, Repr

/-- Format of a title, and of an order for it (Tables 1-2 and 2-1). -/
inductive Format where
  | cartridge
  | braille
  deriving DecidableEq, Repr

/-- Order states, in the order of Table 1-3. -/
inductive OrderState where
  | pending
  | waitingCopy
  | writing
  | verifying
  | ready
  | packed
  | stalled
  deriving DecidableEq, Repr

/-- An order's tag (R100, R104). -/
inductive Tag where
  | noTag
  | onTime
  | late
  deriving DecidableEq, Repr

/-- An order record (R6, Table 1-2). -/
structure Order where
  patron : Nat
  title : Nat
  format : Format
  priority : Priority
  placedDay : Nat
  placedSecond : Nat
  state : OrderState
  retry : Nat
  serial : Option Nat
  bay : Option Nat
  copy : Option Nat
  ready : Option Nat
  tag : Tag
  container : Option Nat
  deriving DecidableEq, Repr

/-- The order book, its number counter and the pending queue (R6, R7, R9). -/
structure OrderBook where
  orders : Table Order
  counter : Nat
  queue : List Nat
  deriving DecidableEq, Repr

/-! ### Title catalogue (Chapter 2) -/

/-- A slice selector (Tables 2-1 and 5-1). -/
inductive Selector where
  | a
  | b
  deriving DecidableEq, Repr

/-- A copy map entry (R27, Table 2-2). -/
inductive Copy where
  | absent
  | onShelf
  | allocated (order : Nat)
  | onLoan (loan : Nat)
  deriving DecidableEq, Repr

/-- A title record (R25, Table 2-1): the fields of the other format are absent from it. copies_total is
the number of entries of the copy map that are not ABSENT (R27), so it is computed from the map. -/
inductive Title where
  | cartridge (size : Nat) (selector : Selector)
  | braille (copies : List Copy) (hold : List Nat)
  deriving DecidableEq, Repr

/-! ### Cartridges (Chapter 3) -/

/-- Cartridge states, in the order of Table 3-2. -/
inductive CartridgeState where
  | blank
  | needsBlank
  | inBay
  | written
  | packed
  | onLoan
  | retired
  deriving DecidableEq, Repr

/-- What a cartridge is bound to (R48). -/
inductive Binding where
  | unbound
  | order (n : Nat)
  | loan (n : Nat)
  deriving DecidableEq, Repr

/-- A cartridge record (R42, Table 3-1). -/
structure Cartridge where
  state : CartridgeState
  writes : Nat
  failures : Nat
  dirty : Nat
  bound : Binding
  bay : Option Nat
  deriving DecidableEq, Repr

/-- The cartridge table, the blank pool and the blank backlog (R42, R51, R52). -/
structure CartridgeStore where
  table : Table Cartridge
  pool : List Nat
  backlog : List Nat
  deriving DecidableEq, Repr

/-! ### Duplication rack (Chapters 4 and 5) -/

/-- Bay states, in the order of Table 4-1. -/
inductive BayState where
  | empty
  | blanking
  | armed
  | writing
  | verifying
  | done
  | eject
  | faulted
  deriving DecidableEq, Repr

/-- The kind of a job; a WRITE job names its order and carries its selector (R60). -/
inductive JobKind where
  | write (order : Nat) (selector : Selector)
  | blank
  deriving DecidableEq, Repr

/-- A job record (R60). -/
structure Job where
  kind : JobKind
  total : Nat
  remaining : Nat
  deriving DecidableEq, Repr

/-- Fault kinds of a bay (Table 4-1). -/
inductive FaultKind where
  | drive
  | shortWrite
  | removedInJob
  deriving DecidableEq, Repr

/-- A bay record (R58, Table 4-1). -/
structure Bay where
  state : BayState
  cartridge : Option Nat
  job : Option Job
  fault : Option FaultKind
  aborted : Option Job
  deriving DecidableEq, Repr

/-- The bay record after power-on reset (R58). -/
def Bay.vacant : Bay := ⟨.empty, none, none, none, none⟩

/-- Rack states (R84). -/
inductive RackState where
  | stopped
  | running
  | stalled
  deriving DecidableEq, Repr

/-- Rack modes (Table 5-1). -/
inductive Mode where
  | single
  | continuous
  deriving DecidableEq, Repr

/-- One entry of a round's slot list: its pair, and whether each bay of the pair is enrolled (R88). -/
structure Entry where
  pair : Nat
  even : Bool
  odd : Bool
  deriving DecidableEq, Repr

/-- A round record (R88). `next` counts the entries that the next entry has moved past, so it equals the
number of entries when the next entry stands at the end of the list. -/
structure Round where
  number : Nat
  time : Nat
  entries : List Entry
  next : Nat
  reported : Nat
  deriving DecidableEq, Repr

/-- One bay's share of a slot: its grant, the kind of the job it was granted for (none for a grant of
0), and whether that job has been lost (R92). -/
structure Grant where
  blocks : Nat
  kind : Option JobKind
  lost : Bool
  deriving DecidableEq, Repr

/-- The outstanding slot record (R92). -/
structure Slot where
  pair : Nat
  even : Grant
  odd : Grant
  grantTick : Nat
  deadline : Nat
  deriving DecidableEq, Repr

/-- The scheduler record (R83, Table 5-1). -/
structure Scheduler where
  state : RackState
  mode : Mode
  round : Option Round
  roundNumber : Nat
  slot : Option Slot
  widthA : Nat
  widthB : Nat
  blankSel : Selector
  vt : Nat
  deriving DecidableEq, Repr

/-! ### Day clock (Chapter 7) -/

/-- Mail day states, in day order (R115). -/
inductive MailDay where
  | day
  | lastCall
  | afterCutoff
  deriving DecidableEq, Repr

/-- The day clock record (R113, Table 7-1) and the time base it runs on (R83, R114): `tick` counts
channel ticks since the release of the reset input, `seconds` the multiples of 500 already taken. -/
structure Clock where
  second : Nat
  day : Nat
  cutoff : Nat
  margin : Nat
  mailDay : MailDay
  tick : Nat
  seconds : Nat
  deriving DecidableEq, Repr

/-! ### Packing unit (Chapter 8) -/

/-- Container states, in the order of Table 8-3. -/
inductive ContainerState where
  | opened
  | closed
  | sealed
  | waitingBag
  | bagged
  deriving DecidableEq, Repr

/-- A container record (R125, Table 8-2). `idle` is absent while the idle count is stopped. -/
structure Container where
  patron : Nat
  region : Nat
  state : ContainerState
  items : List Nat
  braille : Bool
  lastItem : Nat
  idle : Option Nat
  held : Bool
  bag : Option Nat
  deriving DecidableEq, Repr

/-- Bag states (R136). -/
inductive BagState where
  | filling
  | closed
  deriving DecidableEq, Repr

/-- A bag record (R136). -/
structure Bag where
  region : Nat
  state : BagState
  containers : List Nat
  atCutoff : Bool
  deriving DecidableEq, Repr

/-- The packing unit (R124). -/
structure Packing where
  containers : Table Container
  bags : Table Bag
  unbagged : List Nat
  containerCounter : Nat
  bagCounter : Nat
  idleTime : Nat
  allowance : Nat
  deriving DecidableEq, Repr

/-! ### Loans and the returns lane (Chapter 9) -/

/-- A loan's item: a cartridge serial or a braille copy index (Table 9-1). -/
inductive Item where
  | cartridge (serial : Nat)
  | copy (index : Nat)
  deriving DecidableEq, Repr

/-- Loan states (R146). -/
inductive LoanState where
  | out
  | overdue
  deriving DecidableEq, Repr

/-- A loan record (R144, Table 9-1). -/
structure Loan where
  patron : Nat
  title : Nat
  item : Item
  dispatchDay : Nat
  dueDay : Nat
  state : LoanState
  deriving DecidableEq, Repr

/-- The loan table, its counter and the circulation settings (R144, R145, R147). -/
structure LoanBook where
  loans : Table Loan
  counter : Nat
  period : Nat
  grace : Nat
  wearLimit : Nat
  poolReserve : Nat
  deriving DecidableEq, Repr

/-- Lane states (R149). -/
inductive LaneState where
  | running
  | stopped
  deriving DecidableEq, Repr

/-- Return error kinds (R151). -/
inductive ErrorKind where
  | unreadable
  | unknownItem
  | notOnLoan
  deriving DecidableEq, Repr

/-- The item of a RETURN_ITEM as the request gave it (R149). -/
inductive GivenItem where
  | cartridge (serial : Nat)
  | copy (title index : Nat)
  | unreadable
  deriving DecidableEq, Repr

/-- A capture record (R149). The condition is not read for UNREADABLE, and is then absent. -/
structure Capture where
  kind : ErrorKind
  item : GivenItem
  condition : Option Nat
  day : Nat
  second : Nat
  deriving DecidableEq, Repr

/-- The lane's stop mask: which error kinds are masked (R149). -/
structure StopMask where
  unreadable : Bool
  unknownItem : Bool
  notOnLoan : Bool
  deriving DecidableEq, Repr

/-- The returns lane record (R149, Table 9-3). -/
structure Lane where
  state : LaneState
  capture : Option Capture
  more : Bool
  mask : StopMask
  returnsToday : Nat
  errorsToday : Nat
  deriving DecidableEq, Repr

/-! ### Port units (Chapter 10) -/

/-- Outcome codes (Table 10-5). -/
inductive Code where
  | accepted
  | deferred
  | clamped
  | none
  | worn
  | notPermitted
  | unknownKind
  | badLength
  | range
  | notFound
  | duplicate
  | full
  | wrongState
  | tooLate
  | laneStopped
  deriving DecidableEq, Repr

/-- Notice kinds (Table 10-6). -/
inductive NoticeKind where
  | orderStalled
  | deferredDropped
  | overdue
  | returnError
  | dispatched
  | bayJob
  | roundDone
  | slotTimeout
  | pick
  | projectionChanged
  | containerClosed
  | bagClosed
  | lastCall
  | cutoff
  | laneStopped
  deriving DecidableEq, Repr

/-- One field of a response body or of a notice: its size in bytes and its value (10.2). -/
structure Field where
  size : Nat
  value : Nat
  deriving DecidableEq, Repr

/-- A notice (R173). -/
structure Notice where
  kind : NoticeKind
  subject : Nat
  second : Nat
  data : List Field
  deriving DecidableEq, Repr

/-- What a block has answered to a request and the port unit has still to place (R167): the request's
kind code and tag, the outcome and the body. Where `orderState` names an order, the body ends with the
state that order holds when the response is placed (R12, R19). -/
structure Reply where
  kind : Nat
  tag : Nat
  code : Code
  body : List Field
  orderState : Option Nat
  deriving DecidableEq, Repr

/-- The response slot (Table 10-1). -/
inductive ResponseSlot where
  | empty
  | awaiting (reply : Reply)
  | holding (frame : List Byte)
  deriving DecidableEq, Repr

/-- Attention modes (R176). -/
inductive AttentionMode where
  | level
  | pulse
  deriving DecidableEq, Repr

/-- A port unit (R163, Table 10-1), with two records of its outputs: the response bytes (or bytes of 0)
shifted out in the port's last select period, and the count of attention pulses given (log entry 3). -/
structure PortUnit where
  assembly : List Byte
  slot : ResponseSlot
  overrun : Bool
  badFrame : Bool
  noticeLost : Bool
  notices : List Notice
  mask : BitVec 16
  mode : AttentionMode
  shifted : List Byte
  pulses : Nat
  deriving DecidableEq, Repr

/-- The four port units. -/
structure Ports where
  circulation : PortUnit
  rack : PortUnit
  mail : PortUnit
  returns : PortUnit
  deriving DecidableEq, Repr

/-! ### The whole part -/

/-- The state of the part: the commands waiting to be taken, first in first out; whether the reset
input is asserted (R179); and the blocks of Table 0-2. -/
structure State where
  pending : List Instr
  resetHeld : Bool
  ports : Ports
  patrons : Table Patron
  book : OrderBook
  titles : Table Title
  carts : CartridgeStore
  bays : List Bay
  rack : Scheduler
  clock : Clock
  packing : Packing
  loans : LoanBook
  lane : Lane
  deriving DecidableEq, Repr

/-- A port unit after power-on reset and after a link reset (Table 10-1). -/
def PortUnit.reset : PortUnit where
  assembly := []
  slot := .empty
  overrun := false
  badFrame := false
  noticeLost := false
  notices := []
  mask := 0
  mode := .level
  shifted := []
  pulses := 0

/-- The scheduler after power-on reset (Table 5-1). -/
def Scheduler.reset : Scheduler where
  state := .stopped
  mode := .continuous
  round := none
  roundNumber := 0
  slot := none
  widthA := 64
  widthB := 16
  blankSel := .b
  vt := 3

/-- The day clock after power-on reset (Table 7-1), the time base at its start (R180). -/
def Clock.reset : Clock where
  second := 0
  day := 0
  cutoff := 61200
  margin := 1800
  mailDay := .day
  tick := 0
  seconds := 0

/-- The packing unit after power-on reset (R124, Table 8-1). -/
def Packing.reset : Packing where
  containers := []
  bags := []
  unbagged := []
  containerCounter := 1
  bagCounter := 1
  idleTime := 900
  allowance := 600

/-- The loan table and the circulation settings after power-on reset (R144, R145, Table 9-2). -/
def LoanBook.reset : LoanBook where
  loans := []
  counter := 1
  period := 42
  grace := 14
  wearLimit := 1000
  poolReserve := 16

/-- The returns lane after power-on reset (Table 9-3). -/
def Lane.reset : Lane where
  state := .running
  capture := none
  more := false
  mask := ⟨false, false, false⟩
  returnsToday := 0
  errorsToday := 0

/-- The part right after power-on reset, with the reset input released (R179, R180; log entry 2). -/
def State.reset : State where
  pending := []
  resetHeld := false
  ports := ⟨.reset, .reset, .reset, .reset⟩
  patrons := []
  book := ⟨[], 1, []⟩
  titles := []
  carts := ⟨[], [], []⟩
  bays := List.replicate 32 Bay.vacant
  rack := .reset
  clock := .reset
  packing := .reset
  loans := .reset
  lane := .reset

/-! ### Outcomes that are no next state -/

/-- The spec gives the part no fault: every request is answered, every discarded frame sets a mark, and
every event has an effect or does not take place. So this type has no constructor. -/
inductive Fault where
  deriving DecidableEq, Repr

/-- Why a command has no meaning in the model. -/
inductive Refusal where
  /-- Raised by `exec` alone, for a row that has no meaning yet; no arm raises it now. It stops the
  machine where the part goes on, which is the safe side. -/
  | notModelled (mnemonic : String)
  deriving DecidableEq, Repr

end Sys2Proof.Machine
end

