-- ==== Sys2Proof/Machine/Limits.lean ====
section
/-! DEFINITION. The fixed quantities of the part: table capacities, list lengths, ranges and times. -/

namespace Sys2Proof.Machine

/-- R1. -/
def maxPatrons : Nat := 2048
/-- R5. -/
def maxDeferred : Nat := 6
/-- R6, R8. -/
def maxOrders : Nat := 512
/-- R8: the greatest number of orders and loans together. -/
def maxCirculation : Nat := 4096
/-- R7, R126, R145: order, container and loan numbers run to this, then 1. -/
def maxNumber : Nat := 65535
/-- R126: bag numbers run to this, then 1. -/
def maxBagNumber : Nat := 255
/-- R25. -/
def maxTitles : Nat := 1024
/-- R27: the entries of a copy map. -/
def copyEntries : Nat := 64
/-- Table 2-1: the largest image size in blocks. -/
def maxImage : Nat := 65536
/-- R42. -/
def maxCartridges : Nat := 4096
/-- R44: write counts hold here. -/
def maxWrites : Nat := 4095
/-- R58. -/
def bayCount : Nat := 32
/-- 5.3: the pairs of the rack. -/
def pairCount : Nat := 16
/-- R83: the greatest round number. -/
def maxRound : Nat := 4294967295
/-- R89, Table 6-2: the changeover G, in channel ticks. -/
def changeover : Nat := 5
/-- R92: the margin of a slot's deadline, in channel ticks. -/
def slotMargin : Nat := 250
/-- R114: channel ticks in a second. -/
def ticksPerSecond : Nat := 500
/-- 0.8: the value a ready second takes for "not today"; one past the last second of a day. -/
def daySeconds : Nat := 86400
/-- Table 7-1: day numbers hold here. -/
def maxDay : Nat := 65535
/-- R124. -/
def maxContainers : Nat := 256
/-- R124. -/
def maxBags : Nat := 16
/-- R136. -/
def bagCapacity : Nat := 24
/-- R125. -/
def containerCapacity : Nat := 3
/-- Table 8-2: idle counts hold here. -/
def maxIdle : Nat := 7200
/-- R146: overdue counts hold here. -/
def maxOverdue : Nat := 15
/-- R163. -/
def maxNotices : Nat := 32
/-- R149: the lane's day counts hold here. -/
def maxLaneCount : Nat := 65535

end Sys2Proof.Machine
end

