-- ==== Sys2Proof/Machine/Operands.lean ====
section
/-! DEFINITION. The operand forms: the codes of enumerated fields and states (Table 10-4, 10.2), the
reading of a code into its value, and the field a RANGE refusal names (R168). -/

namespace Sys2Proof.Machine

/-! ### Field sizes of a body (10.2) -/

/-- A field of one byte. -/
def u1 (v : Nat) : Field := ⟨1, v⟩
/-- A field of two bytes. -/
def u2 (v : Nat) : Field := ⟨2, v⟩
/-- A field of three bytes. -/
def u3 (v : Nat) : Field := ⟨3, v⟩
/-- A field of four bytes. -/
def u4 (v : Nat) : Field := ⟨4, v⟩
/-- A mark that says yes or no: 1 for yes, 0 for no. -/
def mark (b : Bool) : Field := ⟨1, if b then 1 else 0⟩
/-- A field that may be absent, sent as 0 at its size when it is. -/
def orZero (v : Option Nat) : Nat := v.getD 0

/-- The first field, by its place from 1, whose check fails (R168). -/
def firstBad : List Bool → Option Nat
  | [] => none
  | true :: _ => some 1
  | false :: rest => (firstBad rest).map (· + 1)

/-! ### Codes read from requests (Table 10-4): each list is 0 and 1 -/

/-- 0 STANDARD, 1 RUSH. -/
def priorityOf (c : Nat) : Priority := if c = 1 then .rush else .standard
/-- 0 CARTRIDGE, 1 BRAILLE. -/
def formatOf (c : Nat) : Format := if c = 1 then .braille else .cartridge
/-- 0 A, 1 B. -/
def selectorOf (c : Nat) : Selector := if c = 1 then .b else .a
/-- 0 SINGLE, 1 CONTINUOUS. -/
def modeOf (c : Nat) : Mode := if c = 1 then .continuous else .single
/-- 0 LEVEL, 1 PULSE. -/
def attentionOf (c : Nat) : AttentionMode := if c = 1 then .pulse else .level

/-! ### Codes sent in responses and notices -/

/-- 0 STANDARD, 1 RUSH. -/
def Priority.code : Priority → Nat
  | .standard => 0
  | .rush => 1

/-- 0 CARTRIDGE, 1 BRAILLE. -/
def Format.code : Format → Nat
  | .cartridge => 0
  | .braille => 1

/-- Places in Table 1-3, from 0. -/
def OrderState.code : OrderState → Nat
  | .pending => 0
  | .waitingCopy => 1
  | .writing => 2
  | .verifying => 3
  | .ready => 4
  | .packed => 5
  | .stalled => 6

/-- 0 NONE, 1 ON_TIME, 2 LATE. -/
def Tag.code : Tag → Nat
  | .noTag => 0
  | .onTime => 1
  | .late => 2

/-- 0 A, 1 B. -/
def Selector.code : Selector → Nat
  | .a => 0
  | .b => 1

/-- Places in Table 2-2, from 0. -/
def Copy.code : Copy → Nat
  | .absent => 0
  | .onShelf => 1
  | .allocated _ => 2
  | .onLoan _ => 3

/-- Places in Table 3-2, from 0. -/
def CartridgeState.code : CartridgeState → Nat
  | .blank => 0
  | .needsBlank => 1
  | .inBay => 2
  | .written => 3
  | .packed => 4
  | .onLoan => 5
  | .retired => 6

/-- Places in Table 4-1's list of states, from 0. -/
def BayState.code : BayState → Nat
  | .empty => 0
  | .blanking => 1
  | .armed => 2
  | .writing => 3
  | .verifying => 4
  | .done => 5
  | .eject => 6
  | .faulted => 7

/-- 0 none, 1 WRITE, 2 BLANK. -/
def jobKindCode : Option JobKind → Nat
  | none => 0
  | some (.write _ _) => 1
  | some .blank => 2

/-- The order of a WRITE job. -/
def JobKind.order : JobKind → Option Nat
  | .write n _ => some n
  | .blank => none

/-- 1 DRIVE, 2 SHORT_WRITE, 3 REMOVED_IN_JOB; 0 when absent. -/
def faultCode : Option FaultKind → Nat
  | none => 0
  | some .drive => 1
  | some .shortWrite => 2
  | some .removedInJob => 3

/-- Places in Table 5-1's list, from 0. -/
def RackState.code : RackState → Nat
  | .stopped => 0
  | .running => 1
  | .stalled => 2

/-- 0 SINGLE, 1 CONTINUOUS. -/
def Mode.code : Mode → Nat
  | .single => 0
  | .continuous => 1

/-- Places in Table 7-1's list, from 0. -/
def MailDay.code : MailDay → Nat
  | .day => 0
  | .lastCall => 1
  | .afterCutoff => 2

/-- Places in Table 8-3, from 0. -/
def ContainerState.code : ContainerState → Nat
  | .opened => 0
  | .closed => 1
  | .sealed => 2
  | .waitingBag => 3
  | .bagged => 4

/-- Places in R136's list, from 0. -/
def BagState.code : BagState → Nat
  | .filling => 0
  | .closed => 1

/-- Places in Table 9-1's list, from 0. -/
def LoanState.code : LoanState → Nat
  | .out => 0
  | .overdue => 1

/-- Places in Table 9-3's list, from 0. -/
def LaneState.code : LaneState → Nat
  | .running => 0
  | .stopped => 1

/-- 1 UNREADABLE, 2 UNKNOWN_ITEM, 3 NOT_ON_LOAN (0 is RETURNED). -/
def ErrorKind.code : ErrorKind → Nat
  | .unreadable => 1
  | .unknownItem => 2
  | .notOnLoan => 3

/-- 0 LEVEL, 1 PULSE. -/
def AttentionMode.code : AttentionMode → Nat
  | .level => 0
  | .pulse => 1

/-- Outcome codes (Table 10-5). -/
def Code.byte : Code → Nat
  | .accepted => 0x00
  | .deferred => 0x01
  | .clamped => 0x02
  | .none => 0x03
  | .worn => 0x04
  | .notPermitted => 0x10
  | .unknownKind => 0x11
  | .badLength => 0x12
  | .range => 0x13
  | .notFound => 0x14
  | .duplicate => 0x15
  | .full => 0x16
  | .wrongState => 0x17
  | .tooLate => 0x18
  | .laneStopped => 0x19

/-- Notice kind codes (Table 10-6). -/
def NoticeKind.code : NoticeKind → Nat
  | .orderStalled => 1
  | .deferredDropped => 2
  | .overdue => 3
  | .returnError => 4
  | .dispatched => 5
  | .bayJob => 6
  | .roundDone => 7
  | .slotTimeout => 8
  | .pick => 9
  | .projectionChanged => 10
  | .containerClosed => 11
  | .bagClosed => 12
  | .lastCall => 13
  | .cutoff => 14
  | .laneStopped => 15

/-- Container close causes: 1 IDLE, 2 RELEASED, 3 LAST_CALL. -/
inductive CloseCause where
  | idle
  | released
  | lastCall
  deriving DecidableEq, Repr

/-- Table 10-4. -/
def closeCode : CloseCause → Nat
  | .idle => 1
  | .released => 2
  | .lastCall => 3

end Sys2Proof.Machine
end

