-- ==== Sys2Proof/Machine/Flags.lean ====
section
/-! DEFINITION. The flags the part computes: hold causes (R3, R4), the mail day state (R115), an
order's tag (R104), the waited-for test (R133), a due idle timer
(R131), link status (R164) and the attention line (R176). -/

namespace Sys2Proof.Machine

/-! ### Hold causes (1.2) -/

/-- Whether any cause is held. -/
def Causes.any (c : Causes) : Bool :=
  c.limit || c.overdue || c.suspended

/-- R3: LIMIT follows the outstanding count with hysteresis. -/
def limitCause (high restore outstanding : Nat) (held : Bool) : Bool :=
  if outstanding = high then true
  else if outstanding ≤ restore then false
  else held

/-- R3: the patron with LIMIT re-evaluated. -/
def Patron.relimit (p : Patron) : Patron :=
  { p with causes := { p.causes with limit := limitCause p.high p.restore p.outstanding p.causes.limit } }

/-- R2: the outstanding count one higher, and LIMIT re-evaluated at once. -/
def Patron.gain (p : Patron) : Patron :=
  Patron.relimit { p with outstanding := p.outstanding + 1 }

/-- R2: the outstanding count one lower, and LIMIT re-evaluated at once. -/
def Patron.lose (p : Patron) : Patron :=
  Patron.relimit { p with outstanding := p.outstanding - 1 }

/-- R4: `n` more loans found OVERDUE; the count holds at 15 and OVERDUE is set. -/
def Patron.sweep (p : Patron) (n : Nat) : Patron :=
  if n = 0 then p
  else { p with overdue := min maxOverdue (p.overdue + n), causes := { p.causes with overdue := true } }

/-- R4, R153 step 3: an OVERDUE loan returned; at 0 the OVERDUE cause is cleared. -/
def Patron.overdueReturned (p : Patron) : Patron :=
  { p with
    overdue := p.overdue - 1
    causes := { p.causes with overdue := if p.overdue - 1 = 0 then false else p.causes.overdue } }

/-! ### The mail day (7.2) -/

/-- R113: the last-call second L is C − M, or 0 if M is at least C. -/
def lastCallSecond (cutoff margin : Nat) : Nat :=
  cutoff - margin

/-- R113: L as the clock's settings give it. -/
def Clock.lastCall (c : Clock) : Nat :=
  lastCallSecond c.cutoff c.margin

/-- R115: the state derived from the second, L and C. -/
def deriveMailDay (second lastCall cutoff : Nat) : MailDay :=
  if second < lastCall then .day
  else if second < cutoff then .lastCall
  else .afterCutoff

/-- R115: the state derived from the clock as it stands. -/
def Clock.derived (c : Clock) : MailDay :=
  deriveMailDay c.second c.lastCall c.cutoff

/-- R104: ON_TIME if the mail day state is DAY and the ready second is below L, and LATE otherwise. -/
def Clock.tagOf (c : Clock) (ready : Nat) : Tag :=
  if c.mailDay = .day ∧ ready < c.lastCall then .onTime else .late

/-- R109: whether a tag has gone from ON_TIME to LATE or from LATE to ON_TIME. -/
def tagChanged : Tag → Tag → Bool
  | .onTime, .late => true
  | .late, .onTime => true
  | _, _ => false

/-! ### Orders, containers, bays -/

/-- R133: WRITING or VERIFYING with tag ON_TIME, or a cartridge order that is READY. -/
def Order.waitedFor (o : Order) : Bool :=
  match o.state with
  | .writing => decide (o.tag = .onTime)
  | .verifying => decide (o.tag = .onTime)
  | .ready => decide (o.format = .cartridge)
  | _ => false

/-- R131: whether a container is OPEN with its running idle count at or above an idle time. -/
def Container.idleDue (c : Container) (idleTime : Nat) : Bool :=
  decide (c.state = .opened) && c.idle.any (fun n => decide (idleTime ≤ n))

/-- R59: a bay has an active job while it is BLANKING or WRITING. -/
def Bay.active (b : Bay) : Bool :=
  decide (b.state = .blanking) || decide (b.state = .writing)

/-- R59: a bay holds a job in the three states BLANKING, WRITING and VERIFYING. -/
def BayState.holdsJob : BayState → Bool
  | .blanking => true
  | .writing => true
  | .verifying => true
  | _ => false

/-- R151, R149: whether the stop mask masks an error kind. -/
def StopMask.masks (m : StopMask) : ErrorKind → Bool
  | .unreadable => m.unreadable
  | .unknownItem => m.unknownItem
  | .notOnLoan => m.notOnLoan

/-! ### Links (Chapter 10) -/

/-- R175: bit k − 1 of the mask masks the notice kind with code k. -/
def PortUnit.masks (u : PortUnit) (k : NoticeKind) : Bool :=
  u.mask.getLsbD (k.code - 1)

/-- Table 10-2: bit 0 OVERRUN, bit 1 BAD_FRAME, bit 2 NOTICE_LOST. -/
def PortUnit.linkStatus (u : PortUnit) : Nat :=
  (if u.overrun then 1 else 0) + (if u.badFrame then 2 else 0) + (if u.noticeLost then 4 else 0)

/-- R176: the attention line in LEVEL mode. Between pulses the line of a port in PULSE mode is
released; the pulses themselves are counted in `pulses`. -/
def PortUnit.attention (u : PortUnit) : Bool :=
  match u.mode with
  | .pulse => false
  | .level =>
    (match u.slot with
      | .holding _ => true
      | _ => false) || u.notices.any (fun n => !u.masks n.kind)

end Sys2Proof.Machine
end

