-- ==== Sys2Proof/Machine/Table.lean ====
section
/-! DEFINITION. Operations on tables of records found by number. A table stands in strictly rising
order of number, and every operation here keeps it so (Laws/Table.lean). -/

namespace Sys2Proof.Machine

variable {α : Type}

/-- The record with a number, if the table holds one. -/
def Table.look : Table α → Nat → Option α
  | [], _ => none
  | (k, v) :: rest, n => if k = n then some v else Table.look rest n

/-- Whether a record has the number. -/
def Table.has (t : Table α) (n : Nat) : Bool :=
  (t.look n).isSome

/-- The table with a record created under a number, or the record of that number replaced. -/
def Table.put : Table α → Nat → α → Table α
  | [], n, v => [(n, v)]
  | (k, w) :: rest, n, v =>
    if n < k then (n, v) :: (k, w) :: rest
    else if n = k then (n, v) :: rest
    else (k, w) :: Table.put rest n v

/-- The table without the record of a number. -/
def Table.drop (t : Table α) (n : Nat) : Table α :=
  t.filter (fun e => e.1 != n)

/-- The table with every record changed. -/
def Table.mapRecords (t : Table α) (f : Nat → α → α) : Table α :=
  t.map (fun e => (e.1, f e.1 e.2))

/-- The table with the record of one number changed; unchanged if there is none. -/
def Table.alter (t : Table α) (n : Nat) (f : α → α) : Table α :=
  t.mapRecords (fun k v => if k = n then f v else v)

/-- The canonical form: numbers strictly rising. -/
def Table.wf (t : Table α) : Bool :=
  decide (t.Pairwise (fun a b => a.1 < b.1))

end Sys2Proof.Machine
end

