-- ==== Sys2Proof/Machine/Ops.lean ====
section
/-! DEFINITION. The shared operations on the state: reading and changing one record of each block,
assigning numbers, joining the two-class queues, raising notices, and the work of a port unit. -/

namespace Sys2Proof.Machine

/-! ### Arithmetic -/

/-- The quotient rounded up to a whole number (6.1). -/
def ceilDiv (a b : Nat) : Nat :=
  (a + b - 1) / b

/-- R47: an extent rounded up to a whole number of 32-block units. -/
def units32 (extent : Nat) : Nat :=
  ceilDiv extent 32 * 32

/-! ### One record of each block -/

/-- The unit of a port. -/
def Ports.get (ps : Ports) : Port → PortUnit
  | .circulation => ps.circulation
  | .rack => ps.rack
  | .mail => ps.mail
  | .returns => ps.returns

/-- The four units with one replaced. -/
def Ports.set (ps : Ports) (p : Port) (u : PortUnit) : Ports :=
  match p with
  | .circulation => { ps with circulation := u }
  | .rack => { ps with rack := u }
  | .mail => { ps with mail := u }
  | .returns => { ps with returns := u }

/-- The unit of a port. -/
def State.unit (s : State) (p : Port) : PortUnit :=
  s.ports.get p

/-- The state with one port unit changed. -/
def State.onUnit (s : State) (p : Port) (f : PortUnit → PortUnit) : State :=
  { s with ports := s.ports.set p (f (s.ports.get p)) }

/-- The patron record of a number. -/
def State.patron (s : State) (n : Nat) : Option Patron :=
  s.patrons.look n

/-- The state with one patron record changed. -/
def State.onPatron (s : State) (n : Nat) (f : Patron → Patron) : State :=
  { s with patrons := s.patrons.alter n f }

/-- The order record of a number. -/
def State.order (s : State) (n : Nat) : Option Order :=
  s.book.orders.look n

/-- The state with one order record changed. -/
def State.onOrder (s : State) (n : Nat) (f : Order → Order) : State :=
  { s with book := { s.book with orders := s.book.orders.alter n f } }

/-- The state with every order record changed. -/
def State.onOrders (s : State) (f : Nat → Order → Order) : State :=
  { s with book := { s.book with orders := s.book.orders.mapRecords f } }

/-- The state with an order gone from the book. -/
def State.dropOrder (s : State) (n : Nat) : State :=
  { s with book := { s.book with orders := s.book.orders.drop n } }

/-- The state with the pending queue replaced. -/
def State.setQueue (s : State) (q : List Nat) : State :=
  { s with book := { s.book with queue := q } }

/-- The title record of a number. -/
def State.title (s : State) (n : Nat) : Option Title :=
  s.titles.look n

/-- The state with one title record changed. -/
def State.onTitle (s : State) (n : Nat) (f : Title → Title) : State :=
  { s with titles := s.titles.alter n f }

/-- The cartridge record of a serial. -/
def State.cart (s : State) (n : Nat) : Option Cartridge :=
  s.carts.table.look n

/-- The state with one cartridge record changed. -/
def State.onCart (s : State) (n : Nat) (f : Cartridge → Cartridge) : State :=
  { s with carts := { s.carts with table := s.carts.table.alter n f } }

/-- R51: a cartridge joins the tail of the blank pool. -/
def State.joinPool (s : State) (n : Nat) : State :=
  { s with carts := { s.carts with pool := s.carts.pool ++ [n] } }

/-- R52: a cartridge joins the tail of the blank backlog. -/
def State.joinBacklog (s : State) (n : Nat) : State :=
  { s with carts := { s.carts with backlog := s.carts.backlog ++ [n] } }

/-- A cartridge leaves the pool or the backlog from wherever it stands (R51, R52). -/
def State.leaveQueues (s : State) (n : Nat) : State :=
  { s with carts := { s.carts with pool := s.carts.pool.filter (· != n), backlog := s.carts.backlog.filter (· != n) } }

/-- The bay record of a bay number 0..31. -/
def State.bay (s : State) (b : Nat) : Bay :=
  s.bays.getD b Bay.vacant

/-- The state with one bay record replaced. -/
def State.setBay (s : State) (b : Nat) (r : Bay) : State :=
  { s with bays := s.bays.set b r }

/-- The state with the scheduler record changed. -/
def State.onRack (s : State) (f : Scheduler → Scheduler) : State :=
  { s with rack := f s.rack }

/-- The container record of a number. -/
def State.container (s : State) (n : Nat) : Option Container :=
  s.packing.containers.look n

/-- The state with one container record changed. -/
def State.onContainer (s : State) (n : Nat) (f : Container → Container) : State :=
  { s with packing := { s.packing with containers := s.packing.containers.alter n f } }

/-- The bag record of a number. -/
def State.bag (s : State) (n : Nat) : Option Bag :=
  s.packing.bags.look n

/-- The state with one bag record changed. -/
def State.onBag (s : State) (n : Nat) (f : Bag → Bag) : State :=
  { s with packing := { s.packing with bags := s.packing.bags.alter n f } }

/-- The loan record of a number. -/
def State.loan (s : State) (n : Nat) : Option Loan :=
  s.loans.loans.look n

/-! ### Numbers (R7, R126, R145) -/

/-- The number after `n`: the last is followed by 1, and 0 is passed over. -/
def nextNumber (last n : Nat) : Nat :=
  if last ≤ n then 1 else n + 1

/-- Stepping on from `n` to a number that no record of the table has. `fuel` steps are enough when it
is the number of records of the table (Laws/Numbers.lean). -/
def freeFrom {α : Type} (last : Nat) (t : Table α) : Nat → Nat → Nat
  | 0, n => n
  | fuel + 1, n => if t.has n then freeFrom last t fuel (nextNumber last n) else n

/-- R7: the number assigned to a new record, from the counter's value. -/
def assignNumber {α : Type} (last : Nat) (t : Table α) (counter : Nat) : Nat :=
  freeFrom last t t.length counter

/-! ### Queues in two classes (R9, R29) -/

/-- At the tail of its class: a RUSH order behind every RUSH order and ahead of every STANDARD one, a
STANDARD order at the end. -/
def joinTail (rush : Nat → Bool) (n : Nat) (q : List Nat) : List Nat :=
  if rush n then q.takeWhile rush ++ n :: q.dropWhile rush else q ++ [n]

/-- At the head of its class: a RUSH order at the front, a STANDARD order behind every RUSH order. -/
def joinHead (rush : Nat → Bool) (n : Nat) (q : List Nat) : List Nat :=
  if rush n then n :: q else q.takeWhile rush ++ n :: q.dropWhile rush

/-- Whether an order of the book has RUSH priority. -/
def State.isRush (s : State) (n : Nat) : Bool :=
  match s.order n with
  | some o => decide (o.priority = .rush)
  | none => false

/-- A place in a queue, the head being place 1; 0 where the queue does not hold the number. -/
def placeIn (q : List Nat) (n : Nat) : Nat :=
  match q.findIdx? (· == n) with
  | some i => i + 1
  | none => 0

/-! ### Notices (R172, R176) -/

/-- R172, R176: a notice joins the tail of the queue, or is dropped and NOTICE_LOST set where the queue
holds 32; in PULSE mode each one of an unmasked kind that joins gives a pulse. -/
def PortUnit.enqueue (u : PortUnit) (n : Notice) : PortUnit :=
  if maxNotices ≤ u.notices.length then { u with noticeLost := true }
  else
    { u with
      notices := u.notices ++ [n]
      pulses := if u.mode = .pulse ∧ u.masks n.kind = false then u.pulses + 1 else u.pulses }

/-- R172, R173: a notice is raised for a port, stamped with the second of the clock. -/
def State.raise (s : State) (p : Port) (kind : NoticeKind) (subject : Nat) (data : List Field) : State :=
  s.onUnit p (fun u => u.enqueue ⟨kind, subject, s.clock.second, data⟩)

/-! ### Responses (R164, R167, R168) -/

/-- What a block answers: the state its rule leaves, the outcome and the body. -/
structure Result where
  state : State
  code : Code
  body : List Field
  orderState : Option Nat

/-- R168, R169: a refusal leaves the state as it was, and its body is the place of the field it
concerns, or 0. -/
def refuse (s : State) (code : Code) (field : Nat) : Result :=
  ⟨s, code, [u1 field], none⟩

/-- An answer with its outcome and its body. -/
def answer (s : State) (code : Code) (body : List Field) : Result :=
  ⟨s, code, body, none⟩

/-- The outcome of a request that stores settings: CLAMPED if a value was changed to store it. -/
def clampedIf (changed : Bool) : Code :=
  if changed then .clamped else .accepted

/-- The bytes of a body. -/
def fieldBytes (body : List Field) : List Byte :=
  (body.map (fun f => beBytes f.size f.value)).flatten

/-- R164: the response frame of an outcome, with the link status it reports. -/
def responseFrame (kind tag : Nat) (code : Code) (status : Nat) (body : List Field) : List Byte :=
  let bytes := fieldBytes body
  withCheck ([BitVec.ofNat 8 (6 + bytes.length), BitVec.ofNat 8 kind, BitVec.ofNat 8 tag,
    BitVec.ofNat 8 code.byte, BitVec.ofNat 8 status] ++ bytes)

/-- R12, R19: the state an order holds when the response is placed; where the order has left the book by
then, a free value (log entry 5). -/
def State.orderStateByte (s : State) (n : Nat) : Nat :=
  match s.order n with
  | some o => o.state.code
  | none => Config.goneOrderState n

/-- The body as it is placed. -/
def State.placedBody (s : State) (r : Reply) : List Field :=
  match r.orderState with
  | none => r.body
  | some n => r.body ++ [u1 (s.orderStateByte n)]

/-- R167, R176: the response goes into the slot its unit holds occupied, with the marks as they stand;
each mark reported is cleared, and in PULSE mode the line gives a pulse. -/
def PortUnit.place (u : PortUnit) (r : Reply) (body : List Field) : PortUnit :=
  { u with
    slot := .holding (responseFrame r.kind r.tag r.code u.linkStatus body)
    overrun := false
    badFrame := false
    noticeLost := false
    pulses := if u.mode = .pulse then u.pulses + 1 else u.pulses }

/-! ### Select periods (R165, R166, R167) -/

/-- A select period in which `n` bytes are clocked: a placed response is shifted out from its first
byte, and leaves the slot when its last byte goes out; with no placed response the part shifts out
bytes of 0. The assembly buffer is empty when the period is over (R165). -/
def PortUnit.clockOut (u : PortUnit) (n : Nat) : PortUnit :=
  match u.slot with
  | .holding frame =>
    { u with
      assembly := []
      slot := if frame.length ≤ n then .empty else .holding frame
      shifted := frame.take n }
  | _ => { u with assembly := [], shifted := List.replicate n 0 }

/-- R166: the tests the port unit makes itself, after the slot: the kind's port, then its length. -/
def admission (k : Kind) (h : Header) : Option Code :=
  if k.port ≠ none ∧ k.port ≠ some h.port then some .notPermitted
  else if h.length ≠ k.length then some .badLength
  else none

/-- The unit with its slot occupied by a request whose response is not yet placed. -/
def PortUnit.await (u : PortUnit) (r : Reply) : PortUnit :=
  { u with slot := .awaiting r }

/-- The port of a period after its bytes have been clocked (R167). -/
def State.clocked (s : State) (h : Header) : State :=
  s.onUnit h.port (fun u => u.clockOut h.clocked)

/-- R165 to R168: one request, from its select period to the outcome that waits to be placed. While the
reset input is asserted no request is taken (R179). A slot that is not empty discards the request and
sets OVERRUN; the port unit's own refusals reach no block; a request that passes is carried out by its
block, `act`. -/
def takeRequest (code : Nat) (own : Option Code) (h : Header) (act : State → Result) (s : State) : State :=
  let s1 := s.clocked h
  if s1.resetHeld then s1
  else if (s1.unit h.port).slot ≠ .empty then s1.onUnit h.port (fun u => { u with overrun := true })
  else
    match own with
    | some c => s1.onUnit h.port (fun u => u.await ⟨code, h.tag, c, [u1 0], none⟩)
    | none =>
      let r := act s1
      r.state.onUnit h.port (fun u => u.await ⟨code, h.tag, r.code, r.body, r.orderState⟩)

/-- A request of a kind of Table 10-3. -/
def request (k : Kind) (h : Header) (act : State → Result) (s : State) : State :=
  takeRequest k.code (admission k h) h act s

end Sys2Proof.Machine
end

