-- ==== Sys2Proof/Machine/Projection.lean ====
section
/-! DEFINITION. The projection unit (Chapter 6): round times, the forms of a projection, and the points
at which orders are recomputed. The notices of tag changes are raised by `settle` (Packing.lean). -/

namespace Sys2Proof.Machine

/-! ### Stage 1: the round time (R89, R101) -/

/-- The width a selector chooses. -/
def Scheduler.width (r : Scheduler) : Selector → Nat
  | .a => r.widthA
  | .b => r.widthB

/-- A WRITE job's own selector, or the blank selector in force (R60). -/
def Scheduler.selector (r : Scheduler) : JobKind → Selector
  | .write _ sel => sel
  | .blank => r.blankSel

/-- The width of a job. -/
def Scheduler.jobWidth (r : Scheduler) (k : JobKind) : Nat :=
  r.width (r.selector k)

/-- R101: the lesser of width and remaining count for a bay with an active job, and 0 otherwise. -/
def sliceSize (r : Scheduler) (b : Bay) : Nat :=
  if b.active then
    match b.job with
    | some j => min (r.jobWidth j.kind) j.remaining
    | none => 0
  else 0

/-- A pair's share of the round time: the larger slice and the changeover, if a bay is active. -/
def pairTime (r : Scheduler) (even odd : Bay) : Nat :=
  if even.active || odd.active then max (sliceSize r even) (sliceSize r odd) + changeover else 0

/-- R101: the sum over the pairs, on the bays as they stand. -/
def State.roundTime (s : State) : Nat :=
  ((List.range pairCount).map (fun k => pairTime s.rack (s.bay (2 * k)) (s.bay (2 * k + 1)))).sum

/-! ### Stages 2 to 5 (R102, R103, R104) -/

/-- R102: the verify time V, in channel ticks, of an image read back in 256-block stripes. -/
def verifyTime (vt image : Nat) : Nat :=
  (vt + 1) * 4 * ceilDiv image 256

/-- The image size of a title; 0 for a title that is no cartridge title. -/
def State.image (s : State) (title : Nat) : Nat :=
  match s.title title with
  | some (.cartridge size _) => size
  | _ => 0

/-- R102 stage 4: the ready second that `ticks` channel ticks of work give, held at 86400. -/
def State.secondAfter (s : State) (ticks : Nat) : Nat :=
  min daySeconds (s.clock.second + ceilDiv ticks ticksPerSecond + s.packing.allowance)

/-- An order given a ready second, and its tag by R104. -/
def State.project (s : State) (o : Order) (ready : Nat) : Order :=
  { o with ready := some ready, tag := s.clock.tagOf ready }

/-- R106: the stopped form, ready second 86400 and tag LATE. -/
def Order.stoppedForm (o : Order) : Order :=
  { o with ready := some daySeconds, tag := .late }

/-- R102: the running form, with the round time `t` that the recompute point names. A WRITING order has
a job in its bay; an order without one takes the stopped form. -/
def State.runningForm (s : State) (t : Nat) (o : Order) : Order :=
  match o.bay.bind (fun b => (s.bay b).job) with
  | some j =>
    s.project o (s.secondAfter
      (ceilDiv j.remaining (s.rack.jobWidth j.kind) * t + verifyTime s.rack.vt (s.image o.title)))
  | none => o.stoppedForm

/-- R103: the verify form. -/
def State.verifyForm (s : State) (o : Order) : Order :=
  s.project o (s.secondAfter (verifyTime s.rack.vt (s.image o.title)))

/-- R103: the ready form, at the event in which the order becomes READY. -/
def State.readyForm (s : State) (o : Order) : Order :=
  s.project o s.clock.second

/-- Table 6-1: the form of a WRITING order, running while the rack is RUNNING and stopped otherwise. -/
def State.writingForm (s : State) (t : Nat) (o : Order) : Order :=
  if s.rack.state = .running then s.runningForm t o else o.stoppedForm

/-- R107: an order that loses its projection. -/
def Order.unproject (o : Order) : Order :=
  { o with ready := none, tag := .noTag }

/-! ### Recompute points (R105, R106, R108) -/

/-- R105: every WRITING order, in the running form with the round time named. -/
def State.recomputeWriting (s : State) (t : Nat) : State :=
  s.onOrders (fun _ o => if o.state = .writing then s.writingForm t o else o)

/-- R106: every WRITING order takes the stopped form when the rack leaves RUNNING. -/
def State.stopProjections (s : State) : State :=
  s.onOrders (fun _ o => if o.state = .writing then o.stoppedForm else o)

/-- R108: one order at a day recompute point; `newDay` at rollover and at a CLOCK_SET that changes the
day number. -/
def State.dayForm (s : State) (newDay : Bool) (o : Order) : Order :=
  match o.state with
  | .writing => s.writingForm s.roundTime o
  | .verifying => s.verifyForm o
  | .ready => s.project o (if newDay then 0 else min (orZero o.ready) s.clock.second)
  | .packed => s.project o (if newDay then 0 else min (orZero o.ready) s.clock.second)
  | _ => o

/-- R108: every order that carries a projection, recomputed by its state. -/
def State.dayRecompute (s : State) (newDay : Bool) : State :=
  s.onOrders (fun _ o => s.dayForm newDay o)

/-- R108, R117 step 2: every order whose tag is ON_TIME has it set to LATE. -/
def State.tagsLate (s : State) : State :=
  s.onOrders (fun _ o => if o.tag = .onTime then { o with tag := .late } else o)

end Sys2Proof.Machine
end

