-- ==== Sys2Proof/Machine/Packing.lean ====
section
/-! DEFINITION. The packing unit's shared acts (Chapter 8): closing and holding containers, the
re-examination, bags and the unbagged queue; and the settling of an event's tag changes (R109). -/

namespace Sys2Proof.Machine

/-! ### Containers (8.3) -/

/-- R130: to close a container is one act. -/
def State.closeContainer (s : State) (n : Nat) : State :=
  match s.container n with
  | none => s
  | some c =>
    (s.onContainer n (fun c => { c with state := .closed, idle := none, held := false })).onPatron c.patron
      (fun p => if p.openContainer = some n then { p with openContainer := none } else p)

/-- R130: a close that no response reports queues one CONTAINER_CLOSED notice for the mail port. -/
def State.closeWithNotice (s : State) (n : Nat) (cause : CloseCause) : State :=
  match s.container n with
  | none => s
  | some c =>
    (s.closeContainer n).raise .mail .containerClosed n
      [u3 c.patron, u1 c.region, u1 c.items.length, u1 (closeCode cause)]

/-- R133: whether the patron has a waited-for order. -/
def State.waits (s : State) (patron : Nat) : Bool :=
  s.book.orders.any (fun e => decide (e.2.patron = patron) && e.2.waitedFor)

/-- R132: holding, the held flag set and the idle count stopped. -/
def State.hold (s : State) (n : Nat) : State :=
  s.onContainer n (fun c => { c with held := true, idle := none })

/-- R132: the expiry of a container's idle timer, the close reported by notice. -/
def State.idleExpire (s : State) (n : Nat) : State :=
  match s.container n with
  | none => s
  | some c => if s.waits c.patron then s.hold n else s.closeWithNotice n .idle

/-- R134: the re-examination of a patron's held container; nothing is done if there is none. -/
def State.reexamine (s : State) (patron : Nat) : State :=
  match s.patron patron with
  | none => s
  | some p =>
    match p.openContainer with
    | none => s
    | some n =>
      match s.container n with
      | none => s
      | some c => if c.held && !s.waits patron then s.closeWithNotice n .released else s

/-! ### The end of an event (R109) -/

/-- R109, R110: the orders whose tag went between ON_TIME and LATE from the book at the event's start to
the book at its end, in ascending order number. -/
def changedTags (start : Table Order) (now : Table Order) : Table Order :=
  now.filter (fun e =>
    match start.look e.1 with
    | some o => tagChanged o.tag e.2.tag
    | none => false)

/-- R110: the PROJECTION_CHANGED notice of one order. -/
def State.noteChange (s : State) (e : Nat × Order) : State :=
  s.raise .mail .projectionChanged e.1 [u1 e.2.tag.code, u3 (orZero e.2.ready), u3 e.2.patron]

/-- R109: after all projection changes of the event, one notice for each order whose tag changed in
ascending order number, then each patron concerned handed to the packing unit once, in ascending patron
number. `start` is the book at the event's start, less an order that has left it in the event. -/
def State.settle (s : State) (start : Table Order) : State :=
  let changed := changedTags start s.book.orders
  let s1 := changed.foldl State.noteChange s
  (s.patrons.filter (fun e => changed.any (fun c => decide (c.2.patron = e.1)))).foldl
    (fun s e => s.reexamine e.1) s1

/-! ### Bags (8.4) -/

/-- R138: to close a bag is one act: the bag becomes CLOSED and each of its containers BAGGED. -/
def State.closeBag (s : State) (n : Nat) (atCutoff : Bool) : State :=
  match s.bag n with
  | none => s
  | some g =>
    g.containers.foldl (fun s c => s.onContainer c (fun c => { c with state := .bagged }))
      (s.onBag n (fun g => { g with state := .closed, atCutoff := atCutoff }))

/-- R138: the BAG_CLOSED notice of a bag that closed full or at the cut-off. -/
def State.bagNotice (s : State) (n : Nat) : State :=
  match s.bag n with
  | none => s
  | some g => s.raise .mail .bagClosed n [u1 g.region, u1 g.containers.length, mark g.atCutoff]

/-- The FILLING bag of a region, if it has one (R136). -/
def State.fillingBag (s : State) (region : Nat) : Option Nat :=
  (s.packing.bags.find? (fun e => decide (e.2.region = region) && decide (e.2.state = .filling))).map Prod.fst

/-- R136, R137: a container joins the tail of a FILLING bag and becomes SEALED; the 24th closes the bag
with a notice (R138). -/
def State.joinBag (s : State) (container bag : Nat) : State :=
  let s1 := (s.onBag bag (fun g => { g with containers := g.containers ++ [container] })).onContainer container
    (fun c => { c with state := .sealed, bag := some bag })
  match s1.bag bag with
  | none => s1
  | some g => if bagCapacity ≤ g.containers.length then (s1.closeBag bag false).bagNotice bag else s1

/-- R126, R137: a new bag of a region, FILLING and empty, and its number. -/
def State.newBag (s : State) (region : Nat) : State × Nat :=
  let n := assignNumber maxBagNumber s.packing.bags s.packing.bagCounter
  ({ s with packing := { s.packing with
      bags := s.packing.bags.put n ⟨region, .filling, [], false⟩
      bagCounter := nextNumber maxBagNumber n } }, n)

/-- R137, R139: a sealed container into its region's FILLING bag, or into a new bag where the table has
room; `none` where neither can be. The number is the bag's. -/
def State.bagContainer (s : State) (n region : Nat) : Option (State × Nat) :=
  match s.fillingBag region with
  | some b => some (s.joinBag n b, b)
  | none =>
    if s.packing.bags.length < maxBags then
      let nb := s.newBag region
      some (nb.1.joinBag n nb.2, nb.2)
    else none

/-- R139: one container of the unbagged queue in a drain. -/
def State.drainOne (s : State) (n : Nat) : State :=
  match s.container n with
  | none => s
  | some c =>
    match s.bagContainer n c.region with
    | none => s
    | some r => { r.1 with packing := { r.1.packing with unbagged := r.1.packing.unbagged.filter (· != n) } }

/-- R139: the unbagged queue drained, from head to tail once. -/
def State.drain (s : State) : State :=
  s.packing.unbagged.foldl State.drainOne s

end Sys2Proof.Machine
end

