-- ==== Sys2Proof/Machine/Jobs.lean ====
section
/-! DEFINITION. The rack's shared acts (Chapters 3, 4 and 5): retiring a cartridge, starting,
completing and aborting jobs, the bay arbiter, re-entry into the pending queue, slots and rounds. -/

namespace Sys2Proof.Machine

/-! ### Cartridges -/

/-- R45: to retire a cartridge is one act: it leaves its queue and is unbound; counts and bay field stay. -/
def State.retire (s : State) (serial : Nat) : State :=
  (s.leaveQueues serial).onCart serial (fun c => { c with state := .retired, bound := .unbound })

/-! ### Enrolments and grants that end with a job (R90, R92) -/

/-- An entry in which a bay's enrolment has ended. -/
def Entry.leave (e : Entry) (b : Nat) : Entry :=
  if e.pair = b / 2 then (if b % 2 = 0 then { e with even := false } else { e with odd := false }) else e

/-- R90: a bay's enrolment in the current round ends. -/
def Scheduler.endEnrolment (r : Scheduler) (b : Nat) : Scheduler :=
  { r with round := r.round.map (fun rd => { rd with entries := rd.entries.map (fun e => e.leave b) }) }

/-- R92: the mark of a granted bay is set to lost. -/
def Grant.lose (g : Grant) : Grant :=
  if g.blocks = 0 then g else { g with lost := true }

/-- R92: the slot in which a granted bay's job is aborted. -/
def Slot.lose (sl : Slot) (b : Nat) : Slot :=
  if sl.pair = b / 2 then (if b % 2 = 0 then { sl with even := sl.even.lose } else { sl with odd := sl.odd.lose }) else sl

/-- R73: the outstanding slot records that a bay's grant has lost its job. -/
def Scheduler.loseGrant (r : Scheduler) (b : Nat) : Scheduler :=
  { r with slot := r.slot.map (fun sl => sl.lose b) }

/-! ### Jobs -/

/-- R60: a job starts in a bay, with one BAY_JOB notice for the rack port. -/
def State.startJob (s : State) (b : Nat) (kind : JobKind) (blocks : Nat) : State :=
  let r := s.bay b
  let st := match kind with
    | .write _ _ => BayState.writing
    | .blank => BayState.blanking
  (s.setBay b { r with state := st, job := some ⟨kind, blocks, blocks⟩ }).raise .rack .bayJob b
    ([u1 (jobKindCode (some kind)), u3 blocks, u4 (orZero r.cartridge)] ++
      match kind with
      | .write n sel => [u2 n, u1 sel.code]
      | .blank => [])

/-- R73: to abort a bay's job is one act. A fault keeps a copy of the job as it stood (`keep`). The
cartridge of a WRITE job is unbound and becomes NEEDS_BLANK. -/
def State.abortJob (s : State) (b : Nat) (keep : Bool) : State :=
  let r := s.bay b
  match r.job with
  | none => s
  | some j =>
    let s1 := s.setBay b { r with job := none, aborted := if keep then some j else r.aborted }
    let s2 := match j.kind, r.cartridge with
      | .write _ _, some c => s1.onCart c (fun c => { c with state := .needsBlank, bound := .unbound })
      | _, _ => s1
    s2.onRack (fun k => (k.endEnrolment b).loseGrant b)

/-- R66: to start a BLANK job in place is one act, whatever causes it. -/
def State.blankInPlace (s : State) (b : Nat) : State :=
  match (s.bay b).cartridge with
  | none => s
  | some c =>
    let s1 := (s.abortJob b false).onCart c (fun c => { c with state := .needsBlank, bound := .unbound })
    let dirty := match s1.cart c with
      | some k => k.dirty
      | none => 0
    s1.startJob b .blank (units32 dirty)

/-! ### The bay arbiter (4.3) -/

/-- The bays that are ARMED, in ascending bay number. -/
def State.armedBays (s : State) : List Nat :=
  (List.range bayCount).filter (fun b => decide ((s.bay b).state = .armed))

/-- R65, R44, R26: the assignment of an order to an ARMED bay. -/
def State.assign (s : State) (n b : Nat) : State :=
  match s.order n, (s.bay b).cartridge with
  | some o, some c =>
    match s.title o.title with
    | some (.cartridge size sel) =>
      let s1 := (s.setQueue (s.book.queue.filter (· != n))).onOrder n
        (fun o => { o with state := .writing, bay := some b, serial := some c })
      let s2 := s1.onCart c (fun k =>
        { k with state := .inBay, bound := .order n, writes := min maxWrites (k.writes + 1), dirty := size })
      let s3 := s2.startJob b (.write n sel) size
      s3.onOrder n (fun o => s3.writingForm s3.roundTime o)
    | _ => s
  | _, _ => s

/-- R64: while the pending queue is not empty and some bay is ARMED, the head order to the lowest ARMED
bay. Each assignment takes one ARMED bay, so as many looks as there are bays are enough. -/
def State.arbiterLoop : Nat → State → State
  | 0, s => s
  | fuel + 1, s =>
    match s.book.queue, s.armedBays with
    | n :: _, b :: _ => State.arbiterLoop fuel (s.assign n b)
    | _, _ => s

/-- R64: the bay arbiter. -/
def State.arbiter (s : State) : State :=
  State.arbiterLoop bayCount s

/-! ### Orders that lose their cartridge (R71, R72) -/

/-- The order's bay field, cartridge serial and projection cleared, in a new state. -/
def Order.unseat (o : Order) (st : OrderState) : Order :=
  { o with state := st, bay := none, serial := none, ready := none, tag := .noTag }

/-- R9: an order that becomes PENDING again joins at the head of its class, and the arbiter runs, all within
the act that calls for it: in a SLICE_DONE before the odd bay of the pair is dealt with (log entry 18). -/
def State.rejoin (s : State) (n : Nat) : State :=
  let s1 := s.onOrder n (fun o => o.unseat .pending)
  (s1.setQueue (joinHead s1.isRush n s1.book.queue)).arbiter

/-- The re-examination of an order's patron (R134). -/
def State.reexamineOf (s : State) (n : Nat) : State :=
  match s.order n with
  | some o => s.reexamine o.patron
  | none => s

/-- R72: an order whose WRITE job is aborted re-enters the pending queue in one act. The re-examination of its
patron is part of that act, after the arbiter (R134): its CONTAINER_CLOSED stands ahead of the event's
PROJECTION_CHANGED notices, and in a SLICE_DONE it comes before the odd bay is dealt with. The spec leaves
both orders open (DEDUCED, log entry 18). -/
def State.reenter (s : State) (n : Nat) : State :=
  (s.rejoin n).reexamineOf n

/-- R75, R77, R78: a bay whose job a fault aborts: the job's copy is kept, the bay is FAULTED, and the
order of a WRITE job re-enters the pending queue. `keepCartridge` is false where the cartridge has been
taken out. -/
def State.faultBay (s : State) (b : Nat) (kind : FaultKind) (keepCartridge : Bool) : State :=
  let job := (s.bay b).job
  let s1 := s.abortJob b true
  let r := s1.bay b
  let s2 := s1.setBay b
    { r with state := .faulted, fault := some kind, cartridge := if keepCartridge then r.cartridge else none }
  match job.bind (fun j => j.kind.order) with
  | some n => s2.reenter n
  | none => s2

/-! ### Completion of jobs (4.5) -/

/-- R67: a BLANK job completes: the cartridge is BLANK with extent 0, the bay is ARMED, the arbiter runs. -/
def State.completeBlank (s : State) (b : Nat) : State :=
  let r := s.bay b
  let s1 := (s.setBay b { r with state := .armed, job := none }).onRack (fun k => k.endEnrolment b)
  let s2 := match r.cartridge with
    | some c => s1.onCart c (fun c => { c with state := .blank, dirty := 0 })
    | none => s1
  s2.arbiter

/-- R68: a WRITE job completes: bay and order are VERIFYING, the order in the verify form. -/
def State.completeWrite (s : State) (b order : Nat) : State :=
  let r := s.bay b
  let s1 := (s.setBay b { r with state := .verifying }).onRack (fun k => k.endEnrolment b)
  s1.onOrder order (fun o => s1.verifyForm { o with state := .verifying })

/-- R67, R68: the completion of the job in a bay. -/
def State.completeJob (s : State) (b : Nat) : State :=
  match (s.bay b).job with
  | some ⟨.write n _, _, _⟩ => s.completeWrite b n
  | some ⟨.blank, _, _⟩ => s.completeBlank b
  | none => s

/-! ### Slots (5.4, 5.5, 5.6) -/

/-- R92: a bay's grant, as the bay stands: an enrolled bay gets the lesser of its width and its job's
remaining count, any other bay 0. R92 starts a mark for a granted bay alone; the mark of a bay granted 0 is
held as standing (DESIGN CHOICE, log entry 8). -/
def State.grantFor (s : State) (b : Nat) (enrolled : Bool) : Grant :=
  match enrolled, (s.bay b).job with
  | true, some j => ⟨min (s.rack.jobWidth j.kind) j.remaining, some j.kind, false⟩
  | _, _ => ⟨0, none, false⟩

/-- R92: the outstanding slot record made for an entry's pair. -/
def State.slotFor (s : State) (e : Entry) : Slot :=
  let even := s.grantFor (2 * e.pair) e.even
  let odd := s.grantFor (2 * e.pair + 1) e.odd
  ⟨e.pair, even, odd, s.clock.tick, s.clock.tick + 2 * max even.blocks odd.blocks + slotMargin⟩

/-- The result of a slot for one bay (R96, Table 10-4). -/
inductive SliceResult where
  | notGranted
  | ignored
  | applied
  | completed
  | short
  deriving DecidableEq, Repr

/-- 0 not granted, 1 ignored, 2 applied, 3 completed, 4 short. -/
def SliceResult.code : SliceResult → Nat
  | .notGranted => 0
  | .ignored => 1
  | .applied => 2
  | .completed => 3
  | .short => 4

/-- R95: which case a bay is in, from its grant, its count and its job's remaining count. -/
def sliceCase (g : Grant) (count remaining : Nat) : SliceResult :=
  if g.blocks = 0 then .notGranted
  else if g.lost then .ignored
  else if count < g.blocks then .short
  else if remaining ≤ count then .completed
  else .applied

/-- The remaining count of a bay's job; 0 without a job. -/
def Bay.remaining (b : Bay) : Nat :=
  match b.job with
  | some j => j.remaining
  | none => 0

/-- R95: the job's remaining count lowered by a count. -/
def State.credit (s : State) (b count : Nat) : State :=
  let r := s.bay b
  s.setBay b { r with job := r.job.map (fun j => { j with remaining := j.remaining - count }) }

/-- R95: one bay of an accepted report, dealt with by its case. -/
def State.applySlice (s : State) (b : Nat) (g : Grant) (count : Nat) : State :=
  match sliceCase g count (s.bay b).remaining with
  | .notGranted => s
  | .ignored => s
  | .applied => s.credit b count
  | .completed => (s.credit b count).completeJob b
  | .short => (s.credit b count).faultBay b .shortWrite true

/-- R97: the outstanding slot is abandoned at its expiry and the rack becomes STALLED, with one
SLOT_TIMEOUT notice; the WRITING orders take the stopped form and the event is settled (R109). -/
def State.expireSlot (s : State) : State :=
  match s.rack.slot with
  | none => s
  | some sl =>
    let s1 := (s.onRack (fun r => { r with slot := none, state := .stalled })).raise .rack .slotTimeout sl.pair
      [u4 s.rack.roundNumber, u1 sl.even.blocks, u1 sl.odd.blocks]
    s1.stopProjections.settle s.book.orders

/-! ### Rounds (5.3) -/

/-- R89: the slot list built from the bays as they stand, every bay with an active job enrolled. -/
def State.roundEntries (s : State) : List Entry :=
  (List.range pairCount).filterMap (fun k =>
    let even := (s.bay (2 * k)).active
    let odd := (s.bay (2 * k + 1)).active
    if even || odd then some ⟨k, even, odd⟩ else none)

/-- R89: a round starts: its number raised, its list built, its time fixed, and every WRITING order
recomputed with that time. -/
def State.startRound (s : State) : State :=
  let n := nextNumber maxRound s.rack.roundNumber
  let t := s.roundTime
  (s.onRack (fun r => { r with roundNumber := n, round := some ⟨n, t, s.roundEntries, 0, 0⟩ })).recomputeWriting t

/-- R91 step 1: the next entry moves past each entry whose bays are both no longer enrolled. -/
def Round.passOver (rd : Round) : Round :=
  { rd with next := rd.next + ((rd.entries.drop rd.next).takeWhile (fun e => !e.even && !e.odd)).length }

end Sys2Proof.Machine
end

