-- ==== Sys2Proof/Machine/Book.lean ====
section
/-! DEFINITION. The order book's shared acts (Chapters 1 and 2): capacity, joining the pending queue,
the allocation of braille copies, the creation of orders and the release pass. -/

namespace Sys2Proof.Machine

/-- R8: whether the circulation capacity allows another order. -/
def State.hasRoom (s : State) : Bool :=
  decide (s.book.orders.length + s.loans.loans.length < maxCirculation) && decide (s.book.orders.length < maxOrders)

/-- Whether the patron holds the title as an order in the book or a loan in the table (R10, R15). -/
def State.holdsTitle (s : State) (patron title : Nat) : Bool :=
  s.book.orders.any (fun e => decide (e.2.patron = patron) && decide (e.2.title = title)) ||
  s.loans.loans.any (fun e => decide (e.2.patron = patron) && decide (e.2.title = title))

/-- R9: an order joins the pending queue at the tail of its class and is offered to the bay arbiter. -/
def State.joinPending (s : State) (n : Nat) : State :=
  (s.setQueue (joinTail s.isRush n s.book.queue)).arbiter

/-! ### Braille copies (2.4) -/

/-- A braille title with one copy map entry set. -/
def Title.setCopy (t : Title) (i : Nat) (c : Copy) : Title :=
  match t with
  | .braille copies hold => .braille (copies.set i c) hold
  | .cartridge size sel => .cartridge size sel

/-- A braille title without an order in its hold queue. -/
def Title.leaveHold (t : Title) (n : Nat) : Title :=
  match t with
  | .braille copies hold => .braille copies (hold.filter (· != n))
  | .cartridge size sel => .cartridge size sel

/-- R29: an order joins the hold queue at the tail of its class. -/
def Title.joinHold (rush : Nat → Bool) (n : Nat) (t : Title) : Title :=
  match t with
  | .braille copies hold => .braille copies (joinTail rush n hold)
  | .cartridge size sel => .cartridge size sel

/-- The lowest-indexed ON_SHELF copy of a copy map (R30). -/
def lowestOnShelf (copies : List Copy) : Option Nat :=
  copies.findIdx? (fun c => decide (c = .onShelf))

/-- R27: copies_total, the entries that are not ABSENT. -/
def copiesTotal (copies : List Copy) : Nat :=
  copies.countP (fun c => decide (c ≠ .absent))

/-- The number of entries ON_SHELF. -/
def onShelfCount (copies : List Copy) : Nat :=
  copies.countP (fun c => decide (c = .onShelf))

/-- R30, R32: to allocate a copy to an order is one act, with one PICK notice for the mail port. -/
def State.allocate (s : State) (title index order : Nat) : State :=
  let s1 := s.onTitle title (fun t => (t.setCopy index (.allocated order)).leaveHold order)
  (s1.onOrder order (fun o => s1.readyForm { o with copy := some index, state := .ready })).raise .mail .pick order
    [u4 title, u1 index]

/-- R31: a copy reaches the shelf, and is at once allocated to the head of the hold queue if an order
waits there. -/
def State.shelve (s : State) (title index : Nat) : State :=
  let s1 := s.onTitle title (fun t => t.setCopy index .onShelf)
  match s1.title title with
  | some (.braille _ (head :: _)) => s1.allocate title index head
  | _ => s1

/-! ### Creation of orders (1.6) -/

/-- R13, Table 1-2: the order record at creation, before its first state is settled. -/
def State.newOrder (s : State) (patron title : Nat) (format : Format) (priority : Priority) : Order where
  patron := patron
  title := title
  format := format
  priority := priority
  placedDay := s.clock.day
  placedSecond := s.clock.second
  state := match format with
    | .cartridge => .pending
    | .braille => .waitingCopy
  retry := 0
  serial := none
  bay := none
  copy := none
  ready := none
  tag := .noTag
  container := none

/-- The format of a title record. -/
def Title.format : Title → Format
  | .cartridge _ _ => .cartridge
  | .braille _ _ => .braille

/-- R13: the record entered in the book under its number, the counter moved on, and the patron's
outstanding count raised with LIMIT re-evaluated. -/
def State.enterOrder (s : State) (n patron title : Nat) (format : Format) (priority : Priority) : State :=
  { s with
    book := { s.book with
      orders := s.book.orders.put n (s.newOrder patron title format priority)
      counter := nextNumber maxNumber n }
    patrons := s.patrons.alter patron Patron.gain }

/-- R13, R30: an order is created in the same way whatever creates it. A cartridge order joins the
pending queue; a braille order takes the lowest copy on the shelf, or joins the hold queue. -/
def State.createOrder (s : State) (patron title : Nat) (priority : Priority) : State :=
  match s.title title with
  | none => s
  | some t =>
    let n := assignNumber maxNumber s.book.orders s.book.counter
    let s1 := s.enterOrder n patron title t.format priority
    match t with
    | .cartridge _ _ => s1.joinPending n
    | .braille copies _ =>
      match lowestOnShelf copies with
      | some i => s1.allocate title i n
      | none => s1.onTitle title (Title.joinHold s1.isRush n)

/-! ### The release pass (1.7) -/

/-- R15: the three conditions before each entry. -/
def State.mayRelease (s : State) (patron : Nat) : Bool :=
  match s.patron patron with
  | some p => !p.causes.any && decide (p.outstanding < p.high) && s.hasRoom
  | none => false

/-- R15: the entries of the list, from the head, while the conditions hold; with the number of orders
created so far. -/
def State.releaseLoop (patron : Nat) : List Nat → State × Nat → State × Nat
  | [], r => r
  | title :: rest, r =>
    if r.1.mayRelease patron then
      let s1 := r.1.onPatron patron (fun p => { p with deferred := rest })
      if s1.holdsTitle patron title then State.releaseLoop patron rest (s1, r.2)
      else State.releaseLoop patron rest (s1.createOrder patron title .standard, r.2 + 1)
    else r

/-- R14, R15: a release pass for a patron, and the number of orders it created. A pass stops before its
first entry where a cause is held, so a cancel or a return that leaves a cause held runs an empty one. -/
def State.releasePass (s : State) (patron : Nat) : State × Nat :=
  match s.patron patron with
  | some p => State.releaseLoop patron p.deferred (s, 0)
  | none => (s, 0)

/-! ### Changing a copy map (2.6) -/

/-- R37: new copies brought into the map, taking the ABSENT entries in ascending index, each dealt with
before the next; with the number of copies still to bring and the number allocated. -/
def State.bringCopies (title : Nat) : List Nat → State × Nat × Nat → State × Nat × Nat
  | [], r => r
  | i :: rest, (s, needed, allocated) =>
    match needed, s.title title with
    | k + 1, some (.braille copies hold) =>
      if copies.getD i .onShelf = .absent then
        State.bringCopies title rest (s.shelve title i, k, if hold = [] then allocated else allocated + 1)
      else State.bringCopies title rest (s, k + 1, allocated)
    | _, _ => (s, needed, allocated)

/-- R36: `n` ON_SHELF entries turned ABSENT, the highest index first. -/
def withdrawCopies : List Copy → Nat → List Copy
  | [], _ => []
  | c :: rest, n =>
    let below := onShelfCount rest
    if c = .onShelf ∧ below < n then .absent :: withdrawCopies rest n
    else c :: withdrawCopies rest n

end Sys2Proof.Machine
end

