-- ==== Sys2Proof/Machine/Day.lean ====
section
/-! DEFINITION. The day clock's shared acts (Chapters 7 and 9): the last call, the cut-off, the entry
of a mail day state, the overdue sweep, the rollover and the advance of the second. -/

namespace Sys2Proof.Machine

/-- The numbers of the containers in state OPEN, in ascending order. -/
def State.openContainers (s : State) : List Nat :=
  (s.packing.containers.filter (fun e => decide (e.2.state = .opened))).map Prod.fst

/-- The numbers of the bags in state FILLING, in ascending order. -/
def State.fillingBags (s : State) : List Nat :=
  (s.packing.bags.filter (fun e => decide (e.2.state = .filling))).map Prod.fst

/-- R117: the last call: the LAST_CALL notice, every OPEN container closed with its notice, and every
ON_TIME tag set to LATE. -/
def State.lastCall (s : State) : State :=
  let opened := s.openContainers
  (opened.foldl (fun s n => s.closeWithNotice n .lastCall)
    (s.raise .mail .lastCall s.clock.day [u2 opened.length])).tagsLate

/-- R118: the cut-off: the CUTOFF notice, and every FILLING bag closed with its flag and its notice. -/
def State.cutOff (s : State) : State :=
  let filling := s.fillingBags
  filling.foldl (fun s n => (s.closeBag n true).bagNotice n)
    (s.raise .mail .cutoff s.clock.day [u1 filling.length, u2 s.packing.unbagged.length])

/-- R117: whether a move from one mail day state to another runs the last call. -/
def runsLastCall (held derived : MailDay) : Bool :=
  decide (held = .day) && decide (derived ≠ .day)

/-- R118: whether the move runs the cut-off. -/
def runsCutOff (held derived : MailDay) : Bool :=
  decide (held ≠ .afterCutoff) && decide (derived = .afterCutoff)

/-- R116, R121 step 1: the state is derived from the clock; a later one runs the actions of each state
entered, in day order; an earlier one is taken with nothing undone. -/
def State.enterMailDay (s : State) : State :=
  let held := s.clock.mailDay
  let derived := s.clock.derived
  let s1 := { s with clock := { s.clock with mailDay := derived } }
  let s2 := if runsLastCall held derived then s1.lastCall else s1
  if runsCutOff held derived then s2.cutOff else s2

/-! ### The overdue sweep (9.7) -/

/-- R160: whether the sweep for a day makes a loan OVERDUE. -/
def Loan.falls (l : Loan) (day grace : Nat) : Bool :=
  decide (l.state = .out) && decide (l.dueDay + grace < day)

/-- R160: how many of a patron's loans a sweep makes OVERDUE. -/
def State.newlyOverdue (s : State) (patron : Nat) : Nat :=
  s.loans.loans.countP (fun e => decide (e.2.patron = patron) && e.2.falls s.clock.day s.loans.grace)

/-- R161: the OVERDUE notice of a patron with loans made OVERDUE in the sweep. -/
def State.overdueNotice (s : State) (e : Nat × Nat) : State :=
  match s.patron e.1 with
  | some p => s.raise .circulation .overdue e.1 [u1 e.2, u1 p.overdue, u2 s.clock.day]
  | none => s

/-- R160, R161: the overdue sweep for the day number held. -/
def State.sweep (s : State) : State :=
  let counts := (s.patrons.map (fun e => (e.1, s.newlyOverdue e.1))).filter (fun e => decide (0 < e.2))
  let s1 := { s with
    loans := { s.loans with
      loans := s.loans.loans.mapRecords (fun _ l =>
        if l.falls s.clock.day s.loans.grace then { l with state := .overdue } else l) }
    patrons := s.patrons.mapRecords (fun n p => p.sweep (s.newlyOverdue n)) }
  counts.foldl State.overdueNotice s1

/-- R119 step 5, R121 step 2: the lane's day counts are set to 0. -/
def State.clearLaneCounts (s : State) : State :=
  { s with lane := { s.lane with returnsToday := 0, errorsToday := 0 } }

/-! ### The advance of the second (7.1, 7.3) -/

/-- R119: the rollover, at the advance from 86399 to 0. -/
def State.rollover (s : State) : State :=
  let s1 := { s with clock := { s.clock with
    second := 0, day := min maxDay (s.clock.day + 1), mailDay := .day } }
  ((s1.sweep.dayRecompute true).clearLaneCounts).enterMailDay

/-- R131: each running idle count one second on. -/
def State.idleSecond (s : State) : State :=
  { s with packing := { s.packing with
    containers := s.packing.containers.mapRecords (fun _ c => { c with idle := c.idle.map (fun n => min maxIdle (n + 1)) }) } }

/-- R114: the time base at the next multiple of 500 channel ticks: it is carried there if it has not yet
reached it. Where that carries it past the deadline of the outstanding slot, the expiry of R97 is due and not
yet taken: a SLICE_DONE takes it first (R97), and every other request acts on the slot as still outstanding
(DESIGN CHOICE, log entry 1). -/
def Clock.nextBoundary (c : Clock) : Clock :=
  { c with tick := max c.tick ((c.seconds + 1) * ticksPerSecond), seconds := c.seconds + 1 }

/-- R114, R116, R119: the second advances, and the event is settled (R109). -/
def State.advanceSecond (s : State) : State :=
  let s1 := { s.idleSecond with clock := s.clock.nextBoundary }
  let s2 :=
    if daySeconds ≤ s1.clock.second + 1 then s1.rollover
    else State.enterMailDay { s1 with clock := { s1.clock with second := s1.clock.second + 1 } }
  s2.settle s.book.orders

end Sys2Proof.Machine
end

