-- ==== Sys2Proof/Machine/BayRequests.lean ====
section
/-! DEFINITION. The requests of the rack port about a bay: BAY_INSERT, BAY_REMOVE, BAY_FAULT,
BAY_CLEAR, VERIFY_DONE; and BAY_QUERY (Chapter 4). -/

namespace Sys2Proof.Machine

/-- R62: a BLANK cartridge placed: the bay is ARMED, and the arbiter runs. -/
def State.insertBlank (s : State) (b serial : Nat) : State :=
  (((s.leaveQueues serial).onCart serial (fun c => { c with bay := some b })).setBay b
    { Bay.vacant with state := .armed, cartridge := some serial }).arbiter

/-- R63: a NEEDS_BLANK cartridge placed: a BLANK job starts over its extent. -/
def State.insertDirty (s : State) (b serial dirty : Nat) : State :=
  (((s.leaveQueues serial).onCart serial (fun c => { c with bay := some b })).setBay b
    { Bay.vacant with cartridge := some serial }).startJob b .blank (units32 dirty)

/-- The write count of a cartridge; 0 where the serial has no record. -/
def State.writesOf (s : State) (serial : Nat) : Nat :=
  match s.cart serial with
  | some c => c.writes
  | none => 0

/-- R62: what the response to the insertion of a BLANK cartridge carries. -/
def State.armedBody (s : State) (b serial : Nat) : List Field :=
  [u1 (s.bay b).state.code, u2 (s.writesOf serial)] ++
    match (s.bay b).job with
    | some ⟨.write n _, total, _⟩ => [u2 n, u3 total]
    | _ => []

/-- R61 to R63. -/
def bayInsert (b serial : Nat) (s : State) : Result :=
  match firstBad [decide (31 < b), decide (serial = 0)] with
  | some f => refuse s .range f
  | none =>
    if (s.bay b).state ≠ .empty then refuse s .wrongState 0
    else
      match s.cart serial with
      | none => refuse s .notFound 2
      | some c =>
        if (c.state ≠ .blank ∧ c.state ≠ .needsBlank) ∨ c.bay.isSome = true then refuse s .wrongState 0
        else if s.loans.wearLimit ≤ c.writes then
          answer (s.retire serial) .worn [u2 c.writes, u2 s.loans.wearLimit]
        else if c.state = .blank then
          let s1 := (s.insertBlank b serial).settle s.book.orders
          answer s1 .accepted (s1.armedBody b serial)
        else
          answer (s.insertDirty b serial c.dirty) .accepted
            [u1 BayState.blanking.code, u3 (units32 c.dirty), u2 c.writes]

/-- BAY_INSERT (R61, R62, R63). -/
def execBayInsert (h : Header) (b serial : Nat) (s : State) : Host.Outcome State Fault Refusal :=
  .next (request .bayInsert h (bayInsert b serial) s)

/-- The order number and state an event has left an order in; nothing for a job with no order. -/
def State.orderOutcome (s : State) (order : Option Nat) : List Field :=
  match order with
  | some n =>
    match s.order n with
    | some o => [u2 n, u1 o.state.code]
    | none => [u2 n, u1 0]
  | none => []

/-- The order of the WRITE job in a bay. -/
def Bay.jobOrder (r : Bay) : Option Nat :=
  r.job.bind (fun j => j.kind.order)

/-- The order a cartridge is bound to. -/
def State.boundOrder (s : State) (serial : Nat) : Option Nat :=
  match s.cart serial with
  | some ⟨_, _, _, _, .order n, _⟩ => some n
  | _ => none

/-- R74: a bay emptied, its cartridge's bay field cleared. -/
def State.emptyBay (s : State) (b serial : Nat) : State :=
  (s.setBay b Bay.vacant).onCart serial (fun c => { c with bay := none })

/-- R74: the removal from a DONE bay: the cartridge is WRITTEN, the order's bay field cleared. -/
def State.removeDone (s : State) (b serial : Nat) : State :=
  let s1 := (s.emptyBay b serial).onCart serial (fun c => { c with state := .written })
  match s.boundOrder serial with
  | some n => s1.onOrder n (fun o => { o with bay := none })
  | none => s1

/-- R75: the removal in the middle of a job: the cartridge, NEEDS_BLANK after the abort, stands at the
tail of the backlog, and the bay is FAULTED without it. -/
def State.removeInJob (s : State) (b serial : Nat) : State :=
  let s1 := (s.onCart serial (fun c => { c with bay := none })).joinBacklog serial
  s1.faultBay b .removedInJob false

/-- R76: the removal from a FAULTED bay. -/
def State.removeFaulted (s : State) (b serial : Nat) : State :=
  ((s.setBay b { s.bay b with cartridge := none }).onCart serial (fun c => { c with bay := none })).joinBacklog serial

/-- R74 to R76. -/
def bayRemove (b : Nat) (s : State) : Result :=
  match firstBad [decide (31 < b)] with
  | some f => refuse s .range f
  | none =>
    match (s.bay b).cartridge with
    | none => refuse s .wrongState 0
    | some c =>
      match (s.bay b).state with
      | .empty => refuse s .wrongState 0
      | .armed => answer ((s.emptyBay b c).joinPool c) .accepted [u4 c, u1 0]
      | .done => answer (s.removeDone b c) .accepted [u4 c, u1 1, u2 (orZero (s.boundOrder c))]
      | .eject => answer (s.emptyBay b c) .accepted [u4 c, u1 2]
      | .faulted => answer (s.removeFaulted b c) .accepted [u4 c, u1 3]
      | .blanking =>
        let s1 := (s.removeInJob b c).settle s.book.orders
        answer s1 .accepted [u4 c, u1 3, u1 (s1.bay b).state.code]
      | .writing =>
        let s1 := (s.removeInJob b c).settle s.book.orders
        answer s1 .accepted ([u4 c, u1 3, u1 (s1.bay b).state.code] ++ s1.orderOutcome (s.bay b).jobOrder)
      | .verifying =>
        let s1 := (s.removeInJob b c).settle s.book.orders
        answer s1 .accepted ([u4 c, u1 3, u1 (s1.bay b).state.code] ++ s1.orderOutcome (s.bay b).jobOrder)

/-- BAY_REMOVE (R74, R75, R76). -/
def execBayRemove (h : Header) (b : Nat) (s : State) : Host.Outcome State Fault Refusal :=
  .next (request .bayRemove h (bayRemove b) s)

/-- R77. The one fault kind that can be reported is DRIVE, code 1. -/
def bayFault (b fault : Nat) (s : State) : Result :=
  match firstBad [decide (31 < b), decide (fault ≠ 1)] with
  | some f => refuse s .range f
  | none =>
    if (s.bay b).state.holdsJob = false then refuse s .wrongState 0
    else
      let s1 := (s.faultBay b .drive true).settle s.book.orders
      answer s1 .accepted ([u1 (s1.bay b).state.code, u4 (orZero (s1.bay b).cartridge)] ++
        s1.orderOutcome (s.bay b).jobOrder)

/-- BAY_FAULT (R77). -/
def execBayFault (h : Header) (b fault : Nat) (s : State) : Host.Outcome State Fault Refusal :=
  .next (request .bayFault h (bayFault b fault) s)

/-- A job's kind, order number, total and remaining; zeros where it is absent. -/
def jobFields (job : Option Job) : List Field :=
  match job with
  | some j => [u1 (jobKindCode (some j.kind)), u2 (orZero j.kind.order), u3 j.total, u3 j.remaining]
  | none => [u1 0, u2 0, u3 0, u3 0]

/-- R79. -/
def bayClear (b : Nat) (s : State) : Result :=
  match firstBad [decide (31 < b)] with
  | some f => refuse s .range f
  | none =>
    if (s.bay b).state ≠ .faulted ∨ (s.bay b).cartridge.isSome = true then refuse s .wrongState 0
    else answer (s.setBay b Bay.vacant) .accepted (u1 (faultCode (s.bay b).fault) :: jobFields (s.bay b).aborted)

/-- BAY_CLEAR (R79). -/
def execBayClear (h : Header) (b : Nat) (s : State) : Host.Outcome State Fault Refusal :=
  .next (request .bayClear h (bayClear b) s)

/-- R69: the verification passed: the bay is DONE and the order READY. -/
def State.verifyPass (s : State) (b order : Nat) : State :=
  let s1 := s.setBay b { s.bay b with state := .done, job := none }
  s1.onOrder order (fun o => s1.readyForm { o with state := .ready })

/-- R46, R70: the cartridge side of a failed verification, taken first. At the first failure the
cartridge is blanked in place, and at the second it is retired and the bay is EJECT. -/
def State.failCartridge (s : State) (b serial : Nat) : State :=
  let s1 := s.onCart serial (fun c => { c with failures := c.failures + 1 })
  match s1.cart serial with
  | some ⟨_, _, 1, _, _, _⟩ => s1.blankInPlace b
  | _ => (s1.setBay b { s1.bay b with state := .eject, job := none }).retire serial

/-- R71: the order side of a failed verification: back to the pending queue at retry count 0, and
STALLED, with its notice, at retry count 1. The re-examination of its patron is part of this act, ahead of the
event's PROJECTION_CHANGED notices (DEDUCED, log entry 18). -/
def State.failOrder (s : State) (n serial : Nat) : State :=
  match s.order n with
  | none => s
  | some o =>
    if o.retry = 0 then
      ((s.onOrder n (fun o => { o with retry := 1 })).rejoin n).reexamineOf n
    else
      ((s.onOrder n (fun o => o.unseat .stalled)).raise .circulation .orderStalled n
        [u3 o.patron, u4 o.title, u4 serial]).reexamineOf n

/-- The state code of an order after the event; 0 where it has none. -/
def State.orderCode (s : State) (n : Nat) : Nat :=
  match s.order n with
  | some o => o.state.code
  | none => 0

/-- R69 to R71. -/
def verifyDone (b result : Nat) (s : State) : Result :=
  match firstBad [decide (31 < b), decide (1 < result)] with
  | some f => refuse s .range f
  | none =>
    if (s.bay b).state ≠ .verifying then refuse s .wrongState 0
    else
      match (s.bay b).jobOrder, (s.bay b).cartridge with
      | some n, some c =>
        if result = 0 then
          answer ((s.verifyPass b n).settle s.book.orders) .accepted [u2 n, u1 BayState.done.code]
        else
          let s1 := ((s.failCartridge b c).failOrder n c).settle s.book.orders
          let failures := match s1.cart c with
            | some k => k.failures
            | none => 0
          answer s1 .accepted [u1 (s1.bay b).state.code, u1 failures, u1 (s1.orderCode n)]
      | _, _ => refuse s .wrongState 0

/-- VERIFY_DONE (R69, R70, R71). -/
def execVerifyDone (h : Header) (b result : Nat) (s : State) : Host.Outcome State Fault Refusal :=
  .next (request .verifyDone h (verifyDone b result) s)

/-- R81: whether a bay is one of the pair of the outstanding slot. -/
def Scheduler.inSlot (r : Scheduler) (b : Nat) : Bool :=
  match r.slot with
  | some sl => decide (sl.pair = b / 2)
  | none => false

/-- R81: the selector of a bay's job, the blank selector in force for a BLANK job, 0 without a job. -/
def Scheduler.selectorCode (r : Scheduler) (job : Option Job) : Nat :=
  match job with
  | some j => (r.selector j.kind).code
  | none => 0

/-- R81: for a DONE bay, the order bound to its cartridge. -/
def State.doneOrder (s : State) (r : Bay) : Nat :=
  if r.state = .done then orZero (r.cartridge.bind s.boundOrder) else 0

/-- R81: a bay as BAY_QUERY reports it; absent fields are 0, with a mark for an absent fault kind. -/
def State.bayFields (s : State) (b : Nat) : List Field :=
  let r := s.bay b
  [u1 r.state.code, u4 (orZero r.cartridge)] ++ jobFields r.job ++ [u1 (s.rack.selectorCode r.job),
    u2 (s.doneOrder r), u1 (faultCode r.fault), mark r.fault.isNone] ++ jobFields r.aborted ++
    [mark (s.rack.inSlot b)]

/-- R81. -/
def bayQuery (b : Nat) (s : State) : Result :=
  match firstBad [decide (31 < b)] with
  | some f => refuse s .range f
  | none => answer s .accepted (s.bayFields b)

/-- BAY_QUERY (R81). -/
def execBayQuery (h : Header) (b : Nat) (s : State) : Host.Outcome State Fault Refusal :=
  .next (request .bayQuery h (bayQuery b) s)

end Sys2Proof.Machine
end

