-- ==== Sys2Proof/Machine/PatronRequests.lean ====
section
/-! DEFINITION. The requests of the circulation port on patrons: PATRON_OPEN, PATRON_SET,
PATRON_CLOSE, PATRON_QUERY (1.10, 1.11). -/

namespace Sys2Proof.Machine

/-- R20, R21: a limit restore at or above the stored high is stored as the high less one. -/
def clampRestore (high restore : Nat) : Nat :=
  if restore < high then restore else high - 1

/-- R20: the limits PATRON_OPEN stores: high 0 selects 6 and 3, high above 15 is stored as 15. -/
def openLimits (high restore : Nat) : Nat × Nat :=
  if high = 0 then (6, 3) else (min high 15, clampRestore (min high 15) restore)

/-- R21: the limits PATRON_SET stores: high 0 is taken as 1, high above 15 as 15. -/
def setLimits (high restore : Nat) : Nat × Nat :=
  (min (max high 1) 15, clampRestore (min (max high 1) 15) restore)

/-- Table 1-1: a patron record as PATRON_OPEN creates it. -/
def Patron.created (region high restore : Nat) : Patron :=
  ⟨region, high, restore, 0, 0, ⟨false, false, false⟩, [], none⟩

/-- The three hold causes, each as held or not held (R23). -/
def Causes.fields (c : Causes) : List Field :=
  [mark c.limit, mark c.overdue, mark c.suspended]

/-- R20. -/
def patronOpen (patron region high restore : Nat) (s : State) : Result :=
  match firstBad [decide (patron = 0), decide (7 < region)] with
  | some f => refuse s .range f
  | none =>
    if s.patrons.has patron then refuse s .duplicate 1
    else if maxPatrons ≤ s.patrons.length then refuse s .full 0
    else
      let lim := openLimits high restore
      answer { s with patrons := s.patrons.put patron (.created region lim.1 lim.2) }
        (clampedIf (decide (high ≠ 0 ∧ lim ≠ (high, restore)))) [u1 lim.1, u1 lim.2]

/-- PATRON_OPEN (R20). -/
def execPatronOpen (h : Header) (patron region high restore : Nat) (s : State) : Host.Outcome State Fault Refusal :=
  .next (request .patronOpen h (patronOpen patron region high restore) s)

/-- R21: the fields stored, LIMIT re-evaluated, SUSPENDED set or cleared. -/
def Patron.setFields (p : Patron) (region high restore : Nat) (suspended : Bool) : Patron :=
  Patron.relimit { p with
    region := region, high := high, restore := restore
    causes := { p.causes with suspended := suspended } }

/-- R21. The release pass runs where the hold-cause set is left empty; it does nothing on an empty
list (R14). -/
def patronSet (patron region high restore suspended : Nat) (s : State) : Result :=
  match firstBad [decide (patron = 0), decide (7 < region), false, false, decide (1 < suspended)] with
  | some f => refuse s .range f
  | none =>
    match s.patron patron with
    | none => refuse s .notFound 1
    | some p =>
      let lim := setLimits high restore
      if lim.1 < p.outstanding then refuse s .wrongState 0
      else
        let s1 := s.onPatron patron (fun p => p.setFields region lim.1 lim.2 (decide (suspended = 1)))
        let s2 := (s1.releasePass patron).1.settle s.book.orders
        let causes := match s2.patron patron with
          | some q => q.causes
          | none => p.causes
        answer s2 (clampedIf (decide (lim ≠ (high, restore)))) ([u1 lim.1, u1 lim.2] ++ causes.fields)

/-- PATRON_SET (R21). -/
def execPatronSet (h : Header) (patron region high restore suspended : Nat) (s : State) :
    Host.Outcome State Fault Refusal :=
  .next (request .patronSet h (patronSet patron region high restore suspended) s)

/-- R22. -/
def patronClose (patron : Nat) (s : State) : Result :=
  match firstBad [decide (patron = 0)] with
  | some f => refuse s .range f
  | none =>
    match s.patron patron with
    | none => refuse s .notFound 1
    | some p =>
      if 0 < p.outstanding then refuse s .wrongState 0
      else answer { s with patrons := s.patrons.drop patron } .accepted []

/-- PATRON_CLOSE (R22). -/
def execPatronClose (h : Header) (patron : Nat) (s : State) : Host.Outcome State Fault Refusal :=
  .next (request .patronClose h (patronClose patron) s)

/-- R23: the record as PATRON_QUERY reports it. -/
def Patron.fields (p : Patron) : List Field :=
  [u1 p.region, u1 p.high, u1 p.restore, u1 p.outstanding, u1 p.overdue] ++ p.causes.fields ++
    [u1 p.deferred.length] ++ p.deferred.map u4 ++ [u2 (orZero p.openContainer)]

/-- R23. -/
def patronQuery (patron : Nat) (s : State) : Result :=
  match firstBad [decide (patron = 0)] with
  | some f => refuse s .range f
  | none =>
    match s.patron patron with
    | none => refuse s .notFound 1
    | some p => answer s .accepted p.fields

/-- PATRON_QUERY (R23). -/
def execPatronQuery (h : Header) (patron : Nat) (s : State) : Host.Outcome State Fault Refusal :=
  .next (request .patronQuery h (patronQuery patron) s)

end Sys2Proof.Machine
end

