-- ==== Sys2Proof/Machine/OrderRequests.lean ====
section
/-! DEFINITION. The requests of the circulation port on orders and loans: ORDER_PLACE, ORDER_CANCEL,
ORDER_RETRY, ORDER_QUERY, LOAN_QUERY (1.6, 1.8, 1.9, 1.11). -/

namespace Sys2Proof.Machine

/-- R7: the number the next order created will have. -/
def State.nextOrder (s : State) : Nat :=
  assignNumber maxNumber s.book.orders s.book.counter

/-- R11: a placement deferred: the title joins the tail of the list and a release pass runs. The body
carries the list's length after the pass and the number of orders the pass created. -/
def deferTitle (patron title : Nat) (s : State) : Result :=
  let pass := (s.onPatron patron (fun p => { p with deferred := p.deferred ++ [title] })).releasePass patron
  let left := match pass.1.patron patron with
    | some p => p.deferred.length
    | none => 0
  answer (pass.1.settle s.book.orders) .deferred [u1 left, u1 pass.2]

/-- R10 to R13. -/
def orderPlace (patron title priority : Nat) (s : State) : Result :=
  match firstBad [decide (patron = 0), decide (title = 0), decide (1 < priority)] with
  | some f => refuse s .range f
  | none =>
    match s.patron patron with
    | none => refuse s .notFound 1
    | some p =>
      if s.titles.has title = false then refuse s .notFound 2
      else if s.holdsTitle patron title || p.deferred.contains title then refuse s .duplicate 2
      else if s.hasRoom = false then refuse s .full 0
      else if p.causes.any || !p.deferred.isEmpty then
        if maxDeferred ≤ p.deferred.length then refuse s .full 0
        else deferTitle patron title s
      else
        ⟨(s.createOrder patron title (priorityOf priority)).settle s.book.orders, .accepted,
          [u2 s.nextOrder], some s.nextOrder⟩

/-- ORDER_PLACE (R10, R11, R12, R13). -/
def execOrderPlace (h : Header) (patron title priority : Nat) (s : State) : Host.Outcome State Fault Refusal :=
  .next (request .orderPlace h (orderPlace patron title priority) s)

/-- R16, Table 1-5, R80: what an accepted cancel does to the order's item and bay, once the order has
left the book. -/
def State.releaseItem (s : State) (n : Nat) (o : Order) : State :=
  match o.state with
  | .pending => s.setQueue (s.book.queue.filter (· != n))
  | .waitingCopy => s.onTitle o.title (fun t => t.leaveHold n)
  | .writing => s.blankInPlace (orZero o.bay)
  | .verifying => s.blankInPlace (orZero o.bay)
  | .ready =>
    match o.copy, o.bay, o.serial with
    | some i, _, _ => s.shelve o.title i
    | none, some b, _ => s.blankInPlace b
    | none, none, some c => (s.onCart c (fun c => { c with state := .needsBlank, bound := .unbound })).joinBacklog c
    | none, none, none => s
  | .packed => s
  | .stalled => s

/-- R16, R17. -/
def orderCancel (order : Nat) (s : State) : Result :=
  match firstBad [decide (order = 0)] with
  | some f => refuse s .range f
  | none =>
    match s.order order with
    | none => refuse s .notFound 1
    | some o =>
      if o.state = .packed then refuse s .tooLate 0
      else
        let s1 := ((s.dropOrder order).releaseItem order o).onPatron o.patron Patron.lose
        let s2 := ((s1.reexamine o.patron).releasePass o.patron).1.settle (s.book.orders.drop order)
        let outstanding := match s2.patron o.patron with
          | some p => p.outstanding
          | none => 0
        answer s2 .accepted [u3 o.patron, u1 outstanding]

/-- ORDER_CANCEL (R16, R17). -/
def execOrderCancel (h : Header) (order : Nat) (s : State) : Host.Outcome State Fault Refusal :=
  .next (request .orderCancel h (orderCancel order) s)

/-- R19. -/
def orderRetry (order : Nat) (s : State) : Result :=
  match firstBad [decide (order = 0)] with
  | some f => refuse s .range f
  | none =>
    match s.order order with
    | none => refuse s .notFound 1
    | some o =>
      if o.state ≠ .stalled then refuse s .wrongState 0
      else
        let s1 := s.onOrder order (fun o => { o.unseat .pending with retry := 0 })
        ⟨(s1.joinPending order).settle s.book.orders, .accepted, [], some order⟩

/-- ORDER_RETRY (R19). -/
def execOrderRetry (h : Header) (order : Nat) (s : State) : Host.Outcome State Fault Refusal :=
  .next (request .orderRetry h (orderRetry order) s)

/-- R24: an order as ORDER_QUERY reports it, every field of Table 1-2; for a PENDING order its place in
the pending queue, and for a WAITING_COPY order its place in its title's hold queue. -/
def State.orderFields (s : State) (n : Nat) (o : Order) : List Field :=
  [u2 n, u3 o.patron, u4 o.title, u1 o.format.code, u1 o.priority.code, u2 o.placedDay, u3 o.placedSecond,
    u1 o.state.code, u1 o.retry, u4 (orZero o.serial), u1 (orZero o.bay), u1 (orZero o.copy),
    u3 (orZero o.ready), u1 o.tag.code, u2 (orZero o.container)] ++
  match o.state with
  | .pending => [u2 (placeIn s.book.queue n)]
  | .waitingCopy =>
    match s.title o.title with
    | some (.braille _ hold) => [u2 (placeIn hold n)]
    | _ => [u2 0]
  | _ => []

/-- The number of the first record of a table that a test finds. -/
def Table.findKey {α : Type} (t : Table α) (test : α → Bool) : Option Nat :=
  (t.find? (fun e => test e.2)).map Prod.fst

/-- R24: the checks of a query's form: the form code, then a 0 in the fields of the form chosen. -/
def formBad (form number patron title : Nat) : Option Nat :=
  firstBad [decide (1 < form), decide (form = 0 ∧ number = 0), decide (form = 1 ∧ patron = 0),
    decide (form = 1 ∧ title = 0)]

/-- R24: the field a NOT_FOUND names, the number's or the patron's. -/
def formField (form : Nat) : Nat :=
  if form = 0 then 2 else 3

/-- R24. -/
def orderQuery (form order patron title : Nat) (s : State) : Result :=
  match formBad form order patron title with
  | some f => refuse s .range f
  | none =>
    let key := if form = 0 then some order
      else s.book.orders.findKey (fun o => decide (o.patron = patron) && decide (o.title = title))
    match key with
    | none => refuse s .notFound (formField form)
    | some n =>
      match s.order n with
      | none => refuse s .notFound (formField form)
      | some o => answer s .accepted (s.orderFields n o)

/-- ORDER_QUERY (R24). -/
def execOrderQuery (h : Header) (form order patron title : Nat) (s : State) : Host.Outcome State Fault Refusal :=
  .next (request .orderQuery h (orderQuery form order patron title) s)

/-- An item at the size of its identity (Table 0-3). -/
def Item.field : Item → Field
  | .cartridge serial => u4 serial
  | .copy index => u1 index

/-- R144: the first day on which the sweep would make an OUT loan OVERDUE, and the mark "not reachable"
when that day lies beyond 65535. -/
def firstOverdueDay (dueDay grace : Nat) : List Field :=
  let day := dueDay + grace + 1
  if maxDay < day then [u2 0, mark true] else [u2 day, mark false]

/-- R24, R144: a loan as LOAN_QUERY reports it. -/
def State.loanFields (s : State) (n : Nat) (l : Loan) : List Field :=
  [u2 n, u3 l.patron, u4 l.title, l.item.field, u2 l.dispatchDay, u2 l.dueDay, u1 l.state.code] ++
    firstOverdueDay l.dueDay s.loans.grace

/-- R24. -/
def loanQuery (form loan patron title : Nat) (s : State) : Result :=
  match formBad form loan patron title with
  | some f => refuse s .range f
  | none =>
    let key := if form = 0 then some loan
      else s.loans.loans.findKey (fun l => decide (l.patron = patron) && decide (l.title = title))
    match key with
    | none => refuse s .notFound (formField form)
    | some n =>
      match s.loan n with
      | none => refuse s .notFound (formField form)
      | some l => answer s .accepted (s.loanFields n l)

/-- LOAN_QUERY (R24, R144). -/
def execLoanQuery (h : Header) (form loan patron title : Nat) (s : State) : Host.Outcome State Fault Refusal :=
  .next (request .loanQuery h (loanQuery form loan patron title) s)

end Sys2Proof.Machine
end

