-- ==== Sys2Proof/Machine/TitleRequests.lean ====
section
/-! DEFINITION. The requests of the circulation port on titles: TITLE_LOAD, TITLE_SET, TITLE_DROP,
TITLE_QUERY (2.5 to 2.8). -/

namespace Sys2Proof.Machine

/-- R34: an image size of 0 is stored as 1, and one above 65536 as 65536. -/
def clampImage (size : Nat) : Nat :=
  min (max size 1) maxImage

/-- R34: the copy map of a title loaded with `n` copies. -/
def freshCopies (n : Nat) : List Copy :=
  List.replicate n .onShelf ++ List.replicate (copyEntries - n) .absent

/-- R33, R34. -/
def titleLoad (title format size selector copies : Nat) (s : State) : Result :=
  match firstBad [decide (title = 0), decide (1 < format), false, decide (format = 0 ∧ 1 < selector)] with
  | some f => refuse s .range f
  | none =>
    if s.titles.has title then refuse s .duplicate 1
    else if maxTitles ≤ s.titles.length then refuse s .full 0
    else
      match formatOf format with
      | .cartridge =>
        answer { s with titles := s.titles.put title (.cartridge (clampImage size) (selectorOf selector)) }
          (clampedIf (decide (clampImage size ≠ size))) [u3 (clampImage size), u1 selector]
      | .braille =>
        answer { s with titles := s.titles.put title (.braille (freshCopies (min copies copyEntries)) []) }
          (clampedIf (decide (copyEntries < copies))) [u1 (min copies copyEntries)]

/-- TITLE_LOAD (R33, R34). -/
def execTitleLoad (h : Header) (title format size selector copies : Nat) (s : State) :
    Host.Outcome State Fault Refusal :=
  .next (request .titleLoad h (titleLoad title format size selector copies) s)

/-- R35: whether an order of the title is WRITING or VERIFYING. -/
def State.titleOnRack (s : State) (title : Nat) : Bool :=
  s.book.orders.any (fun e => decide (e.2.title = title) &&
    (decide (e.2.state = .writing) || decide (e.2.state = .verifying)))

/-- R35: a cartridge title's size and selector changed. -/
def setCartridgeTitle (title stored size selector : Nat) (s : State) : Result :=
  if 1 < selector then refuse s .range 3
  else if clampImage size ≠ stored ∧ s.titleOnRack title = true then refuse s .wrongState 0
  else
    answer (s.onTitle title (fun _ => .cartridge (clampImage size) (selectorOf selector)))
      (clampedIf (decide (clampImage size ≠ size))) [u3 (clampImage size), u1 selector]

/-- R36, R37: a braille title's copies_total brought to a count. -/
def setBrailleTitle (title copies : Nat) (map : List Copy) (s : State) : Result :=
  let count := min copies copyEntries
  let total := copiesTotal map
  let code := clampedIf (decide (copyEntries < copies))
  if count < total then
    if onShelfCount map < total - count then refuse s .wrongState 0
    else
      let left := withdrawCopies map (total - count)
      answer (s.onTitle title (fun t => match t with
        | .braille _ hold => .braille left hold
        | t => t)) code [u1 count, u1 (onShelfCount left)]
  else
    let r := State.bringCopies title (List.range copyEntries) (s, count - total, 0)
    answer (r.1.settle s.book.orders) code [u1 count, u1 r.2.2]

/-- R35 to R37. -/
def titleSet (title size selector copies : Nat) (s : State) : Result :=
  match firstBad [decide (title = 0)] with
  | some f => refuse s .range f
  | none =>
    match s.title title with
    | none => refuse s .notFound 1
    | some (.cartridge stored _) => setCartridgeTitle title stored size selector s
    | some (.braille map _) => setBrailleTitle title copies map s

/-- TITLE_SET (R35, R36, R37). -/
def execTitleSet (h : Header) (title size selector copies : Nat) (s : State) : Host.Outcome State Fault Refusal :=
  .next (request .titleSet h (titleSet title size selector copies) s)

/-- R38: whether an order or a loan is for the title. -/
def State.titleInUse (s : State) (title : Nat) : Bool :=
  s.book.orders.any (fun e => decide (e.2.title = title)) ||
  s.loans.loans.any (fun e => decide (e.2.title = title))

/-- R38: whether every copy map entry is ON_SHELF or ABSENT. -/
def Title.idle : Title → Bool
  | .cartridge _ _ => true
  | .braille copies _ => copies.all (fun c => decide (c = .onShelf) || decide (c = .absent))

/-- R39: the deferred entry naming the title removed from one patron's list, with its notice. -/
def State.stripDeferred (title : Nat) (s : State) (patron : Nat) : State :=
  let s1 := s.onPatron patron (fun p => { p with deferred := p.deferred.filter (· != title) })
  match s1.patron patron with
  | some p => s1.raise .circulation .deferredDropped patron [u4 title, u1 p.deferred.length]
  | none => s1

/-- R39: the patrons whose deferred list names the title, in ascending patron number. -/
def State.deferring (s : State) (title : Nat) : List Nat :=
  (s.patrons.filter (fun e => e.2.deferred.contains title)).map Prod.fst

/-- R38, R39. -/
def titleDrop (title : Nat) (s : State) : Result :=
  match firstBad [decide (title = 0)] with
  | some f => refuse s .range f
  | none =>
    match s.title title with
    | none => refuse s .notFound 1
    | some t =>
      if s.titleInUse title || !t.idle then refuse s .wrongState 0
      else
        let hit := s.deferring title
        answer (hit.foldl (State.stripDeferred title) { s with titles := s.titles.drop title }) .accepted
          [u2 hit.length]

/-- TITLE_DROP (R38, R39). -/
def execTitleDrop (h : Header) (title : Nat) (s : State) : Host.Outcome State Fault Refusal :=
  .next (request .titleDrop h (titleDrop title) s)

/-- R40: the order number of an ALLOCATED entry, the loan number of one ON_LOAN, and 0 otherwise. -/
def Copy.number : Copy → Nat
  | .allocated n => n
  | .onLoan n => n
  | .onShelf => 0
  | .absent => 0

/-- The number of entries of a copy map whose state has a code (Table 2-2). -/
def copiesIn (copies : List Copy) (code : Nat) : Nat :=
  copies.countP (fun c => decide (c.code = code))

/-- R40: a braille title and one entry of its copy map. -/
def brailleFields (copies : List Copy) (hold : List Nat) (index : Nat) : List Field :=
  let entry := copies.getD index .absent
  [u1 (copiesTotal copies), u1 (onShelfCount copies), u1 (copiesIn copies 2), u1 (copiesIn copies 3),
    u2 hold.length, u2 (orZero hold.head?), u2 (orZero hold.getLast?), u1 entry.code, u2 entry.number]

/-- R40. -/
def titleQuery (title copy : Nat) (s : State) : Result :=
  match firstBad [decide (title = 0)] with
  | some f => refuse s .range f
  | none =>
    match s.title title with
    | none => refuse s .notFound 1
    | some (.cartridge size sel) =>
      answer s .accepted [u1 (Format.code .cartridge), u3 size, u1 sel.code,
        u2 (s.book.orders.countP (fun e => decide (e.2.title = title)))]
    | some (.braille copies hold) =>
      if 63 < copy then refuse s .range 2
      else answer s .accepted (brailleFields copies hold copy)

/-- TITLE_QUERY (R40). -/
def execTitleQuery (h : Header) (title copy : Nat) (s : State) : Host.Outcome State Fault Refusal :=
  .next (request .titleQuery h (titleQuery title copy) s)

end Sys2Proof.Machine
end

