-- ==== Sys2Proof/Machine/CartridgeRequests.lean ====
section
/-! DEFINITION. The requests on cartridges: CARTRIDGE_ADD, CARTRIDGE_DROP, NEXT_INSERT and
CARTRIDGE_QUERY (3.3 to 3.5). -/

namespace Sys2Proof.Machine

/-- R49: a cartridge record as CARTRIDGE_ADD creates it. -/
def Cartridge.created : Cartridge :=
  ⟨.blank, 0, 0, 0, .unbound, none⟩

/-- R49. -/
def cartridgeAdd (serial : Nat) (s : State) : Result :=
  match firstBad [decide (serial = 0)] with
  | some f => refuse s .range f
  | none =>
    if s.carts.table.has serial then refuse s .duplicate 1
    else if maxCartridges ≤ s.carts.table.length then refuse s .full 0
    else
      answer (State.joinPool { s with carts := { s.carts with table := s.carts.table.put serial .created } } serial)
        .accepted [u2 (s.carts.pool.length + 1)]

/-- CARTRIDGE_ADD (R49). -/
def execCartridgeAdd (h : Header) (serial : Nat) (s : State) : Host.Outcome State Fault Refusal :=
  .next (request .cartridgeAdd h (cartridgeAdd serial) s)

/-- R50: a RETIRED cartridge with no bay, or a BLANK one standing in the blank pool. -/
def State.droppable (s : State) (serial : Nat) (c : Cartridge) : Bool :=
  (decide (c.state = .retired) && c.bay.isNone) ||
  (decide (c.state = .blank) && c.bay.isNone && s.carts.pool.contains serial)

/-- R50. -/
def cartridgeDrop (serial : Nat) (s : State) : Result :=
  match firstBad [decide (serial = 0)] with
  | some f => refuse s .range f
  | none =>
    match s.cart serial with
    | none => refuse s .notFound 1
    | some c =>
      if s.droppable serial c = false then refuse s .wrongState 0
      else
        let left := s.carts.table.drop serial
        answer { s with carts := { s.carts with table := left, pool := s.carts.pool.filter (· != serial) } } .accepted
          [u2 left.length]

/-- CARTRIDGE_DROP (R50). -/
def execCartridgeDrop (h : Header) (serial : Nat) (s : State) : Host.Outcome State Fault Refusal :=
  .next (request .cartridgeDrop h (cartridgeDrop serial) s)

/-- R53, Table 3-4: the case that applies, on the pool reserve and the pool, backlog, pending and armed
counts. -/
def insertCase (reserve pool backlog pending armed : Nat) : Nat :=
  if 0 < backlog ∧ (pool < reserve ∨ pending ≤ armed) then 1
  else if armed < pending ∧ 0 < pool then 2
  else if 0 < backlog then 3
  else 4

/-- R53: the serial a case names, the head of the backlog or of the pool; 0 for none. -/
def State.namedSerial (s : State) (case : Nat) : Nat :=
  if case = 1 ∨ case = 3 then orZero s.carts.backlog.head?
  else if case = 2 then orZero s.carts.pool.head?
  else 0

/-- R53, R54. -/
def nextInsert (s : State) : Result :=
  let pool := s.carts.pool.length
  let backlog := s.carts.backlog.length
  let pending := s.book.queue.length
  let armed := s.armedBays.length
  let case := insertCase s.loans.poolReserve pool backlog pending armed
  let serial := s.namedSerial case
  let history := match s.cart serial with
    | some c => (c.writes, c.dirty)
    | none => (0, 0)
  answer s (if case = 4 then .none else .accepted)
    [u1 case, u4 serial, u1 (if case = 1 ∨ case = 3 then 1 else 0), u2 history.1, u3 history.2,
      u2 pool, u2 backlog, u2 pending, u1 armed]

/-- NEXT_INSERT (R53, R54). -/
def execNextInsert (h : Header) (s : State) : Host.Outcome State Fault Refusal :=
  .next (request .nextInsert h nextInsert s)

/-- R55: the number bound and the mark that says which, 0 order and 1 loan. -/
def Binding.fields : Binding → List Field
  | .unbound => [u2 0, u1 0]
  | .order n => [u2 n, u1 0]
  | .loan n => [u2 n, u1 1]

/-- R55: a cartridge as CARTRIDGE_QUERY reports it, with its place in the pool or the backlog. -/
def State.cartridgeFields (s : State) (serial : Nat) (c : Cartridge) : List Field :=
  [u4 serial, u1 c.state.code, u2 c.writes, u1 c.failures, u3 c.dirty] ++ c.bound.fields ++
    [u1 (orZero c.bay), mark c.bay.isNone, u2 (placeIn s.carts.pool serial + placeIn s.carts.backlog serial),
      mark (decide (s.loans.wearLimit ≤ c.writes))]

/-- R55. -/
def cartridgeQuery (serial : Nat) (s : State) : Result :=
  match firstBad [decide (serial = 0)] with
  | some f => refuse s .range f
  | none =>
    match s.cart serial with
    | none => refuse s .notFound 1
    | some c => answer s .accepted (s.cartridgeFields serial c)

/-- CARTRIDGE_QUERY (R55). -/
def execCartridgeQuery (h : Header) (serial : Nat) (s : State) : Host.Outcome State Fault Refusal :=
  .next (request .cartridgeQuery h (cartridgeQuery serial) s)

end Sys2Proof.Machine
end

