-- ==== Sys2Proof/Machine/Events.lean ====
section
/-! DEFINITION. The commands that are no request: select periods that bring in none, the placement of a
response, the reset input, and the events of the part's own time base (Chapters 10 and 11; R97, R114,
R132). -/

namespace Sys2Proof.Machine

/-! ### The links -/

/-- FRAME_DISCARD (R165, R170): a frame discarded for its length, its check byte or an early release of
select. It gets no response and reaches no block, and BAD_FRAME is set; a response in the slot is
shifted out as in every period. While the reset input is asserted nothing is taken in (R179). -/
def execFrameDiscard (p : Port) (clocked : Nat) (s : State) : Host.Outcome State Fault Refusal :=
  .next (s.onUnit p (fun u => { u.clockOut clocked with badFrame := u.badFrame || !s.resetHeld }))

/-- READ_PERIOD (R165, R167): the bytes shifted in are ignored, and the response is shifted out. -/
def execReadPeriod (p : Port) (clocked : Nat) (s : State) : Host.Outcome State Fault Refusal :=
  .next (s.onUnit p (fun u => u.clockOut clocked))

/-- R171: the values of Table 10-1 taken by one unit; the records of its outputs stay. -/
def PortUnit.linkReset (u : PortUnit) : PortUnit :=
  { PortUnit.reset with shifted := u.shifted, pulses := u.pulses }

/-- LINK_RESET (R171): the port unit takes the values of Table 10-1; no other block, no other port. -/
def execLinkReset (p : Port) (clocked : Nat) (s : State) : Host.Outcome State Fault Refusal :=
  .next (s.onUnit p (fun u => (u.clockOut clocked).linkReset))

/-- R167: the response a slot awaits is placed; a slot that awaits none (after a link reset, R171) has
none to place. -/
def placeResponse (p : Port) (s : State) : State :=
  match (s.unit p).slot with
  | .awaiting r => s.onUnit p (fun u => u.place r (s.placedBody r))
  | _ => s

/-- RESPONSE_PLACED (R167). -/
def execResponsePlaced (p : Port) (s : State) : Host.Outcome State Fault Refusal :=
  .next (placeResponse p s)

/-! ### The reset input -/

/-- RESET_ASSERT (R179): every record of every block takes its power-on values, no notice is raised, and
the part takes no request while the input is asserted. -/
def execResetAssert (s : State) : Host.Outcome State Fault Refusal :=
  .next { State.reset with pending := s.pending, resetHeld := true }

/-- RESET_RELEASE (R180): the time base starts, from tick 0, at day 0, second 0, state DAY. A release of
an input that is not asserted is no event. -/
def execResetRelease (s : State) : Host.Outcome State Fault Refusal :=
  .next (if s.resetHeld then { s with resetHeld := false, clock := .reset } else s)

/-! ### The time base -/

/-- SECOND_ADVANCE (R114, R116 to R119). The time base stands while the reset input is asserted. -/
def execSecondAdvance (s : State) : Host.Outcome State Fault Refusal :=
  .next (if s.resetHeld then s else s.advanceSecond)

/-- R97: the channel tick carried to the first one after a deadline, if it has not reached it. -/
def Clock.passDeadline (c : Clock) (deadline : Nat) : Clock :=
  { c with tick := max c.tick (deadline + 1) }

/-- R97: the outstanding slot passes its deadline; with no slot the expiry does not take place. -/
def State.slotExpiry (s : State) : State :=
  match s.rack.slot with
  | none => s
  | some sl => State.expireSlot { s with clock := s.clock.passDeadline sl.deadline }

/-- SLOT_EXPIRY (R97). -/
def execSlotExpiry (s : State) : Host.Outcome State Fault Refusal :=
  .next s.slotExpiry

/-- R131, R132, R143: a container's idle count has reached the idle time in force. Where it has not, because
the timer is stopped or a placement has begun it again at 0, the expiry does not take place. -/
def State.idleReached (s : State) (container : Nat) : State :=
  match s.container container with
  | none => s
  | some c => if c.idleDue s.packing.idleTime then s.idleExpire container else s

/-- IDLE_EXPIRY (R131, R132, R143). -/
def execIdleExpiry (container : Nat) (s : State) : Host.Outcome State Fault Refusal :=
  .next (s.idleReached container)

end Sys2Proof.Machine
end

