-- ==== Sys2Proof/Machine/MailRequests.lean ====
section
/-! DEFINITION. The requests of the mail port on items, containers and bags: PACK_ITEM,
CONTAINER_CLOSE, CONTAINER_SEALED, BAG_CLOSE, BAG_HANDED; and CONTAINER_QUERY and BAG_QUERY
(Chapter 8). -/

namespace Sys2Proof.Machine

/-! ### Packing (8.2) -/

/-- What an item is found to be: an order to pack, or a refusal with the field it names. -/
inductive PackTarget where
  | order (n : Nat)
  | refused (code : Code) (field : Nat)
  deriving DecidableEq, Repr

/-- R127: an order number, if the order is READY. -/
def State.readyTarget (s : State) (n : Nat) : PackTarget :=
  match s.order n with
  | some o => if o.state = .ready then .order n else .refused .wrongState 0
  | none => .refused .wrongState 0

/-- R127: a cartridge must be known and WRITTEN, and the READY order it is bound to is packed. -/
def State.cartridgeTarget (s : State) (serial : Nat) : PackTarget :=
  match s.cart serial with
  | none => .refused .notFound 2
  | some c =>
    match c.state, c.bound with
    | .written, .order n => s.readyTarget n
    | _, _ => .refused .wrongState 0

/-- R127, R32: a copy must be known and ALLOCATED to an order in state READY. A copy that a cancel has handed
to the order at the head of the hold queue is packed for that order by these tests, although R18's row on
PACK_ITEM answers WRONG_STATE (DEDUCED, log entry 29). -/
def State.copyTarget (s : State) (title copy : Nat) : PackTarget :=
  match s.title title with
  | some (.braille copies _) =>
    match copies.getD copy .absent with
    | .absent => .refused .notFound 3
    | .allocated n => s.readyTarget n
    | .onShelf => .refused .wrongState 0
    | .onLoan _ => .refused .wrongState 0
  | _ => .refused .notFound 2

/-- R128 steps 2 and 3: the patron's OPEN container. -/
def State.openContainerOf (s : State) (patron : Nat) : Option Nat :=
  match s.patron patron with
  | some p => p.openContainer
  | none => none

/-- R125, Table 8-2: a container record at its creation, before its first item is placed. -/
def State.freshContainer (s : State) (patron : Nat) (braille : Bool) : Container where
  patron := patron
  region := match s.patron patron with
    | some p => p.region
    | none => 0
  state := .opened
  items := []
  braille := braille
  lastItem := s.clock.second
  idle := some 0
  held := false
  bag := none

/-- R128 step 5, R126: a new container; for a cartridge item it becomes the patron's open container. -/
def State.newContainer (s : State) (patron : Nat) (braille : Bool) : State × Nat :=
  let n := assignNumber maxNumber s.packing.containers s.packing.containerCounter
  let s1 := { s with packing := { s.packing with
    containers := s.packing.containers.put n (s.freshContainer patron braille)
    containerCounter := nextNumber maxNumber n } }
  (if braille then s1 else s1.onPatron patron (fun p => { p with openContainer := some n }), n)

/-- R129: an order's item placed in a container. -/
def State.placeItem (s : State) (n : Nat) (o : Order) (k : Nat) : State :=
  let s1 := (s.onOrder n (fun o => { o with state := .packed, container := some k })).onContainer k
    (fun c => { c with items := c.items ++ [n], lastItem := s.clock.second, held := false, idle := some 0 })
  match o.serial with
  | some c => s1.onCart c (fun c => { c with state := .packed })
  | none => s1

/-- R128 step 5: whether the container closes within the event that placed an item in it. -/
def closesOnPlacing (c : Container) (mailDay : MailDay) (created : Bool) : Bool :=
  c.braille || (decide (mailDay ≠ .day) && created) || decide (containerCapacity ≤ c.items.length)

/-- R131, R132: an idle time of 0 expires within the placing event; the close is reported in the
response (R130). -/
def State.expireAtOnce (s : State) (k patron : Nat) : State :=
  if s.packing.idleTime = 0 then (if s.waits patron then s.hold k else s.closeContainer k) else s

/-- R128, R130, R131: what follows the placement. -/
def State.afterPlacing (s : State) (k : Nat) (created : Bool) : State :=
  match s.container k with
  | none => s
  | some c =>
    if closesOnPlacing c s.clock.mailDay created then s.closeContainer k else s.expireAtOnce k c.patron

/-- R129: the data of the address card and the rest of the response. -/
def State.cardFields (s : State) (n k : Nat) (created : Bool) : List Field :=
  match s.container k with
  | some c => [u2 k, u3 c.patron, u1 c.region, u2 n, u1 c.items.length, mark created, u1 c.state.code]
  | none => []

/-- R128, R129, R134: the item of an order placed in a container, new or the patron's own. A held
container that the item did not join is re-examined. -/
def State.packInto (s : State) (n : Nat) (o : Order) (k : Nat) (created : Bool) : Result :=
  let s1 := ((s.placeItem n o k).afterPlacing k created).reexamine o.patron
  answer s1 .accepted (s1.cardFields n k created)

/-- R128: placement finds the container for an order. -/
def State.packOrder (s : State) (n : Nat) (o : Order) : Result :=
  match o.format, s.openContainerOf o.patron with
  | .cartridge, some k => s.packInto n o k false
  | _, _ =>
    if maxContainers ≤ s.packing.containers.length then refuse s .full 0
    else
      let nc := s.newContainer o.patron (decide (o.format = .braille))
      nc.1.packInto n o nc.2 true

/-- R127 to R129. -/
def packItem (item identity copy : Nat) (s : State) : Result :=
  match firstBad [decide (1 < item), decide (identity = 0), decide (item = 1 ∧ 63 < copy)] with
  | some f => refuse s .range f
  | none =>
    match (if item = 0 then s.cartridgeTarget identity else s.copyTarget identity copy) with
    | .refused code field => refuse s code field
    | .order n =>
      match s.order n with
      | some o => s.packOrder n o
      | none => refuse s .wrongState 0

/-- PACK_ITEM (R127, R128, R129). -/
def execPackItem (h : Header) (item identity copy : Nat) (s : State) : Host.Outcome State Fault Refusal :=
  .next (request .packItem h (packItem item identity copy) s)

/-! ### Containers and bags (8.3, 8.4) -/

/-- R135. -/
def containerClose (container : Nat) (s : State) : Result :=
  match firstBad [decide (container = 0)] with
  | some f => refuse s .range f
  | none =>
    match s.container container with
    | none => refuse s .notFound 1
    | some c =>
      if c.state ≠ .opened then refuse s .wrongState 0
      else answer (s.closeContainer container) .accepted [u3 c.patron, u1 c.region, u1 c.items.length]

/-- CONTAINER_CLOSE (R135). -/
def execContainerClose (h : Header) (container : Nat) (s : State) : Host.Outcome State Fault Refusal :=
  .next (request .containerClose h (containerClose container) s)

/-- R137: a container with neither a FILLING bag nor room for one joins the unbagged queue. -/
def State.waitForBag (s : State) (n : Nat) : State :=
  let s1 := s.onContainer n (fun c => { c with state := .waitingBag })
  { s1 with packing := { s1.packing with unbagged := s1.packing.unbagged ++ [n] } }

/-- R137: the container's state after the event, its bag, the bag's count, and whether the bag closed. -/
def State.sealedFields (s : State) (n bag : Nat) : List Field :=
  let state := match s.container n with
    | some c => c.state.code
    | none => 0
  match s.bag bag with
  | some g => [u1 state, u1 bag, u1 g.containers.length, mark (decide (g.state = .closed))]
  | none => [u1 state, u1 0, u1 0, mark false]

/-- R137. -/
def containerSealed (container : Nat) (s : State) : Result :=
  match firstBad [decide (container = 0)] with
  | some f => refuse s .range f
  | none =>
    match s.container container with
    | none => refuse s .notFound 1
    | some c =>
      if c.state ≠ .closed then refuse s .wrongState 0
      else
        match s.bagContainer container c.region with
        | some r => answer r.1 .accepted (r.1.sealedFields container r.2)
        | none => answer (s.waitForBag container) .accepted ((s.waitForBag container).sealedFields container 0)

/-- CONTAINER_SEALED (R137). -/
def execContainerSealed (h : Header) (container : Nat) (s : State) : Host.Outcome State Fault Refusal :=
  .next (request .containerSealed h (containerSealed container) s)

/-- R138. -/
def bagClose (bag : Nat) (s : State) : Result :=
  match firstBad [decide (bag = 0)] with
  | some f => refuse s .range f
  | none =>
    match s.bag bag with
    | none => refuse s .notFound 1
    | some g =>
      if g.state = .closed then refuse s .wrongState 0
      else answer (s.closeBag bag false) .accepted [u1 g.region, u1 g.containers.length]

/-- BAG_CLOSE (R138). -/
def execBagClose (h : Header) (bag : Nat) (s : State) : Host.Outcome State Fault Refusal :=
  .next (request .bagClose h (bagClose bag) s)

/-! ### Dispatch (8.5) -/

/-- The item a dispatched order becomes a loan of (R140). -/
def Order.item (o : Order) : Item :=
  match o.format with
  | .cartridge => .cartridge (orZero o.serial)
  | .braille => .copy (orZero o.copy)

/-- R140: the loan record made for an order. -/
def State.newLoan (s : State) (o : Order) : Loan :=
  ⟨o.patron, o.title, o.item, s.clock.day, min maxDay (s.clock.day + s.loans.period), .out⟩

/-- R140, R48, R28: one order turned into a loan, and its cartridge or copy ON_LOAN. -/
def State.dispatchOrder (s : State) (n : Nat) : State :=
  match s.order n with
  | none => s
  | some o =>
    let k := assignNumber maxNumber s.loans.loans s.loans.counter
    let s1 := { s.dropOrder n with loans := { s.loans with
      loans := s.loans.loans.put k (s.newLoan o), counter := nextNumber maxNumber k } }
    match o.item with
    | .cartridge c => s1.onCart c (fun c => { c with state := .onLoan, bound := .loan k })
    | .copy i => s1.onTitle o.title (fun t => t.setCopy i (.onLoan k))

/-- The orders of a container, in the order they were placed. -/
def State.itemsOf (s : State) (n : Nat) : List Nat :=
  match s.container n with
  | some c => c.items
  | none => []

/-- R141: the bag's containers and the bag gone from their tables. -/
def State.removeBag (s : State) (bag : Nat) (containers : List Nat) : State :=
  { s with packing := { s.packing with
    containers := containers.foldl (fun t n => t.drop n) s.packing.containers
    bags := s.packing.bags.drop bag } }

/-- R140, R141. The count of containers drained is sent as one byte: one drain moves at most the 24 that fill
the one new bag, so it cannot exceed 255 (DEDUCED, log entry 12). -/
def bagHanded (bag : Nat) (s : State) : Result :=
  match firstBad [decide (bag = 0)] with
  | some f => refuse s .range f
  | none =>
    match s.bag bag with
    | none => refuse s .notFound 1
    | some g =>
      if g.state = .filling then refuse s .wrongState 0
      else
        let items := (g.containers.map s.itemsOf).flatten
        let s1 := ((items.foldl State.dispatchOrder s).removeBag bag g.containers).raise .circulation .dispatched bag
          [u1 g.region, u1 g.containers.length, u1 items.length, mark g.atCutoff]
        let s2 := s1.drain
        answer s2 .accepted [u1 g.containers.length, u1 items.length,
          u1 (s1.packing.unbagged.length - s2.packing.unbagged.length), u2 s2.packing.unbagged.length]

/-- BAG_HANDED (R140, R141). -/
def execBagHanded (h : Header) (bag : Nat) (s : State) : Host.Outcome State Fault Refusal :=
  .next (request .bagHanded h (bagHanded bag) s)

/-! ### Queries (8.6) -/

/-- R142: every field of Table 8-2; for a running timer the seconds left before expiry; for a
WAITING_BAG container its place in the unbagged queue. A stopped idle count is sent as 0, and the seconds
left, which follow only for a running one, tell the two apart (DEDUCED, log entry 8). -/
def State.containerFields (s : State) (n : Nat) (c : Container) : List Field :=
  [u2 n, u3 c.patron, u1 c.region, u1 c.state.code, u1 c.items.length] ++ c.items.map u2 ++
    [mark c.braille, u3 c.lastItem, u2 (orZero c.idle), mark c.held, u1 (orZero c.bag)] ++
    (match c.idle with
      | some i => [u2 (s.packing.idleTime - i)]
      | none => []) ++
    (if c.state = .waitingBag then [u2 (placeIn s.packing.unbagged n)] else [])

/-- R142. -/
def containerQuery (container : Nat) (s : State) : Result :=
  match firstBad [decide (container = 0)] with
  | some f => refuse s .range f
  | none =>
    match s.container container with
    | none => refuse s .notFound 1
    | some c => answer s .accepted (s.containerFields container c)

/-- CONTAINER_QUERY (R142). -/
def execContainerQuery (h : Header) (container : Nat) (s : State) : Host.Outcome State Fault Refusal :=
  .next (request .containerQuery h (containerQuery container) s)

/-- R142: a bag as BAG_QUERY reports it. -/
def Bag.fields (g : Bag) : List Field :=
  [u1 g.region, u1 g.state.code, mark g.atCutoff, u1 g.containers.length] ++ g.containers.map u2

/-- R142. -/
def bagQuery (bag : Nat) (s : State) : Result :=
  match firstBad [decide (bag = 0)] with
  | some f => refuse s .range f
  | none =>
    match s.bag bag with
    | none => refuse s .notFound 1
    | some g => answer s .accepted g.fields

/-- BAG_QUERY (R142). -/
def execBagQuery (h : Header) (bag : Nat) (s : State) : Host.Outcome State Fault Refusal :=
  .next (request .bagQuery h (bagQuery bag) s)

end Sys2Proof.Machine
end

