-- ==== Sys2Proof/Machine/PortRequests.lean ====
section
/-! DEFINITION. The requests of every port on the port itself and on the whole part: STATUS,
FETCH_NOTICES, NOTICE_MASK, PROJECTION_QUERY; and the request of an unknown kind (Chapters 6 and 10). -/

namespace Sys2Proof.Machine

/-- R177: what STATUS reports, on a port. -/
def State.statusFields (s : State) (p : Port) : List Field :=
  [u2 s.clock.day, u3 s.clock.second, u1 s.clock.mailDay.code,
    u1 s.rack.state.code, u1 s.rack.mode.code, mark s.rack.slot.isSome,
    u1 s.lane.state.code,
    u2 s.patrons.length, u2 s.titles.length, u2 s.book.orders.length, u2 s.carts.table.length,
    u2 s.packing.containers.length, u1 s.packing.bags.length, u2 s.loans.loans.length,
    u2 s.book.queue.length, u2 s.carts.pool.length, u2 s.carts.backlog.length, u2 s.packing.unbagged.length,
    u1 s.armedBays.length, u1 (s.unit p).notices.length, u1 (s.unit p).mode.code]

/-- STATUS (R177). -/
def execStatus (h : Header) (s : State) : Host.Outcome State Fault Refusal :=
  .next (request .status h (fun s => answer s .accepted (s.statusFields h.port)) s)

/-- R173: a notice as FETCH_NOTICES returns it, 20 bytes: kind, subject, second, and twelve bytes of
data with zeros after the last field. -/
def Notice.fields (n : Notice) : List Field :=
  [u1 n.kind.code, u4 n.subject, u3 n.second] ++ n.data ++ [⟨12 - (n.data.map Field.size).sum, 0⟩]

/-- R174: the notices taken from the head of the queue. -/
def fetchNotices (p : Port) (most : Nat) (s : State) : Result :=
  match firstBad [decide (most = 0 ∨ 8 < most)] with
  | some f => refuse s .range f
  | none =>
    let taken := (s.unit p).notices.take most
    let left := (s.unit p).notices.drop most
    answer (s.onUnit p (fun u => { u with notices := left })) .accepted
      ([u1 taken.length, u1 left.length] ++ (taken.map Notice.fields).flatten)

/-- FETCH_NOTICES (R174). -/
def execFetchNotices (h : Header) (most : Nat) (s : State) : Host.Outcome State Fault Refusal :=
  .next (request .fetchNotices h (fetchNotices h.port most) s)

/-- R175: the mask as stored: bit 15 is not read. -/
def storedMask (mask : Nat) : BitVec 16 :=
  BitVec.ofNat 16 (mask % 32768)

/-- R175. -/
def noticeMask (p : Port) (mask mode : Nat) (s : State) : Result :=
  match firstBad [false, decide (1 < mode)] with
  | some f => refuse s .range f
  | none =>
    answer (s.onUnit p (fun u => { u with mask := storedMask mask, mode := attentionOf mode })) .accepted
      [u2 (storedMask mask).toNat, u1 mode, u1 (s.unit p).notices.length]

/-- NOTICE_MASK (R175). -/
def execNoticeMask (h : Header) (mask mode : Nat) (s : State) : Host.Outcome State Fault Refusal :=
  .next (request .noticeMask h (noticeMask h.port mask mode) s)

/-- R111: for a WRITING or VERIFYING order the bay and the job's remaining count; for a braille order
that holds a copy the title number and the copy index. -/
def State.itemFields (s : State) (o : Order) : List Field :=
  (if o.state = .writing ∨ o.state = .verifying then
    [u1 (orZero o.bay), u3 (match o.bay.bind (fun b => (s.bay b).job) with
      | some j => j.remaining
      | none => 0)]
  else []) ++
  (match o.copy with
    | some i => [u4 o.title, u1 i]
    | none => [])

/-- R111: an order's projection, with the clock's present second, the mail day state and L. -/
def State.projectionFields (s : State) (o : Order) : List Field :=
  [u1 o.state.code, u3 (orZero o.ready), mark o.ready.isNone, u1 o.tag.code, u3 o.patron] ++ s.itemFields o ++
    [u3 s.clock.second, u1 s.clock.mailDay.code, u3 s.clock.lastCall]

/-- R111. -/
def projectionQuery (order : Nat) (s : State) : Result :=
  match firstBad [decide (order = 0)] with
  | some f => refuse s .range f
  | none =>
    match s.order order with
    | none => refuse s .notFound 1
    | some o => answer s .accepted (s.projectionFields o)

/-- PROJECTION_QUERY (R111). -/
def execProjectionQuery (h : Header) (order : Nat) (s : State) : Host.Outcome State Fault Refusal :=
  .next (request .projectionQuery h (projectionQuery order) s)

/-- UNKNOWN_KIND (R166 test 1): the port unit itself answers, and the request reaches no block. -/
def execUnknownKind (h : Header) (code : Nat) (s : State) : Host.Outcome State Fault Refusal :=
  .next (takeRequest code (some .unknownKind) h (fun s => answer s .accepted []) s)

end Sys2Proof.Machine
end

