-- ==== Sys2Proof/Machine/RackRequests.lean ====
section
/-! DEFINITION. The requests of the rack port to the scheduler: RACK_START, RACK_STOP, RACK_SET,
SLICE_NEXT, SLICE_DONE; and RACK_QUERY (Chapter 5). -/

namespace Sys2Proof.Machine

/-- R85. -/
def rackStart (s : State) : Result :=
  if s.rack.state = .running then refuse s .wrongState 0
  else
    let s1 := s.onRack (fun r => { r with
      state := .running, round := if r.state = .stopped then none else r.round })
    let s2 := (s1.recomputeWriting s1.roundTime).settle s.book.orders
    answer s2 .accepted [u1 s2.rack.state.code, u1 s2.rack.mode.code, u4 s2.rack.roundNumber,
      mark s2.rack.round.isSome]

/-- RACK_START (R85). -/
def execRackStart (h : Header) (s : State) : Host.Outcome State Fault Refusal :=
  .next (request .rackStart h rackStart s)

/-- The pair and the two grants of a slot. -/
def Slot.grantFields (sl : Slot) : List Field :=
  [u1 sl.pair, u1 sl.even.blocks, u1 sl.odd.blocks]

/-- R86: the rack state before the request, whether a slot was abandoned, and its pair and grants. -/
def stopBody (r : Scheduler) : List Field :=
  [u1 r.state.code, mark r.slot.isSome] ++
    match r.slot with
    | some sl => sl.grantFields
    | none => []

/-- R86, R93: the rack STOPPED, its slot and round gone, every WRITING order in the stopped form. -/
def State.stopRack (s : State) : State :=
  (s.onRack (fun r => { r with state := .stopped, slot := none, round := none })).stopProjections

/-- R86. -/
def rackStop (s : State) : Result :=
  if s.rack.state = .stopped then answer s .accepted (stopBody s.rack)
  else answer (s.stopRack.settle s.book.orders) .accepted (stopBody s.rack)

/-- RACK_STOP (R86). -/
def execRackStop (h : Header) (s : State) : Host.Outcome State Fault Refusal :=
  .next (request .rackStop h rackStop s)

/-- R87: a width of 0 is stored as 1. -/
def clampWidth (w : Nat) : Nat :=
  max w 1

/-- R87. -/
def rackSet (widthA widthB blankSel vt mode : Nat) (s : State) : Result :=
  match firstBad [false, false, decide (1 < blankSel), false, decide (1 < mode)] with
  | some f => refuse s .range f
  | none =>
    if s.rack.state = .running ∧ modeOf mode ≠ s.rack.mode then refuse s .wrongState 0
    else
      answer (s.onRack (fun r => { r with
          widthA := clampWidth widthA, widthB := clampWidth widthB
          blankSel := selectorOf blankSel, vt := vt, mode := modeOf mode }))
        (clampedIf (decide (widthA = 0 ∨ widthB = 0)))
        [u1 (clampWidth widthA), u1 (clampWidth widthB), u1 blankSel, u1 vt, u1 mode]

/-- RACK_SET (R87). -/
def execRackSet (h : Header) (widthA widthB blankSel vt mode : Nat) (s : State) : Host.Outcome State Fault Refusal :=
  .next (request .rackSet h (rackSet widthA widthB blankSel vt mode) s)

/-- R94: one bay of a granted slot: its grant, its job kind or none, its job's remaining count. -/
def State.grantedFields (s : State) (b : Nat) (g : Grant) : List Field :=
  [u1 g.blocks, u1 (jobKindCode g.kind), u3 (if g.blocks = 0 then 0 else (s.bay b).remaining)]

/-- R92, R94: an entry's pair is granted its slot. The place of the entry in the list is counted from 1
(DESIGN CHOICE, log entry 8). -/
def State.grantSlot (s : State) (rd : Round) (e : Entry) : Result :=
  let sl := s.slotFor e
  answer (s.onRack (fun r => { r with round := some rd, slot := some sl })) .accepted
    ([u4 rd.number, u1 sl.pair, u1 (rd.next + 1), u1 rd.entries.length] ++
      s.grantedFields (2 * e.pair) sl.even ++ s.grantedFields (2 * e.pair + 1) sl.odd ++
      [u2 (sl.deadline - sl.grantTick)])

/-- R91 step 3: with no round in progress, idle, or a round starts and its first entry is granted. -/
def State.beginRound (s : State) : Result :=
  match s.roundEntries with
  | [] => answer s .none [u4 s.rack.roundNumber, u1 0]
  | e :: _ =>
    let s1 := s.startRound
    match s1.rack.round with
    | some rd => s1.grantSlot rd e
    | none => answer s1 .none [u4 s1.rack.roundNumber, u1 0]

/-- R93: the end of a round in SINGLE mode: the rack is STOPPED, with one ROUND_DONE notice. -/
def State.roundDone (s : State) (rd : Round) : Result :=
  answer (s.stopRack.raise .rack .roundDone rd.number [u1 rd.reported]) .none [u4 s.rack.roundNumber, u1 1]

/-- R91. -/
def State.nextSlice (s : State) : Result :=
  match s.rack.round with
  | none => s.beginRound
  | some rd =>
    match rd.passOver.entries[rd.passOver.next]? with
    | some e => s.grantSlot rd.passOver e
    | none =>
      if s.rack.mode = .single then s.roundDone rd
      else (s.onRack (fun r => { r with round := none })).beginRound

/-- R91 to R94, the event settled (R109). -/
def sliceNext (s : State) : Result :=
  if s.rack.state ≠ .running ∨ s.rack.slot.isSome = true then refuse s .wrongState 0
  else
    let r := s.nextSlice
    { r with state := r.state.settle s.book.orders }

/-- SLICE_NEXT (R91, R92, R93, R94). -/
def execSliceNext (h : Header) (s : State) : Host.Outcome State Fault Refusal :=
  .next (request .sliceNext h sliceNext s)

/-- R96: the slot closed, the report counted, the next entry past the entry the slot served. -/
def Scheduler.closeSlot (r : Scheduler) : Scheduler :=
  { r with
    slot := none
    round := r.round.map (fun rd => { rd with next := rd.next + 1, reported := rd.reported + 1 }) }

/-- R96: one bay of a report: its result, its job's remaining count after the report, its state. -/
def reportFields (before after : Bay) (g : Grant) (count : Nat) : List Field :=
  let result := sliceCase g count before.remaining
  [u1 result.code,
    u3 (match result with
      | .notGranted => 0
      | .ignored => 0
      | _ => before.remaining - count),
    u1 after.state.code]

/-- R96: whether the round has further entries. -/
def Scheduler.furtherEntries (r : Scheduler) : Bool :=
  match r.round with
  | some rd => decide (rd.next < rd.entries.length)
  | none => false

/-- R95, R96: an accepted report against the outstanding slot: each bay in ascending order, then the
slot is closed. -/
def State.takeReport (s : State) (sl : Slot) (even odd : Nat) : State :=
  ((s.applySlice (2 * sl.pair) sl.even even).applySlice (2 * sl.pair + 1) sl.odd odd).onRack Scheduler.closeSlot

/-- R95, R96, R97. A report that finds the slot past its deadline finds it expired: the expiry takes
place first, and the report is answered TOO_LATE. -/
def sliceDone (even odd : Nat) (s : State) : Result :=
  match s.rack.slot with
  | none => refuse s .tooLate 0
  | some sl =>
    if sl.deadline < s.clock.tick then refuse s.expireSlot .tooLate 0
    else
      match firstBad [decide (sl.even.blocks < even), decide (sl.odd.blocks < odd)] with
      | some f => refuse s .range f
      | none =>
        let s1 := (s.takeReport sl even odd).settle s.book.orders
        answer s1 .accepted
          (reportFields (s.bay (2 * sl.pair)) (s1.bay (2 * sl.pair)) sl.even even ++
            reportFields (s.bay (2 * sl.pair + 1)) (s1.bay (2 * sl.pair + 1)) sl.odd odd ++
            [mark s1.rack.furtherEntries])

/-- SLICE_DONE (R95, R96). -/
def execSliceDone (h : Header) (even odd : Nat) (s : State) : Host.Outcome State Fault Refusal :=
  .next (request .sliceDone h (sliceDone even odd) s)

/-- R99: one entry of the round's slot list. -/
def Entry.fields (e : Entry) : List Field :=
  [u1 e.pair, mark e.even, mark e.odd]

/-- R99: the round in progress: its time, its number of entries, the place of the next entry, and each entry.
Places are counted from 1, and the end of the list is one past the last (DESIGN CHOICE, log entry 8). -/
def Round.fields (rd : Round) : List Field :=
  [u2 rd.time, u1 rd.entries.length, u1 (rd.next + 1)] ++ (rd.entries.map Entry.fields).flatten

/-- R99: the outstanding slot: its pair, grants, job kinds, marks (0 standing, 1 lost), and the channel
ticks left before the deadline. The mark of a bay granted 0 is sent as standing (DESIGN CHOICE, log entry 8). -/
def Slot.fields (sl : Slot) (tick : Nat) : List Field :=
  sl.grantFields ++ [u1 (jobKindCode sl.even.kind), u1 (jobKindCode sl.odd.kind),
    mark sl.even.lost, mark sl.odd.lost, u2 (sl.deadline - tick)]

/-- R99: the scheduler record as RACK_QUERY reports it: the rack state, the mode, the five settings of
R87 in its order (the mode among them, log entry 14), and the rest. -/
def State.rackFields (s : State) : List Field :=
  let r := s.rack
  [u1 r.state.code, u1 r.mode.code, u1 r.widthA, u1 r.widthB, u1 r.blankSel.code, u1 r.vt, u1 r.mode.code,
    u4 r.roundNumber, mark r.round.isSome] ++
  (match r.round with
    | some rd => rd.fields
    | none => []) ++
  (match r.slot with
    | some sl => sl.fields s.clock.tick
    | none => [])

/-- RACK_QUERY (R99). -/
def execRackQuery (h : Header) (s : State) : Host.Outcome State Fault Refusal :=
  .next (request .rackQuery h (fun s => answer s .accepted s.rackFields) s)

end Sys2Proof.Machine
end

