-- ==== Sys2Proof/Machine/ReturnRequests.lean ====
section
/-! DEFINITION. The requests of the returns port: RETURN_ITEM, LANE_CLEAR, LANE_MASK; and LANE_QUERY
(9.3 to 9.6). -/

namespace Sys2Proof.Machine

/-! ### Classification (R151) -/

/-- The result of a classification: an error, or a success with the loan the item is out on. -/
inductive ReturnCase where
  | error (kind : ErrorKind)
  | success (number : Nat) (loan : Loan)
  deriving DecidableEq, Repr

/-- The loan an item points back to (R144). -/
def State.loanCase (s : State) (n : Nat) : ReturnCase :=
  match s.loan n with
  | some l => .success n l
  | none => .error .notOnLoan

/-- R151: the first row that applies. The second RETURN_ITEM of a copy whose first return was DAMAGED finds its
entry ABSENT (R155) and is an UNKNOWN_ITEM by this table, although R162's row gives NOT_ON_LOAN (DEDUCED, log
entry 30). -/
def State.classify (s : State) (item : GivenItem) : ReturnCase :=
  match item with
  | .unreadable => .error .unreadable
  | .cartridge serial =>
    match s.cart serial with
    | none => .error .unknownItem
    | some c =>
      match c.state, c.bound with
      | .onLoan, .loan n => s.loanCase n
      | _, _ => .error .notOnLoan
  | .copy title index =>
    match s.title title with
    | some (.braille copies _) =>
      match copies.getD index .absent with
      | .absent => .error .unknownItem
      | .onShelf => .error .notOnLoan
      | .allocated _ => .error .notOnLoan
      | .onLoan n => s.loanCase n
    | _ => .error .unknownItem

/-! ### Errors (R152) -/

/-- The subject of a RETURN_ERROR: the serial, the title number, or 0. -/
def GivenItem.subject : GivenItem → Nat
  | .cartridge serial => serial
  | .copy title _ => title
  | .unreadable => 0

/-- The item kind code (Table 10-4). -/
def GivenItem.code : GivenItem → Nat
  | .cartridge _ => 0
  | .copy _ _ => 1
  | .unreadable => 2

/-- R152 steps 1 to 3: the capture or MORE, the count, and the lane's state. -/
def Lane.error (l : Lane) (kind : ErrorKind) (c : Capture) : Lane :=
  { l with
    capture := if l.capture.isSome then l.capture else some c
    more := if l.capture.isSome then true else l.more
    errorsToday := min maxLaneCount (l.errorsToday + 1)
    state := if l.mask.masks kind then l.state else .stopped }

/-- R152 step 4: the data of a RETURN_ERROR notice; the copy index for a braille item. -/
def errorData (kind : ErrorKind) (item : GivenItem) (condition : Option Nat) (captured stopped : Bool) : List Field :=
  [u1 kind.code, u1 item.code] ++
    (match item with
      | .copy _ index => [u1 index]
      | _ => []) ++
    [u1 (orZero condition), mark captured, mark stopped]

/-- R152: an error of any kind, taken by the lane in one event. -/
def State.laneError (s : State) (kind : ErrorKind) (item : GivenItem) (condition : Option Nat) : State :=
  let captured := s.lane.capture.isNone
  let stopped := !s.lane.mask.masks kind
  let data := errorData kind item condition captured stopped
  let s1 := { s with lane := s.lane.error kind ⟨kind, item, condition, s.clock.day, s.clock.second⟩ }
  let s2 := (s1.raise .returns .returnError item.subject data).raise .circulation .returnError item.subject data
  if stopped then s2.raise .returns .laneStopped s.clock.day [u1 kind.code] else s2

/-! ### Successes (R153 to R156) -/

/-- R153 steps 2 to 4: the patron's counts and causes after a return. -/
def Patron.returned (p : Patron) (state : LoanState) : Patron :=
  match state with
  | .overdue => (Patron.overdueReturned { p with outstanding := p.outstanding - 1 }).relimit
  | .out => p.lose

/-- R153: the loan closed, the day's count raised, and the patron's records following. -/
def State.closeLoan (s : State) (n : Nat) (l : Loan) : State :=
  { s with
    loans := { s.loans with loans := s.loans.loans.drop n }
    lane := { s.lane with returnsToday := min maxLaneCount (s.lane.returnsToday + 1) }
    patrons := s.patrons.alter l.patron (fun p => p.returned l.state) }

/-- R154: whether a returned cartridge goes to the backlog. -/
def State.reusable (s : State) (serial condition : Nat) : Bool :=
  match s.cart serial with
  | some c => decide (condition = 0) && decide (c.writes < s.loans.wearLimit)
  | none => false

/-- R154, R155: the item sent on. -/
def State.sendOn (s : State) (l : Loan) (condition : Nat) : State :=
  match l.item with
  | .cartridge c =>
    if s.reusable c condition then
      (s.onCart c (fun c => { c with state := .needsBlank, bound := .unbound })).joinBacklog c
    else s.retire c
  | .copy i =>
    if condition = 0 then s.shelve l.title i
    else s.onTitle l.title (fun t => t.setCopy i .absent)

/-- The head of a braille title's hold queue. -/
def State.holdHead (s : State) (title : Nat) : Option Nat :=
  match s.title title with
  | some (.braille _ (n :: _)) => some n
  | _ => none

/-- R154, R155: the destination: 0 BACKLOG, 1 SHELF, 2 ALLOCATED with the order, 3 OUT_OF_USE with the
reason for a cartridge, 0 DAMAGED or 1 WORN. -/
def State.destination (s : State) (l : Loan) (condition : Nat) : List Field :=
  match l.item with
  | .cartridge c => if s.reusable c condition then [u1 0] else [u1 3, u1 (if condition = 1 then 0 else 1)]
  | .copy _ =>
    if condition = 0 then
      match s.holdHead l.title with
      | some n => [u1 2, u2 n]
      | none => [u1 1]
    else [u1 3]

/-- R156: the patron's counts and causes, the orders created, and the deferred list's length. -/
def State.patronAfter (s : State) (patron created : Nat) : List Field :=
  match s.patron patron with
  | some p => [u1 p.outstanding, u1 p.overdue] ++ p.causes.fields ++ [u1 created, u1 p.deferred.length]
  | none => []

/-- R153 to R156: a successful return. -/
def returnSuccess (n : Nat) (l : Loan) (condition : Nat) (s : State) : Result :=
  let pass := ((s.closeLoan n l).sendOn l condition).releasePass l.patron
  let s1 := pass.1.settle s.book.orders
  answer s1 .accepted
    ([u1 0, u2 n, u3 l.patron, u4 l.title, l.item.field, mark (decide (l.state = .overdue))] ++
      s.destination l condition ++ s1.patronAfter l.patron pass.2 ++
      [u2 s1.lane.returnsToday, u2 s1.lane.errorsToday])

/-! ### The requests -/

/-- The item a RETURN_ITEM gives: kind 0 a cartridge, 1 a copy, 2 an unreadable label. -/
def givenItem (item identity copy : Nat) : GivenItem :=
  if item = 0 then .cartridge identity
  else if item = 1 then .copy identity copy
  else .unreadable

/-- R150: the checks of the fields. For UNREADABLE nothing after the item kind is read. -/
def returnBad (item identity copy condition : Nat) : Option Nat :=
  firstBad [decide (2 < item), decide (item ≤ 1 ∧ identity = 0), decide (item = 1 ∧ 63 < copy),
    decide (item ≤ 1 ∧ 1 < condition)]

/-- R150 to R156. -/
def returnItem (item identity copy condition : Nat) (s : State) : Result :=
  match returnBad item identity copy condition with
  | some f => refuse s .range f
  | none =>
    if s.lane.state = .stopped then refuse s .laneStopped 0
    else
      let given := givenItem item identity copy
      match s.classify given with
      | .success n l => returnSuccess n l condition s
      | .error kind =>
        let s1 := s.laneError kind given (if item = 2 then none else some condition)
        answer s1 .accepted [u1 kind.code, mark s.lane.capture.isNone, u1 s1.lane.state.code]

/-- RETURN_ITEM (R150 to R156). -/
def execReturnItem (h : Header) (item identity copy condition : Nat) (s : State) : Host.Outcome State Fault Refusal :=
  .next (request .returnItem h (returnItem item identity copy condition) s)

/-- The item of a capture record at its sizes (R149). -/
def GivenItem.fields : GivenItem → List Field
  | .cartridge serial => [u1 0, u4 serial]
  | .copy title index => [u1 1, u4 title, u1 index]
  | .unreadable => [u1 2]

/-- R157, R159: the capture record, behind a mark that says whether it is empty. -/
def captureFields (c : Option Capture) : List Field :=
  match c with
  | none => [mark true]
  | some c => [mark false, u1 c.kind.code] ++ c.item.fields ++ [u1 (orZero c.condition), u2 c.day, u3 c.second]

/-- R157. -/
def laneClear (s : State) : Result :=
  answer { s with lane := { s.lane with state := .running, capture := none, more := false } } .accepted
    ([u1 s.lane.state.code] ++ captureFields s.lane.capture ++ [mark s.lane.more])

/-- LANE_CLEAR (R157). -/
def execLaneClear (h : Header) (s : State) : Host.Outcome State Fault Refusal :=
  .next (request .laneClear h laneClear s)

/-- The three marks of a stop mask. -/
def StopMask.fields (m : StopMask) : List Field :=
  [mark m.unreadable, mark m.unknownItem, mark m.notOnLoan]

/-- R158. -/
def laneMask (unreadable unknownItem notOnLoan : Nat) (s : State) : Result :=
  match firstBad [decide (1 < unreadable), decide (1 < unknownItem), decide (1 < notOnLoan)] with
  | some f => refuse s .range f
  | none =>
    let m : StopMask := ⟨decide (unreadable = 1), decide (unknownItem = 1), decide (notOnLoan = 1)⟩
    answer { s with lane := { s.lane with mask := m } } .accepted (m.fields ++ [u1 s.lane.state.code])

/-- LANE_MASK (R158). -/
def execLaneMask (h : Header) (unreadable unknownItem notOnLoan : Nat) (s : State) :
    Host.Outcome State Fault Refusal :=
  .next (request .laneMask h (laneMask unreadable unknownItem notOnLoan) s)

/-- R159: the lane record, and the loans in the table and how many of them are OVERDUE. -/
def State.laneFields (s : State) : List Field :=
  [u1 s.lane.state.code] ++ captureFields s.lane.capture ++ [mark s.lane.more] ++ s.lane.mask.fields ++
    [u2 s.lane.returnsToday, u2 s.lane.errorsToday, u2 s.loans.loans.length,
      u2 (s.loans.loans.countP (fun e => decide (e.2.state = .overdue)))]

/-- LANE_QUERY (R159). -/
def execLaneQuery (h : Header) (s : State) : Host.Outcome State Fault Refusal :=
  .next (request .laneQuery h (fun s => answer s .accepted s.laneFields) s)

end Sys2Proof.Machine
end

