-- ==== Sys2Proof/Machine/SettingRequests.lean ====
section
/-! DEFINITION. The requests that set the clock and the settings: CLOCK_SET, CIRC_SET, MAIL_SET (7.4,
7.5, 9.2). -/

namespace Sys2Proof.Machine

/-- R120, R121: the day and second stored, then the three steps of R121. -/
def State.setClock (s : State) (day second : Nat) : State :=
  let s1 := State.enterMailDay { s with clock := { s.clock with day := day, second := second } }
  let newDay := decide (day ≠ s.clock.day)
  let s2 := if newDay then s1.sweep.clearLaneCounts else s1
  (s2.dayRecompute newDay).settle s.book.orders

/-- R120: the day number, second and mail day state of a clock. CLOCK_SET sends the three as they were before
and then the three as they are after (DEDUCED, log entry 12). -/
def Clock.fields (c : Clock) : List Field :=
  [u2 c.day, u3 c.second, u1 c.mailDay.code]

/-- R120, R122: which of the last call and the cut-off a move of the mail day state ran, as two marks in day
order, the last call's first (DEDUCED, log entry 21). -/
def transitionFields (held derived : MailDay) : List Field :=
  [mark (runsLastCall held derived), mark (runsCutOff held derived)]

/-- R120, R121. -/
def clockSet (day second : Nat) (s : State) : Result :=
  match firstBad [false, decide (86399 < second)] with
  | some f => refuse s .range f
  | none =>
    let s1 := s.setClock day second
    answer s1 .accepted (s.clock.fields ++ s1.clock.fields ++
      transitionFields s.clock.mailDay s1.clock.mailDay ++ [mark (decide (day ≠ s.clock.day))])

/-- CLOCK_SET (R120, R121). -/
def execClockSet (h : Header) (day second : Nat) (s : State) : Host.Outcome State Fault Refusal :=
  .next (request .clockSet h (clockSet day second) s)

/-- R148: a value held between the ends of its range. -/
def clampTo (least most v : Nat) : Nat :=
  min (max v least) most

/-- R148. -/
def circSet (period grace wear reserve : Nat) (s : State) : Result :=
  let period' := clampTo 1 365 period
  let grace' := clampTo 0 60 grace
  let wear' := clampTo 1 4095 wear
  let reserve' := clampTo 0 1024 reserve
  answer { s with loans := { s.loans with
      period := period', grace := grace', wearLimit := wear', poolReserve := reserve' } }
    (clampedIf (decide (period' ≠ period ∨ grace' ≠ grace ∨ wear' ≠ wear ∨ reserve' ≠ reserve)))
    [u2 period', u1 grace', u2 wear', u2 reserve']

/-- CIRC_SET (R148). -/
def execCircSet (h : Header) (period grace wear reserve : Nat) (s : State) : Host.Outcome State Fault Refusal :=
  .next (request .circSet h (circSet period grace wear reserve) s)

/-- R122: the four mail settings stored. -/
def State.storeMail (s : State) (cutoff margin idle allowance : Nat) : State :=
  { s with
    clock := { s.clock with cutoff := cutoff, margin := margin }
    packing := { s.packing with idleTime := idle, allowance := allowance } }

/-- R131: the containers whose running idle count is at or above the idle time, in ascending number. -/
def State.idleDue (s : State) : List Nat :=
  (s.packing.containers.filter (fun e => e.2.idleDue s.packing.idleTime)).map Prod.fst

/-- R122, R131: the state derived anew, every projection recomputed and the event settled; then the
timers already at or above the new idle time expire, in ascending container number. -/
def State.setMail (s : State) (cutoff margin idle allowance : Nat) : State :=
  let s1 := (s.storeMail cutoff margin idle allowance).enterMailDay
  let s2 := (s1.dayRecompute false).settle s.book.orders
  s2.idleDue.foldl State.idleExpire s2

/-- R122. -/
def mailSet (cutoff margin idle allowance : Nat) (s : State) : Result :=
  let cutoff' := min cutoff 86399
  let margin' := min margin 7200
  let idle' := min idle 7200
  let allowance' := min allowance 3600
  let s1 := s.setMail cutoff' margin' idle' allowance'
  answer s1
    (clampedIf (decide (cutoff' ≠ cutoff ∨ margin' ≠ margin ∨ idle' ≠ idle ∨ allowance' ≠ allowance)))
    ([u3 cutoff', u2 margin', u2 idle', u2 allowance', u3 (lastCallSecond cutoff' margin'),
      u1 s.clock.mailDay.code, u1 s1.clock.mailDay.code] ++
      transitionFields s.clock.mailDay s1.clock.mailDay)

/-- MAIL_SET (R122). -/
def execMailSet (h : Header) (cutoff margin idle allowance : Nat) (s : State) : Host.Outcome State Fault Refusal :=
  .next (request .mailSet h (mailSet cutoff margin idle allowance) s)

end Sys2Proof.Machine
end

