-- ==== Sys2Proof/Machine/Dispatch.lean ====
section
/-! DEFINITION. One arm for each command of the operation table, each a direct call of its meaning. -/

namespace Sys2Proof.Machine

/-- The effect of a command on everything but the queue of waiting commands. -/
def exec (i : Instr) (s : State) : Host.Outcome State Fault Refusal :=
  match i with
  | .patronOpen h patron region high restore => Sys2Proof.Machine.execPatronOpen h patron region high restore s
  | .patronSet h patron region high restore suspended => Sys2Proof.Machine.execPatronSet h patron region high restore suspended s
  | .patronClose h patron => Sys2Proof.Machine.execPatronClose h patron s
  | .patronQuery h patron => Sys2Proof.Machine.execPatronQuery h patron s
  | .orderPlace h patron title priority => Sys2Proof.Machine.execOrderPlace h patron title priority s
  | .orderCancel h order => Sys2Proof.Machine.execOrderCancel h order s
  | .orderRetry h order => Sys2Proof.Machine.execOrderRetry h order s
  | .orderQuery h form order patron title => Sys2Proof.Machine.execOrderQuery h form order patron title s
  | .loanQuery h form loan patron title => Sys2Proof.Machine.execLoanQuery h form loan patron title s
  | .titleLoad h title format size selector copies => Sys2Proof.Machine.execTitleLoad h title format size selector copies s
  | .titleSet h title size selector copies => Sys2Proof.Machine.execTitleSet h title size selector copies s
  | .titleDrop h title => Sys2Proof.Machine.execTitleDrop h title s
  | .titleQuery h title copy => Sys2Proof.Machine.execTitleQuery h title copy s
  | .cartridgeAdd h serial => Sys2Proof.Machine.execCartridgeAdd h serial s
  | .cartridgeDrop h serial => Sys2Proof.Machine.execCartridgeDrop h serial s
  | .clockSet h day second => Sys2Proof.Machine.execClockSet h day second s
  | .circSet h period grace wear reserve => Sys2Proof.Machine.execCircSet h period grace wear reserve s
  | .nextInsert h => Sys2Proof.Machine.execNextInsert h s
  | .bayInsert h bay serial => Sys2Proof.Machine.execBayInsert h bay serial s
  | .bayRemove h bay => Sys2Proof.Machine.execBayRemove h bay s
  | .bayFault h bay fault => Sys2Proof.Machine.execBayFault h bay fault s
  | .bayClear h bay => Sys2Proof.Machine.execBayClear h bay s
  | .verifyDone h bay result => Sys2Proof.Machine.execVerifyDone h bay result s
  | .rackStart h => Sys2Proof.Machine.execRackStart h s
  | .rackStop h => Sys2Proof.Machine.execRackStop h s
  | .rackSet h widthA widthB blankSel vt mode => Sys2Proof.Machine.execRackSet h widthA widthB blankSel vt mode s
  | .sliceNext h => Sys2Proof.Machine.execSliceNext h s
  | .sliceDone h even odd => Sys2Proof.Machine.execSliceDone h even odd s
  | .packItem h item identity copy => Sys2Proof.Machine.execPackItem h item identity copy s
  | .containerClose h container => Sys2Proof.Machine.execContainerClose h container s
  | .containerSealed h container => Sys2Proof.Machine.execContainerSealed h container s
  | .bagClose h bag => Sys2Proof.Machine.execBagClose h bag s
  | .bagHanded h bag => Sys2Proof.Machine.execBagHanded h bag s
  | .mailSet h cutoff margin idle allowance => Sys2Proof.Machine.execMailSet h cutoff margin idle allowance s
  | .returnItem h item identity copy condition => Sys2Proof.Machine.execReturnItem h item identity copy condition s
  | .laneClear h => Sys2Proof.Machine.execLaneClear h s
  | .laneMask h unreadable unknownItem notOnLoan => Sys2Proof.Machine.execLaneMask h unreadable unknownItem notOnLoan s
  | .status h => Sys2Proof.Machine.execStatus h s
  | .fetchNotices h most => Sys2Proof.Machine.execFetchNotices h most s
  | .cartridgeQuery h serial => Sys2Proof.Machine.execCartridgeQuery h serial s
  | .bayQuery h bay => Sys2Proof.Machine.execBayQuery h bay s
  | .rackQuery h => Sys2Proof.Machine.execRackQuery h s
  | .projectionQuery h order => Sys2Proof.Machine.execProjectionQuery h order s
  | .containerQuery h container => Sys2Proof.Machine.execContainerQuery h container s
  | .bagQuery h bag => Sys2Proof.Machine.execBagQuery h bag s
  | .laneQuery h => Sys2Proof.Machine.execLaneQuery h s
  | .noticeMask h mask mode => Sys2Proof.Machine.execNoticeMask h mask mode s
  | .unknownKind h code => Sys2Proof.Machine.execUnknownKind h code s
  | .frameDiscard port clocked => Sys2Proof.Machine.execFrameDiscard port clocked s
  | .readPeriod port clocked => Sys2Proof.Machine.execReadPeriod port clocked s
  | .linkReset port clocked => Sys2Proof.Machine.execLinkReset port clocked s
  | .responsePlaced port => Sys2Proof.Machine.execResponsePlaced port s
  | .resetAssert => Sys2Proof.Machine.execResetAssert s
  | .resetRelease => Sys2Proof.Machine.execResetRelease s
  | .secondAdvance => Sys2Proof.Machine.execSecondAdvance s
  | .slotExpiry => Sys2Proof.Machine.execSlotExpiry s
  | .idleExpiry container => Sys2Proof.Machine.execIdleExpiry container s

end Sys2Proof.Machine
end

