-- ==== Sys2Proof/Machine/Ticks.lean ====
section
/-! DEFINITION. What the part does when no command waits: its time base moves by one channel tick, and
the events of its own time join the queue of commands (log entry 1; R83, R97, R114, R131). -/

namespace Sys2Proof.Machine

/-- R131: the expiries of the containers whose running idle count has reached the idle time. -/
def State.idleEvents (s : State) : List Instr :=
  s.idleDue.map Instr.idleExpiry

/-- R97: the expiry of an outstanding slot whose deadline has passed. -/
def State.slotEvents (s : State) : List Instr :=
  match s.rack.slot with
  | some sl => if sl.deadline < s.clock.tick then [.slotExpiry] else []
  | none => []

/-- R114: the advance of the second at a multiple of 500 channel ticks. -/
def State.secondEvents (s : State) : List Instr :=
  if (s.clock.seconds + 1) * ticksPerSecond ≤ s.clock.tick then [.secondAdvance] else []

/-- The events of the part's own time that are due at the channel tick as it stands. -/
def State.dueEvents (s : State) : List Instr :=
  s.idleEvents ++ s.slotEvents ++ s.secondEvents

/-- One step of a part with nothing waiting. With the reset input asserted the time base stands (R180).
Events that are due join the queue; when none is due the time base moves by one channel tick. -/
def State.idleStep (s : State) : State :=
  if s.resetHeld then s
  else
    match s.dueEvents with
    | [] => { s with clock := { s.clock with tick := s.clock.tick + 1 } }
    | events => { s with pending := events }

/-- The commands `cs` put in the queue ahead of those that wait. -/
def State.inFront (s : State) (cs : List Instr) : State :=
  { s with pending := cs ++ s.pending }

end Sys2Proof.Machine
end

