-- ==== Sys2Proof/Machine/Step.lean ====
section
/-! DEFINITION. One step of the part: the command at the front of the queue is carried out whole; with
nothing waiting, the part's own time base moves (log entry 1). -/

namespace Sys2Proof.Machine

/-- One step. -/
def step (s : State) : Host.Outcome State Fault Refusal :=
  match s.pending with
  | c :: rest => exec c { s with pending := rest }
  | [] => .next s.idleStep

/-- The state with the command that a table word spells at the front of its queue; unchanged where the
word spells none, which is every word, since the table gives no row bits (log entry 4). -/
def State.withFetchWord (s : State) (nbits w : Nat) : State :=
  s.inFront (decodeTableWord nbits w).toList

end Sys2Proof.Machine
end

