-- ==== Sys2Proof/WellFormed.lean ====
section
/-! DEFINITION. What a command must hold to be one that a link or the part can bring: a frame that R165
passes, fields that fit their sizes in Table 10-3, a kind code outside the table for UNKNOWN_KIND, a
select period of at least one byte, a container number of Table 0-3. -/

namespace Sys2Proof

/-- R164, R165: the tag is a byte, N is 5..64, and the period clocks at least the N bytes of the frame. -/
def Header.wellFormed (h : Header) : Bool :=
  decide (h.tag < 256) && decide (5 ≤ h.length) && decide (h.length ≤ 64) && decide (h.length ≤ h.clocked)

/-- Each value fits its field's size. -/
def fieldsFit : List Nat → List Nat → Bool
  | [], [] => true
  | n :: sizes, v :: values => decide (v < 256 ^ n) && fieldsFit sizes values
  | _, _ => false

/-- The check of a command, before it may be put in the queue. -/
def Instr.wellFormed (i : Instr) : Bool :=
  match i with
  | .unknownKind h code => h.wellFormed && decide (code < 256) && (Kind.ofCode code).isNone
  | .frameDiscard _ n => decide (0 < n)
  | .readPeriod _ n => decide (0 < n)
  | .linkReset _ n => decide (0 < n)
  | .idleExpiry c => decide (0 < c) && decide (c ≤ 65535)
  | _ =>
    match i.request with
    | some (k, h, v) => h.wellFormed && fieldsFit k.sizes v
    | none => true

/-- The length of a request is the one Table 10-3 gives its kind (R166 test 3). -/
def Instr.rightLength (i : Instr) : Bool :=
  match i.request with
  | some (k, h, _) => decide (h.length = k.length)
  | none => true

end Sys2Proof
end

