-- ==== Sys2Proof/Safety.lean ====
section
/-! DEFINITION. The terms in which statements about the part are made: a request that is taken, a
request that is answered, and the laws of the device that every step keeps. -/

namespace Sys2Proof.Machine

/-! ### A request that is taken and answered (R165 to R168) -/

/-- R166, R167: after a period of `n` bytes the slot is empty: it was, or its response was wholly read. -/
def PortUnit.freeAfter (u : PortUnit) (n : Nat) : Bool :=
  match u.slot with
  | .empty => true
  | .holding frame => decide (frame.length ≤ n)
  | .awaiting _ => false

/-- A request of a kind that its port unit hands to the owning block (R166, R179): the reset input is
released, the slot is free, the kind belongs to the port, and the length is the kind's. -/
abbrev State.Takes (s : State) (k : Kind) (h : Header) : Prop :=
  s.resetHeld = false ∧ (s.unit h.port).freeAfter h.clocked = true ∧
  (k.port = none ∨ k.port = some h.port) ∧ h.length = k.length

/-- The slot of the request's port occupied by an answer that waits to be placed (R166, R167). -/
def State.answered (s : State) (k : Kind) (h : Header) (code : Code) (body : List Field)
    (orderState : Option Nat := none) : State :=
  s.onUnit h.port (fun u => { u with slot := .awaiting ⟨k.code, h.tag, code, body, orderState⟩ })

/-- The outcomes of class refusal and link refusal (Table 10-5). -/
def Code.refuses (c : Code) : Bool :=
  decide (0x10 ≤ c.byte)

/-! ### Numbers (R7, R126, R145) -/

/-- R7: `n` is the number reached from a counter's value by stepping on past every number in use: the last
number is followed by 1, and every number passed belongs to a record of the table. -/
abbrev FirstFree {α : Type} (last : Nat) (t : Table α) (counter n : Nat) : Prop :=
  ∃ k, n = (counter - 1 + k) % last + 1 ∧ t.look n = none ∧
    ∀ j < k, (t.look ((counter - 1 + j) % last + 1)).isSome = true

/-! ### The laws of the device -/

/-- R163, R172: a port unit's queue holds at most 32 notices, and nothing stands in the assembly buffer
between select periods. -/
abbrev PortUnit.Lawful (u : PortUnit) : Prop :=
  u.notices.length ≤ maxNotices ∧ u.assembly = []

/-- R163: the four port units. -/
abbrev State.PortLaw (s : State) : Prop :=
  ∀ p, (s.unit p).Lawful

/-- The canonical form of every table, and the 32 bays (R58). -/
abbrev State.TableLaw (s : State) : Prop :=
  s.patrons.wf = true ∧ s.book.orders.wf = true ∧ s.titles.wf = true ∧ s.carts.table.wf = true ∧
  s.packing.containers.wf = true ∧ s.packing.bags.wf = true ∧ s.loans.loans.wf = true ∧ s.bays.length = bayCount

/-- R8 (the third law of the device), R1, R25, R42, R124: how many records each table holds at most. -/
abbrev State.CapacityLaw (s : State) : Prop :=
  s.book.orders.length + s.loans.loans.length ≤ maxCirculation ∧ s.book.orders.length ≤ maxOrders ∧
  s.patrons.length ≤ maxPatrons ∧ s.titles.length ≤ maxTitles ∧ s.carts.table.length ≤ maxCartridges ∧
  s.packing.containers.length ≤ maxContainers ∧ s.packing.bags.length ≤ maxBags

/-- R2 (the first law of the device): every patron's outstanding count is the number of that patron's orders in
the book and loans in the table, together at most 4096 (R8), every order and loan is of a patron with a record,
and the two counters stand in their range (R7, R145). -/
abbrev State.FirstLaw (s : State) : Prop :=
  s.patrons.wf = true ∧ s.book.orders.wf = true ∧ s.loans.loans.wf = true ∧
  (1 ≤ s.book.counter ∧ s.book.counter ≤ maxNumber) ∧ (1 ≤ s.loans.counter ∧ s.loans.counter ≤ maxNumber) ∧
  s.book.orders.length + s.loans.loans.length ≤ maxCirculation ∧
  (∀ e ∈ s.book.orders, s.patrons.has e.2.patron = true) ∧ (∀ e ∈ s.loans.loans, s.patrons.has e.2.patron = true) ∧
  (∀ e ∈ s.patrons, e.2.outstanding = s.book.orders.countP (fun o => decide (o.2.patron = e.1)) +
    s.loans.loans.countP (fun l => decide (l.2.patron = e.1)))

/-- R2 to R5, Table 1-1: a patron's limits, the LIMIT cause against the outstanding count (the second
law of the device), the OVERDUE cause against the overdue count, and the deferred list. -/
abbrev Patron.Lawful (p : Patron) : Prop :=
  p.restore < p.high ∧ p.high ≤ 15 ∧ p.outstanding ≤ p.high ∧
  (p.outstanding = p.high → p.causes.limit = true) ∧ (p.outstanding ≤ p.restore → p.causes.limit = false) ∧
  p.overdue ≤ maxOverdue ∧ p.causes.overdue = decide (0 < p.overdue) ∧
  p.deferred.length ≤ maxDeferred ∧ p.deferred.Nodup

/-- R3: every patron, in a canonical patron table. -/
abbrev State.PatronLaw (s : State) : Prop :=
  s.patrons.wf = true ∧ ∀ e ∈ s.patrons, e.2.Lawful

/-- R84 (the eighth law of the device), Table 5-2: a slot only while RUNNING, and within a round; no
round while STOPPED; a round while STALLED. -/
abbrev Scheduler.Lawful (r : Scheduler) : Prop :=
  (r.slot.isSome = true → r.state = .running ∧ r.round.isSome = true) ∧
  (r.state = .stopped → r.round = none) ∧ (r.state = .stalled → r.round.isSome = true)

/-- R115, Table 7-1: the held mail day state equals the derived one, and the fields lie in their ranges. -/
abbrev Clock.Lawful (c : Clock) : Prop :=
  c.second < daySeconds ∧ c.cutoff < daySeconds ∧ c.margin ≤ 7200 ∧ c.mailDay = c.derived

/-- R104 (the eleventh law of the device), R100, Table 6-1: a projection lies in 0..86400, ON_TIME only
in DAY below the last-call second, and no projection in the three states that carry none. -/
abbrev Order.Lawful (c : Clock) (o : Order) : Prop :=
  (∀ r ∈ o.ready, r ≤ daySeconds) ∧
  (o.tag = .onTime → c.mailDay = .day ∧ ∃ r ∈ o.ready, r < c.lastCall) ∧
  (o.state = .pending ∨ o.state = .waitingCopy ∨ o.state = .stalled → o.ready = none ∧ o.tag = .noTag)

/-- R104: every order, with the clock's own law; with the reset input asserted the book is empty (R179). -/
abbrev State.ProjectionLaw (s : State) : Prop :=
  s.clock.Lawful ∧ (∀ e ∈ s.book.orders, e.2.Lawful s.clock) ∧ (s.resetHeld = true → s.book.orders = [])

/-- The image size of a cartridge title. -/
def Title.size : Title → Option Nat
  | .cartridge size _ => some size
  | .braille _ _ => none

/-- The copy map of a title; empty for a cartridge title. -/
def Title.copies : Title → List Copy
  | .cartridge _ _ => []
  | .braille copies _ => copies

/-- The hold queue of a title; empty for a cartridge title. -/
def Title.hold : Title → List Nat
  | .cartridge _ _ => []
  | .braille _ hold => hold

/-- R31 (the fifth law of the device): a hold queue stands only while no copy of its title is on the shelf. -/
abbrev State.HoldLaw (s : State) : Prop :=
  s.titles.wf = true ∧ ∀ e ∈ s.titles, e.2.hold ≠ [] → ∀ c ∈ e.2.copies, c ≠ .onShelf

/-- The order an ALLOCATED copy is allocated to. -/
def Copy.order : Copy → Option Nat
  | .allocated n => some n
  | _ => none

/-- The loan an ON_LOAN copy is out on. -/
def Copy.loan : Copy → Option Nat
  | .onLoan n => some n
  | _ => none

/-- R27 (the fourth law of the device), R28, R29, Table 2-1: a cartridge title's size lies in its range; a
braille title has 64 entries, each ALLOCATED one to a READY or PACKED order of the title that names the copy,
each ON_LOAN one to a loan of it; and only WAITING_COPY orders of the title stand in its hold queue, each once. -/
abbrev State.CopyLaw (s : State) : Prop :=
  (∀ e ∈ s.titles, ∀ size ∈ e.2.size, 1 ≤ size ∧ size ≤ maxImage) ∧
  (∀ e ∈ s.titles, e.2.format = .braille → e.2.copies.length = copyEntries ∧
    onShelfCount e.2.copies + copiesIn e.2.copies 2 + copiesIn e.2.copies 3 = copiesTotal e.2.copies) ∧
  (∀ e ∈ s.titles, e.2.hold.Nodup ∧ ∀ n ∈ e.2.hold, ∃ o ∈ s.order n, o.state = .waitingCopy ∧ o.title = e.1) ∧
  (∀ e ∈ s.titles, ∀ i < copyEntries,
    (∀ n ∈ (e.2.copies.getD i .absent).order, ∃ o ∈ s.order n,
      (o.state = .ready ∨ o.state = .packed) ∧ o.title = e.1 ∧ o.copy = some i) ∧
    (∀ n ∈ (e.2.copies.getD i .absent).loan, ∃ l ∈ s.loan n, l.title = e.1 ∧ l.item = .copy i))

/-- The order a cartridge is bound to. -/
def Binding.boundOrder : Binding → Option Nat
  | .order n => some n
  | _ => none

/-- The loan a cartridge is bound to. -/
def Binding.boundLoan : Binding → Option Nat
  | .loan n => some n
  | _ => none

/-- Table 3-2: what a cartridge's state goes with. -/
abbrev State.CartridgeStands (s : State) (serial : Nat) (k : Cartridge) : Prop :=
  (k.state = .blank → k.bound = .unbound ∧ k.dirty = 0 ∧ (k.bay = none → serial ∈ s.carts.pool)) ∧
  (k.state = .needsBlank → k.bound = .unbound ∧ (k.bay = none → serial ∈ s.carts.backlog)) ∧
  (k.state = .inBay → k.bay ≠ none ∧ ∃ n ∈ k.bound.boundOrder, ∃ o ∈ s.order n, o.serial = some serial ∧
    o.bay = k.bay ∧ (o.state = .writing ∨ o.state = .verifying ∨ o.state = .ready)) ∧
  (k.state = .written → k.bay = none ∧ ∃ n ∈ k.bound.boundOrder, ∃ o ∈ s.order n, o.serial = some serial ∧
    o.bay = none ∧ o.state = .ready) ∧
  (k.state = .packed → k.bay = none ∧ ∃ n ∈ k.bound.boundOrder, ∃ o ∈ s.order n, o.serial = some serial ∧
    o.state = .packed) ∧
  (k.state = .onLoan → k.bay = none ∧ ∃ n ∈ k.bound.boundLoan, ∃ l ∈ s.loan n, l.item = .cartridge serial) ∧
  (k.state = .retired → k.bound = .unbound) ∧
  (k.state ≠ .blank → k.state ≠ .retired → 1 ≤ k.dirty) ∧
  (∀ b ∈ k.bay, b < bayCount ∧ (s.bay b).cartridge = some serial)

/-- R43 (the sixth law of the device), R51, R52: the pool holds only BLANK cartridges with no bay, the backlog
only NEEDS_BLANK ones with no bay, neither a serial twice, and every cartridge's state, binding and bay stand
together as Table 3-2 gives them. -/
abbrev State.CartridgeLaw (s : State) : Prop :=
  s.carts.pool.Nodup ∧ s.carts.backlog.Nodup ∧
  (∀ n ∈ s.carts.pool, ∃ k ∈ s.cart n, k.state = .blank ∧ k.bay = none) ∧
  (∀ n ∈ s.carts.backlog, ∃ k ∈ s.cart n, k.state = .needsBlank ∧ k.bay = none) ∧
  (∀ e ∈ s.carts.table, s.CartridgeStands e.1 e.2)

/-- Table 4-2: what a bay's state goes with. -/
abbrev State.BayStands (s : State) (b : Nat) (r : Bay) : Prop :=
  (r.state = .empty → r = Bay.vacant) ∧
  (r.state ≠ .empty → r.state ≠ .faulted → r.fault = none ∧ r.aborted = none ∧
    ∃ c ∈ r.cartridge, ∃ k ∈ s.cart c, k.bay = some b ∧
      (r.state = .armed → k.state = .blank) ∧ (r.state = .blanking → k.state = .needsBlank) ∧
      (r.state = .eject → k.state = .retired) ∧
      (r.state = .writing ∨ r.state = .verifying ∨ r.state = .done → k.state = .inBay)) ∧
  (r.state = .armed ∨ r.state = .done ∨ r.state = .eject → r.job = none) ∧
  (r.state = .blanking → ∃ j ∈ r.job, j.kind = .blank ∧ 1 ≤ j.remaining ∧ j.remaining ≤ j.total) ∧
  (r.state = .writing ∨ r.state = .verifying →
    ∃ j ∈ r.job, ∃ n ∈ j.kind.order, ∃ o ∈ s.order n, o.bay = some b ∧ o.serial = r.cartridge ∧
      j.total = s.image o.title ∧
      (r.state = .writing → o.state = .writing ∧ 1 ≤ j.remaining ∧ j.remaining ≤ j.total) ∧
      (r.state = .verifying → o.state = .verifying ∧ j.remaining = 0)) ∧
  (r.state = .done → ∃ c ∈ r.cartridge, ∃ n ∈ s.boundOrder c, ∃ o ∈ s.order n, o.state = .ready ∧ o.bay = some b) ∧
  (r.state = .faulted → r.job = none ∧ r.fault ≠ none ∧ r.aborted ≠ none ∧
    ∀ c ∈ r.cartridge, ∃ k ∈ s.cart c, k.bay = some b ∧ k.state = .needsBlank)

/-- R90, R92: a standing grant is for the active job of its bay, and does not exceed its remaining count. -/
abbrev State.GrantStands (s : State) (b : Nat) (g : Grant) : Prop :=
  0 < g.blocks → g.lost = false →
    (s.bay b).active = true ∧ ∃ j ∈ (s.bay b).job, g.kind = some j.kind ∧ g.blocks ≤ j.remaining

/-- R92, R95 (the seventh law of the device), R58, R90, R64: every bay stands as Table 4-2 gives it, a WRITE
job's total being its title's image size; an enrolled bay is active; a standing grant is at most its job's
remaining count; and no order waits while a bay is ARMED. -/
abbrev State.JobLaw (s : State) : Prop :=
  (∀ b < bayCount, s.BayStands b (s.bay b)) ∧
  (∀ rd ∈ s.rack.round, ∀ e ∈ rd.entries, e.pair < pairCount ∧
    (e.even = true → (s.bay (2 * e.pair)).active = true) ∧ (e.odd = true → (s.bay (2 * e.pair + 1)).active = true)) ∧
  (∀ sl ∈ s.rack.slot, sl.pair < pairCount ∧ s.GrantStands (2 * sl.pair) sl.even ∧
    s.GrantStands (2 * sl.pair + 1) sl.odd) ∧
  (s.book.queue = [] ∨ ∀ b < bayCount, (s.bay b).state ≠ .armed)

/-- Table 1-3: what an order's state goes with. -/
abbrev State.OrderStands (s : State) (n : Nat) (o : Order) : Prop :=
  (o.state = .pending → n ∈ s.book.queue) ∧
  (o.state = .waitingCopy → ∃ t ∈ s.title o.title, n ∈ t.hold) ∧
  (o.state = .pending ∨ o.state = .waitingCopy ∨ o.state = .stalled →
    o.serial = none ∧ o.bay = none ∧ o.copy = none ∧ o.container = none) ∧
  (o.state = .writing ∨ o.state = .verifying → o.copy = none ∧ o.container = none ∧
    ∃ c ∈ o.serial, ∃ b ∈ o.bay, b < bayCount ∧ (s.bay b).cartridge = some c ∧ (s.bay b).jobOrder = some n ∧
      (s.bay b).state = if o.state = .writing then .writing else .verifying) ∧
  (o.state = .ready → o.container = none) ∧
  (o.state = .ready ∨ o.state = .packed →
    (o.format = .cartridge → o.copy = none ∧ ∃ c ∈ o.serial, ∃ k ∈ s.cart c, k.bound = .order n ∧ k.bay = o.bay ∧
      (o.bay = none → k.state = if o.state = .ready then .written else .packed) ∧
      (∀ b ∈ o.bay, o.state = .ready ∧ k.state = .inBay ∧ (s.bay b).state = .done)) ∧
    (o.format = .braille → o.serial = none ∧ o.bay = none ∧ ∃ i ∈ o.copy, i < copyEntries ∧
      ∃ t ∈ s.title o.title, t.copies.getD i .absent = .allocated n)) ∧
  (o.state = .packed → ∃ m ∈ o.container, ∃ c ∈ s.container m, n ∈ c.items) ∧
  (o.state = .waitingCopy → o.format = .braille) ∧
  (o.state = .pending ∨ o.state = .stalled ∨ o.state = .writing ∨ o.state = .verifying → o.format = .cartridge)

/-- The serial of a loan's cartridge. -/
def Item.serial : Item → Option Nat
  | .cartridge serial => some serial
  | .copy _ => none

/-- The index of a loan's copy. -/
def Item.index : Item → Option Nat
  | .cartridge _ => none
  | .copy index => some index

/-- R6, R9, Table 1-3, R144: the pending queue holds PENDING orders, each once; every order stands as Table 1-3
gives it; and every order and loan is for a title of the catalogue, in its format. -/
abbrev State.OrderLaw (s : State) : Prop :=
  s.book.queue.Nodup ∧ (∀ n ∈ s.book.queue, ∃ o ∈ s.order n, o.state = .pending) ∧
  (∀ e ∈ s.book.orders, s.OrderStands e.1 e.2 ∧ ∃ t ∈ s.title e.2.title, t.format = e.2.format) ∧
  (∀ e ∈ s.loans.loans, (∃ t ∈ s.title e.2.title, (t.format = .cartridge ↔ e.2.item.index = none)) ∧
    (∀ c ∈ e.2.item.serial, ∃ k ∈ s.cart c, k.state = .onLoan ∧ k.bound = .loan e.1) ∧
    (∀ i ∈ e.2.item.index, i < copyEntries ∧ ∃ t ∈ s.title e.2.title, t.copies.getD i .absent = .onLoan e.1))

/-- R125 (the ninth law of the device), Table 8-2: a container holds 1 to 3 PACKED orders of its patron, each
once and each naming it; one with a braille item holds no other; and a patron's open container field names the
one container of that patron that is OPEN. With `State.OrderLaw`, every PACKED order is in exactly one. -/
abbrev State.ContainerLaw (s : State) : Prop :=
  (∀ e ∈ s.packing.containers, e.2.items.Nodup ∧ 1 ≤ e.2.items.length ∧ e.2.items.length ≤ containerCapacity ∧
    (e.2.braille = true → e.2.items.length = 1) ∧
    (∀ n ∈ e.2.items, ∃ o ∈ s.order n, o.state = .packed ∧ o.container = some e.1 ∧ o.patron = e.2.patron ∧
      e.2.braille = decide (o.format = .braille)) ∧
    (e.2.state = .opened → e.2.braille = false ∧ e.2.items.length < containerCapacity ∧
      ∃ p ∈ s.patron e.2.patron, p.openContainer = some e.1))

/-- R136 (the tenth law of the device): at most 24 containers in a bag, fewer while it is FILLING, at
least one always, and at most one FILLING bag for a region. -/
abbrev Packing.BagLaw (k : Packing) : Prop :=
  k.bags.wf = true ∧
  (∀ e ∈ k.bags, 1 ≤ e.2.containers.length ∧ e.2.containers.length ≤ bagCapacity ∧
    (e.2.state = .filling → e.2.containers.length < bagCapacity)) ∧
  (∀ e ∈ k.bags, ∀ f ∈ k.bags, e.2.state = .filling → f.2.state = .filling → e.2.region = f.2.region → e.1 = f.1)

/-- R136 (the tenth law of the device), R139, R125: a bag's containers are all of its own region, each once,
SEALED while it is FILLING and BAGGED once it is CLOSED, and name it; only WAITING_BAG containers wait, each
once; and an open container field names an OPEN container of its patron. -/
abbrev State.BagLaw (s : State) : Prop :=
  s.packing.BagLaw ∧ s.patrons.wf = true ∧ s.packing.containers.wf = true ∧
  (1 ≤ s.packing.containerCounter ∧ s.packing.containerCounter ≤ maxNumber) ∧
  (1 ≤ s.packing.bagCounter ∧ s.packing.bagCounter ≤ maxBagNumber) ∧
  (∀ e ∈ s.packing.bags, e.2.containers.Nodup ∧ ∀ k ∈ e.2.containers, ∃ c ∈ s.container k,
    c.region = e.2.region ∧ c.bag = some e.1 ∧ c.state = if e.2.state = .filling then .sealed else .bagged) ∧
  s.packing.unbagged.Nodup ∧ (∀ k ∈ s.packing.unbagged, ∃ c ∈ s.container k, c.state = .waitingBag) ∧
  (∀ e ∈ s.patrons, ∀ k ∈ e.2.openContainer, ∃ c ∈ s.container k, c.state = .opened ∧ c.patron = e.1)

/-- R149 (the twelfth law of the device): a STOPPED lane's capture holds a record. -/
abbrev Lane.Lawful (l : Lane) : Prop :=
  l.state = .stopped → l.capture.isSome = true

/-- The ranges of the settings (Tables 5-1, 8-1 and 9-2). -/
abbrev State.SettingLaw (s : State) : Prop :=
  (1 ≤ s.rack.widthA ∧ s.rack.widthA ≤ 255) ∧ (1 ≤ s.rack.widthB ∧ s.rack.widthB ≤ 255) ∧ s.rack.vt ≤ 255 ∧
  s.clock.day ≤ maxDay ∧ s.packing.idleTime ≤ 7200 ∧ s.packing.allowance ≤ 3600 ∧
  (1 ≤ s.loans.period ∧ s.loans.period ≤ 365) ∧ s.loans.grace ≤ 60 ∧
  (1 ≤ s.loans.wearLimit ∧ s.loans.wearLimit ≤ 4095) ∧ s.loans.poolReserve ≤ 1024

/-- The laws that hold together: each part of a step keeps its law because the others hold. -/
structure State.Consistent (s : State) : Prop where
  tables : s.TableLaw
  capacities : s.CapacityLaw
  patrons : s.FirstLaw
  copies : s.CopyLaw
  holds : s.HoldLaw
  cartridges : s.CartridgeLaw
  jobs : s.JobLaw
  orders : s.OrderLaw
  containers : s.ContainerLaw
  bags : s.BagLaw

end Sys2Proof.Machine
end

