-- ==== Sys2Proof/Certificates/Slice0/Obligations.lean ====
section
/-! DEFINITION. The statements for the provers. `s.Takes k h` says that a request of kind `k` with header
`h` is taken by its block (R166), and `t.answered k h …` is the state `t` with that request's answer waiting
to be placed (R167); `s.clocked h` is `s` after the bytes of the period were clocked. -/

open Sys2Proof Sys2Proof.Machine

/-! ### The machine -/

/-- R178, 95_what_each_step_holds.md (each step is whole and indivisible): a step with a command waiting
is that command's effect on the state with the rest of the queue. The queue is the model's (log entry 1). -/
def Obligations.StepTakesTheFrontCommand : Prop :=
  ∀ (c : Instr) (rest : List Instr) (s : State), s.pending = c :: rest →
    step s = exec c { s with pending := rest }

/-- R83, R97, R114, R131, R180: with nothing waiting, the time base stands while the reset input is
asserted, moves by one channel tick when no event is due, and otherwise exactly the due events join the queue:
the idle expiries in ascending container number, then the slot's expiry, then the advance of the second.
Nothing else changes. That the tick is what a step on an empty queue does, and the order in which events due at
one tick join the queue, are the model's choices (log entry 1). -/
def Obligations.IdleStepMovesTheTimeBase : Prop :=
  ∀ s : State, s.pending = [] →
    (s.resetHeld = true → step s = .next s) ∧
    (s.resetHeld = false → ∀ idle slot second : List Instr,
      idle = (s.packing.containers.filter (fun e => decide (e.2.state = .opened) &&
        e.2.idle.any (fun n => decide (s.packing.idleTime ≤ n)))).map (fun e => Instr.idleExpiry e.1) →
      slot = (if s.rack.slot.any (fun sl => decide (sl.deadline < s.clock.tick)) then [Instr.slotExpiry] else []) →
      second = (if (s.clock.seconds + 1) * 500 ≤ s.clock.tick then [Instr.secondAdvance] else []) →
      (idle = [] → slot = [] → second = [] →
        step s = .next { s with clock := { s.clock with tick := s.clock.tick + 1 } }) ∧
      (idle ≠ [] ∨ slot ≠ [] ∨ second ≠ [] → step s = .next { s with pending := idle ++ slot ++ second }))

/-- R165, R166, Table 10-3: select periods written out byte by byte, one for each family of requests,
and the three kinds of period that bring in no request. -/
def Obligations.SelectPeriodsDecode : Prop :=
  decodePeriod .circulation [0x0C, 0x14, 0x07, 0x00, 0x79, 0x83, 0x00, 0x00, 0x13, 0x9C, 0x01, 0x2D] =
    some (.orderPlace ⟨.circulation, 7, 12, 12⟩ 31107 5020 1) ∧
  decodePeriod .rack [0x09, 0x31, 0x01, 0x04, 0x00, 0x00, 0x23, 0x29, 0x75, 0x00] =
    some (.bayInsert ⟨.rack, 1, 9, 10⟩ 4 9001) ∧
  decodePeriod .mail [0x0D, 0x55, 0x02, 0x00, 0xEF, 0x10, 0x07, 0x08, 0x03, 0x84, 0x02, 0x58, 0xAD] =
    some (.mailSet ⟨.mail, 2, 13, 13⟩ 61200 1800 900 600) ∧
  decodePeriod .returns [0x0B, 0x70, 0x09, 0x01, 0x00, 0x00, 0x1E, 0x28, 0x02, 0x00, 0x33] =
    some (.returnItem ⟨.returns, 9, 11, 11⟩ 1 7720 2 0) ∧
  decodePeriod .mail [0x05, 0x91, 0xFF, 0x08, 0x63] = some (.fetchNotices ⟨.mail, 255, 5, 5⟩ 8) ∧
  decodePeriod .returns [0x05, 0xAB, 0x00, 0x00, 0x50] = some (.unknownKind ⟨.returns, 0, 5, 5⟩ 0xAB) ∧
  decodePeriod .rack [0x00, 0x12, 0x34] = some (.readPeriod .rack 3) ∧
  decodePeriod .rack [0xFF, 0x05] = some (.linkReset .rack 2) ∧
  decodePeriod .rack [0x05, 0x30, 0x00, 0x00, 0x00] = some (.frameDiscard .rack 5) ∧
  decodePeriod .rack [0x04, 0x30] = some (.frameDiscard .rack 2)

/-- R164, R165, R166, Table 10-3: decode and encode agree. Every well-formed request of the length that
Table 10-3 gives its kind is spelled by a select period of the bytes it clocks, and that period decodes to
it, with every field at every value its size admits. -/
def Obligations.RequestFramesRoundTrip : Prop :=
  ∀ (i : Instr) (k : Kind) (h : Header) (v : List Nat), i.request = some (k, h, v) →
    i.wellFormed = true → i.rightLength = true →
    ∃ bytes, encodePeriod i = some bytes ∧ bytes.length = h.clocked ∧ byteSum (bytes.take h.length) = 0 ∧
      decodePeriod h.port bytes = some i

/-! ### The laws of the device (0.1 to 10.11) -/

/-- R179: the state after power-on reset meets every law that the steps keep. -/
def Obligations.ResetMeetsTheLaws : Prop :=
  State.reset.PortLaw ∧ State.reset.TableLaw ∧ State.reset.CapacityLaw ∧ State.reset.PatronLaw ∧
  State.reset.rack.Lawful ∧ State.reset.clock.Lawful ∧ State.reset.ProjectionLaw ∧ State.reset.BagLaw ∧
  State.reset.lane.Lawful ∧ State.reset.SettingLaw ∧ State.reset.FirstLaw ∧ State.reset.HoldLaw ∧
  State.reset.Consistent

/-- R2 (the first law of the device), R7, R8, R13, R16, R140, R145, R153: every step keeps each patron's
outstanding count equal to the number of that patron's orders in the book plus the number of that patron's loans
in the table, with every order and loan of a patron who has a record. That the count does not exceed limit high
is `StepsKeepThePatronLaw`. -/
def Obligations.StepsKeepTheFirstLaw : Prop :=
  ∀ s t : State, s.FirstLaw → step s = .next t → t.FirstLaw

/-- 1.1, R58, R8 (the third law of the device), R1, R25, R42, R124: every step keeps every table in its
canonical form, and the bays 32; and it keeps the orders and loans together at 4096 or fewer, the orders at
512 or fewer, and every other table within its capacity. -/
def Obligations.StepsKeepTheTablesAndCapacities : Prop :=
  ∀ s t : State, step s = .next t → (s.TableLaw → t.TableLaw) ∧ (s.CapacityLaw → t.CapacityLaw)

/-- R2 to R5 (the second law of the device): every step keeps, for every patron, LIMIT held at limit high
and not held at or below limit restore, the outstanding count at limit high or below, OVERDUE held exactly
while the overdue count is above 0, and the deferred list within 6 entries with no title twice. -/
def Obligations.StepsKeepThePatronLaw : Prop :=
  ∀ s t : State, s.PatronLaw → step s = .next t → t.PatronLaw

/-- R163, R165, R172: every step keeps each notice queue at 32 notices or fewer, and leaves no bytes in an
assembly buffer. R84 (the eighth law of the device): it keeps an outstanding slot only while the rack is RUNNING
and in a round, no round while it is STOPPED, and a round while it is STALLED. R115: it keeps the held mail day
state equal to the derived one, and the clock in its ranges. R149 (the twelfth law): it keeps a capture while the
lane is STOPPED. Tables 5-1, 7-1, 8-1 and 9-2: a step whose command is well formed keeps every setting in its
range. -/
def Obligations.StepsKeepThePortRackClockAndLaneLaws : Prop :=
  ∀ s t : State, step s = .next t → (s.PortLaw → t.PortLaw) ∧ (s.rack.Lawful → t.rack.Lawful) ∧
    (s.clock.Lawful → t.clock.Lawful) ∧ (s.lane.Lawful → t.lane.Lawful) ∧
    (s.SettingLaw → (∀ c ∈ s.pending.head?, c.wellFormed = true) → t.SettingLaw)

/-- R104 (the eleventh law of the device), R100: every step keeps every ready second in 0..86400, the tag
ON_TIME only in DAY and below the last-call second, and no projection on an order that carries none. -/
def Obligations.StepsKeepTheProjectionLaw : Prop :=
  ∀ s t : State, s.ProjectionLaw → step s = .next t → t.ProjectionLaw

/-- R136 (the tenth law of the device), R125, R137, R139, R141: every step keeps every bag at 1 to 24 containers,
fewer than 24 while it is FILLING, all of the bag's own region, SEALED while it is FILLING and BAGGED once it is
CLOSED; at most one FILLING bag for a region; only WAITING_BAG containers in the unbagged queue; and in every
open container field an OPEN container of that patron. -/
def Obligations.StepsKeepTheBagLaw : Prop :=
  ∀ s t : State, s.BagLaw → step s = .next t → t.BagLaw

/-- R31 (the fifth law of the device): every step keeps hold queues empty while a copy is on the shelf. R27
(the fourth law), R28, R29: from a consistent state every step keeps 64 entries in each copy map, ON_SHELF,
ALLOCATED and ON_LOAN together copies_total, each ALLOCATED copy with the one READY or PACKED order of the title
that names it, each ON_LOAN copy with its loan, and only WAITING_COPY orders of the title in its hold queue. -/
def Obligations.StepsKeepTheCopyLaws : Prop :=
  ∀ s t : State, step s = .next t → (s.HoldLaw → t.HoldLaw) ∧ (s.Consistent → t.CopyLaw)

/-- R43 (the sixth law of the device), Table 3-2, R48, R51, R52: from a consistent state every step keeps only
BLANK cartridges with no bay in the blank pool and only NEEDS_BLANK ones with no bay in the blank backlog,
neither a serial twice, and every cartridge's state, binding and bay together as Table 3-2 gives them. -/
def Obligations.StepsKeepTheCartridgeLaw : Prop :=
  ∀ s t : State, s.Consistent → step s = .next t → t.CartridgeLaw

/-- R92, R95 (the seventh law of the device), R58, R60, R64, R90, Table 4-2: from a consistent state every step
keeps every WRITE job's total equal to its title's image size with its remaining count between 1 and the total
while WRITING and 0 while VERIFYING, every standing grant at or below its job's remaining count, every enrolled
bay active, every bay as Table 4-2 gives it, and no order waiting while a bay is ARMED. -/
def Obligations.StepsKeepTheJobLaw : Prop :=
  ∀ s t : State, s.Consistent → step s = .next t → t.JobLaw

/-- R125 (the ninth law of the device), R6, R9, Table 1-3, R144: from a consistent state every step keeps 1 to 3
PACKED orders of one patron in each container, one alone where it holds a braille item, each PACKED order in the
one container it names and no other order in any; each OPEN container named by its patron; only PENDING orders in
the pending queue, each once; and every order and loan as its state and its item give it. -/
def Obligations.StepsKeepTheOrderLaws : Prop :=
  ∀ s t : State, s.Consistent → step s = .next t → t.ContainerLaw ∧ t.OrderLaw

/-! ### The computations the statements name -/

/-- R89, R101: the round time, the sum over the pairs with an active bay of the larger of the two slices and 5, a
bay's slice being the lesser of its job's width and remaining count while it is BLANKING or WRITING, and 0 otherwise.
R104: a tag is ON_TIME exactly in DAY with the ready second below L, and LATE otherwise. R115: the derived mail day
state. R9: an order joins a queue at the tail or at the head of its class. R2, R3: the outstanding count and LIMIT
when an order is created. R133: which orders are waited for. R172, R176: a notice joins a queue of fewer than 32 and
is otherwise dropped with NOTICE_LOST set; in LEVEL mode the attention line is asserted exactly while a response stands
in the slot or an unmasked notice in the queue. (`pulses` is the model's record of an output, log entry 3.) -/
def Obligations.TheComputationsAreSpelledOut : Prop :=
  (∀ (s : State) (active : Nat → Bool) (slice : Nat → Nat),
    (∀ b, active b = decide ((s.bay b).state = .blanking ∨ (s.bay b).state = .writing)) →
    (∀ b, active b = false → slice b = 0) → (∀ b, active b = true → (s.bay b).job = none → slice b = 0) →
    (∀ b j, active b = true → (s.bay b).job = some j → slice b = min (match j.kind with
      | .write _ .a => s.rack.widthA
      | .write _ .b => s.rack.widthB
      | .blank => if s.rack.blankSel = .a then s.rack.widthA else s.rack.widthB) j.remaining) →
    s.roundTime = ((List.range 16).map (fun k =>
      if active (2 * k) || active (2 * k + 1) then max (slice (2 * k)) (slice (2 * k + 1)) + 5 else 0)).sum) ∧
  (∀ (c : Clock) (p : Nat), c.tagOf p = if c.mailDay = .day ∧ p < c.cutoff - c.margin then .onTime else .late) ∧
  (∀ second l c, deriveMailDay second l c =
    if second < l then .day else if second < c then .lastCall else .afterCutoff) ∧
  (∀ (rush : Nat → Bool) (n : Nat) (q : List Nat),
    (rush n = true → joinHead rush n q = n :: q ∧
      joinTail rush n q = q.takeWhile rush ++ n :: q.dropWhile rush) ∧
    (rush n = false → joinHead rush n q = q.takeWhile rush ++ n :: q.dropWhile rush ∧ joinTail rush n q = q ++ [n])) ∧
  (∀ p : Patron, p.gain = { p with
    outstanding := p.outstanding + 1
    causes := { p.causes with
      limit := if p.outstanding + 1 = p.high then true
        else if p.outstanding + 1 ≤ p.restore then false else p.causes.limit } }) ∧
  (∀ o : Order, o.waitedFor = true ↔ ((o.state = .writing ∨ o.state = .verifying) ∧ o.tag = .onTime) ∨
    (o.state = .ready ∧ o.format = .cartridge)) ∧
  (∀ (u : PortUnit) (n : Notice), u.notices.length < 32 → u.enqueue n = { u with
    notices := u.notices ++ [n]
    pulses := if u.mode = .pulse ∧ u.mask.getLsbD (n.kind.code - 1) = false then u.pulses + 1 else u.pulses }) ∧
  (∀ (u : PortUnit) (n : Notice), 32 ≤ u.notices.length → u.enqueue n = { u with noticeLost := true }) ∧
  (∀ u : PortUnit, u.mode = .level → (u.attention = true ↔
    (∃ f, u.slot = .holding f) ∨ ∃ n ∈ u.notices, u.mask.getLsbD (n.kind.code - 1) = false))

/-! ### Ports (Chapter 10) -/

/-- R169, Table 10-5: a request that is taken and answered with a refusal leaves every record of every
block as it was, queues no notice and changes no other port. The one exception is a SLICE_DONE that finds its
slot past its deadline, where the expiry of R97 takes place before the report (log entry 1). -/
def Obligations.RefusalsLeaveEveryRecord : Prop :=
  ∀ (i : Instr) (k : Kind) (h : Header) (v : List Nat) (s : State), i.request = some (k, h, v) → s.Takes k h →
    (k = .sliceDone → ∀ sl ∈ s.rack.slot, s.clock.tick ≤ sl.deadline) →
    ∃ (t : State) (r : Reply), exec i s = .next t ∧ (t.unit h.port).slot = .awaiting r ∧ r.kind = k.code ∧ r.tag = h.tag ∧
      (r.code.refuses = true → ∃ f, t = (s.clocked h).answered k h r.code [u1 f])

/-- R166, R179: what the port unit answers itself, for every request. While the reset input is asserted no
request is taken; a slot that is not empty discards the request and sets OVERRUN; a kind of another port
gets NOT_PERMITTED; another length gets BAD_LENGTH; a kind code outside Table 10-3 gets UNKNOWN_KIND, the
code echoed; and none of these reaches a block. -/
def Obligations.PortUnitsAnswerThemselves : Prop :=
  ∀ (i : Instr) (k : Kind) (h : Header) (v : List Nat) (s : State), i.request = some (k, h, v) →
    (s.resetHeld = true → exec i s = .next (s.clocked h)) ∧
    (s.resetHeld = false → (s.unit h.port).freeAfter h.clocked = false →
      exec i s = .next ((s.clocked h).onUnit h.port (fun u => { u with overrun := true }))) ∧
    (s.resetHeld = false → (s.unit h.port).freeAfter h.clocked = true → k.port ≠ none → k.port ≠ some h.port →
      exec i s = .next ((s.clocked h).answered k h .notPermitted [u1 0])) ∧
    (s.resetHeld = false → (s.unit h.port).freeAfter h.clocked = true → (k.port = none ∨ k.port = some h.port) →
      h.length ≠ k.length → exec i s = .next ((s.clocked h).answered k h .badLength [u1 0])) ∧
    (∀ code, s.resetHeld = false → (s.unit h.port).freeAfter h.clocked = true →
      exec (.unknownKind h code) s = .next ((s.clocked h).onUnit h.port
        (fun u => { u with slot := .awaiting ⟨code, h.tag, .unknownKind, [u1 0], none⟩ })))

/-- R165, R167, R171: the periods that bring in no request. A read period shifts out the placed response,
which leaves the slot if its last byte goes out; a discarded frame sets BAD_FRAME besides; a link reset
gives the unit the values of Table 10-1. No other port and no other block changes. (`shifted` and `pulses`
are the model's records of outputs, log entry 3.) -/
def Obligations.PeriodsWithoutARequest : Prop :=
  ∀ (p : Port) (n : Nat) (s : State),
    (∀ f, (s.unit p).slot = .holding f → f.length ≤ n →
      exec (.readPeriod p n) s =
        .next (s.onUnit p (fun u => { u with assembly := [], slot := .empty, shifted := f }))) ∧
    (∀ f, (s.unit p).slot = .holding f → n < f.length →
      exec (.readPeriod p n) s = .next (s.onUnit p (fun u => { u with assembly := [], shifted := f.take n }))) ∧
    ((∀ f, (s.unit p).slot ≠ .holding f) →
      exec (.readPeriod p n) s =
        .next (s.onUnit p (fun u => { u with assembly := [], shifted := List.replicate n 0 }))) ∧
    (s.resetHeld = false → ∀ t, exec (.readPeriod p n) s = .next t →
      exec (.frameDiscard p n) s = .next (t.onUnit p (fun u => { u with badFrame := true }))) ∧
    ∃ out, exec (.linkReset p n) s = .next (s.onUnit p (fun u =>
      { assembly := [], slot := .empty, overrun := false, badFrame := false, noticeLost := false, notices := [],
        mask := 0, mode := .level, shifted := out, pulses := u.pulses }))

/-- R164, R167, R170, R176: the response is placed as one frame: its length, the kind and the tag echoed, the
outcome, the link status, the fields of the body at their sizes with the most significant byte first, and the
byte that brings the sum of all bytes to 0. Each mark is cleared; in PULSE mode the line gives a pulse. A response
that reports an order's state (R12, R19) ends with the state the order holds when the response is placed; an order
gone by then leaves the byte open (log entry 5). (`pulses` is the model's record of an output, log entry 3.) -/
def Obligations.ResponsesArePlaced : Prop :=
  ∀ (p : Port) (r : Reply) (s : State),
    ((s.unit p).slot = .awaiting r → r.orderState = none →
      ∃ (frame : List Byte) (check : Byte), exec (.responsePlaced p) s = .next (s.onUnit p (fun u =>
        { u with
          slot := .holding frame, overrun := false, badFrame := false, noticeLost := false
          pulses := if u.mode = .pulse then u.pulses + 1 else u.pulses })) ∧
      byteSum frame = 0 ∧ frame.length = 6 + (r.body.map Field.size).sum ∧
      frame = [BitVec.ofNat 8 frame.length, BitVec.ofNat 8 r.kind, BitVec.ofNat 8 r.tag,
          BitVec.ofNat 8 r.code.byte, BitVec.ofNat 8 ((if (s.unit p).overrun then 1 else 0) +
            (if (s.unit p).badFrame then 2 else 0) + (if (s.unit p).noticeLost then 4 else 0))] ++
        (r.body.map (fun f => (List.range f.size).map (fun i =>
          BitVec.ofNat 8 (f.value / 256 ^ (f.size - 1 - i))))).flatten ++ [check]) ∧
    (∀ n o, (s.unit p).slot = .awaiting r → r.orderState = some n → s.order n = some o →
      exec (.responsePlaced p) s = exec (.responsePlaced p) (s.onUnit p (fun u =>
        { u with slot := .awaiting { r with body := r.body ++ [u1 o.state.code], orderState := none } })))

/-- R174, R175: FETCH_NOTICES takes notices from the head of its own port's queue, 20 bytes each;
NOTICE_MASK stores the mask and the mode, and leaves the queue. (That the unread bit 15 is stored and reported
as 0 is log entry 20.) -/
def Obligations.NoticesAreFetchedAndMasked : Prop :=
  ∀ (h : Header) (s : State),
    (s.Takes .fetchNotices h → ∀ most, 1 ≤ most → most ≤ 8 →
      exec (.fetchNotices h most) s = .next (((s.clocked h).onUnit h.port
          (fun u => { u with notices := u.notices.drop most })).answered .fetchNotices h .accepted
        ([u1 ((s.unit h.port).notices.take most).length, u1 ((s.unit h.port).notices.drop most).length] ++
          (((s.unit h.port).notices.take most).map (fun n => [u1 n.kind.code, u4 n.subject, u3 n.second] ++
            n.data ++ [⟨12 - (n.data.map Field.size).sum, 0⟩])).flatten))) ∧
    (s.Takes .fetchNotices h → ∀ most, most = 0 ∨ 8 < most →
      exec (.fetchNotices h most) s = .next ((s.clocked h).answered .fetchNotices h .range [u1 1])) ∧
    (s.Takes .noticeMask h → ∀ mask mode, mode ≤ 1 →
      exec (.noticeMask h mask mode) s = .next (((s.clocked h).onUnit h.port
          (fun u => { u with mask := BitVec.ofNat 16 (mask % 32768), mode := if mode = 1 then .pulse else .level })).answered
        .noticeMask h .accepted [u2 (mask % 32768), u1 mode, u1 (s.unit h.port).notices.length])) ∧
    (s.Takes .noticeMask h → ∀ mask mode, 1 < mode →
      exec (.noticeMask h mask mode) s = .next ((s.clocked h).answered .noticeMask h .range [u1 2]))

/-! ### The reset input and the time base (Chapters 5, 7, 8, 9, 11) -/

/-- R179, R180: an assertion of the reset input gives every record of every block its power-on value,
written out here from Tables 5-1, 7-1, 8-1, 9-2, 9-3 and 10-1; a release starts the time base from tick 0 at
day 0, second 0, state DAY. The queue of waiting commands is the model's and stays (log entry 1), and so
are the two records of a port's outputs, `shifted` and `pulses`, which start again empty and at 0 (log entry 3). -/
def Obligations.TheResetInput : Prop :=
  ∀ s : State,
    (∃ t : State, exec .resetAssert s = .next t ∧ t.resetHeld = true ∧ t.pending = s.pending ∧
      (∀ p, t.unit p = ⟨[], .empty, false, false, false, [], 0, .level, [], 0⟩) ∧
      t.patrons = [] ∧ t.book = ⟨[], 1, []⟩ ∧ t.titles = [] ∧ t.carts = ⟨[], [], []⟩ ∧
      t.bays = List.replicate 32 ⟨.empty, none, none, none, none⟩ ∧
      t.rack = ⟨.stopped, .continuous, none, 0, none, 64, 16, .b, 3⟩ ∧
      (t.clock.second, t.clock.day, t.clock.cutoff, t.clock.margin, t.clock.mailDay) = (0, 0, 61200, 1800, .day) ∧
      t.packing = ⟨[], [], [], 1, 1, 900, 600⟩ ∧ t.loans = ⟨[], 1, 42, 14, 1000, 16⟩ ∧
      t.lane = ⟨.running, none, false, ⟨false, false, false⟩, 0, 0⟩) ∧
    (s.resetHeld = true →
      exec .resetRelease s = .next { s with resetHeld := false, clock := ⟨0, 0, 61200, 1800, .day, 0, 0⟩ })

/-- R114, R116, R131: an advance of the second that enters no state and is no rollover adds one to the
second and to each running idle count, and changes nothing else. (That every advance raises a running idle
count by a whole second, whatever the moment of the placement that began it, is log entry 6; that a commanded
advance carries the channel tick to its multiple of 500 is the model's choice, log entry 1.) -/
def Obligations.TheSecondAdvancesWithinAState : Prop :=
  ∀ s : State, s.resetHeld = false → s.book.orders.wf = true → s.clock.second + 1 < 86400 →
    deriveMailDay (s.clock.second + 1) (s.clock.cutoff - s.clock.margin) s.clock.cutoff = s.clock.mailDay →
    exec .secondAdvance s = .next { s with
      clock := { s.clock with
        second := s.clock.second + 1
        tick := max s.clock.tick ((s.clock.seconds + 1) * 500), seconds := s.clock.seconds + 1 }
      packing := { s.packing with
        containers := s.packing.containers.mapRecords
          (fun _ c => { c with idle := c.idle.map (fun n => min 7200 (n + 1)) }) } }

/-- R116, R117, R109, R130: the advance that enters LAST_CALL queues the LAST_CALL notice with the count of OPEN
containers; closes every OPEN container, each with its CONTAINER_CLOSED notice of cause LAST_CALL in ascending
number, and clears the open container of each container's patron; sets every ON_TIME tag to LATE with its ready
second kept, one PROJECTION_CHANGED notice for each in ascending order number; and leaves the bags, the rack, the
bays, the cartridges, the titles, the loans, the lane and the other ports. R118, R138: the advance that enters
AFTER_CUTOFF from LAST_CALL queues the CUTOFF notice with the counts of FILLING bags and of waiting containers,
and closes every FILLING bag with its closed-at-cut-off flag set and its BAG_CLOSED notice; its containers are
BAGGED, and every other bag, the book, the unbagged queue, the patrons and the rest stay. (The order of the last
call's own notices and the PROJECTION_CHANGED ones is log entry 18; the codes of the fields are those of log
entry 12; a running idle count rises first, log entry 6.) -/
def Obligations.TheLastCallAndTheCutOff : Prop :=
  ∀ s : State, s.resetHeld = false → s.TableLaw → s.clock.cutoff < 86400 →
    (s.clock.mailDay = .day → s.clock.second + 1 = s.clock.cutoff - s.clock.margin →
      s.clock.second + 1 < s.clock.cutoff → (∀ e ∈ s.packing.containers, e.2.held = true → e.2.state = .opened) →
      ∀ opened : Table Container, opened = s.packing.containers.filter (fun e => decide (e.2.state = .opened)) →
      ∃ t : State, exec .secondAdvance s = .next t ∧ t.clock.mailDay = .lastCall ∧
        t.clock.second = s.clock.second + 1 ∧
        (∀ n c, s.container n = some c → c.state = .opened →
          ∃ d, t.container n = some d ∧ d.state = .closed ∧ d.idle = none ∧ d.held = false ∧ d.items = c.items) ∧
        (∀ n c, s.container n = some c → c.state ≠ .opened →
          ∃ d, t.container n = some d ∧ d.state = c.state ∧ d.items = c.items ∧ d.bag = c.bag) ∧
        (∀ n c p, s.container n = some c → c.state = .opened → s.patron c.patron = some p →
          p.openContainer = some n → ∃ q, t.patron c.patron = some q ∧ q.openContainer = none) ∧
        t.book = { s.book with
          orders := s.book.orders.mapRecords
            (fun _ o => { o with tag := if o.tag = .onTime then .late else o.tag }) } ∧
        (∀ call closes changes : List Notice,
          call = [⟨.lastCall, s.clock.day, s.clock.second + 1, [u2 opened.length]⟩] →
          closes = opened.map (fun e => ⟨.containerClosed, e.1, s.clock.second + 1,
            [u3 e.2.patron, u1 e.2.region, u1 e.2.items.length, u1 3]⟩) →
          changes = (s.book.orders.filter (fun e => decide (e.2.tag = .onTime))).map (fun e => ⟨.projectionChanged, e.1,
            s.clock.second + 1, [u1 2, u3 (e.2.ready.getD 0), u3 e.2.patron]⟩) →
          t.unit .mail = (call ++ closes ++ changes).foldl PortUnit.enqueue (s.unit .mail)) ∧
        (∀ p, p ≠ .mail → t.unit p = s.unit p) ∧
        t.packing.bags = s.packing.bags ∧ t.packing.unbagged = s.packing.unbagged ∧
        t.titles = s.titles ∧ t.carts = s.carts ∧ t.bays = s.bays ∧ t.rack = s.rack ∧ t.loans = s.loans ∧
        t.lane = s.lane ∧ t.pending = s.pending) ∧
    (s.clock.mailDay = .lastCall → s.clock.second + 1 = s.clock.cutoff →
      ∀ filling : Table Bag, filling = s.packing.bags.filter (fun e => decide (e.2.state = .filling)) →
      ∃ t : State, exec .secondAdvance s = .next t ∧ t.clock.mailDay = .afterCutoff ∧
        (∀ n g, s.bag n = some g → g.state = .filling →
          t.bag n = some { g with state := .closed, atCutoff := true }) ∧
        (∀ n g, s.bag n = some g → g.state = .closed → t.bag n = some g) ∧
        (∀ n c, s.container n = some c → ∃ d, t.container n = some d ∧ d.items = c.items ∧ d.bag = c.bag ∧
          d.state = if ∃ e ∈ filling, n ∈ e.2.containers then .bagged else c.state) ∧
        (∀ cut closes : List Notice,
          cut = [⟨.cutoff, s.clock.day, s.clock.second + 1, [u1 filling.length, u2 s.packing.unbagged.length]⟩] →
          closes = filling.map (fun e => ⟨.bagClosed, e.1, s.clock.second + 1,
            [u1 e.2.region, u1 e.2.containers.length, mark true]⟩) →
          t.unit .mail = (cut ++ closes).foldl PortUnit.enqueue (s.unit .mail)) ∧
        (∀ p, p ≠ .mail → t.unit p = s.unit p) ∧
        t.packing.unbagged = s.packing.unbagged ∧ t.book = s.book ∧ t.patrons = s.patrons ∧ t.titles = s.titles ∧
        t.carts = s.carts ∧ t.bays = s.bays ∧ t.rack = s.rack ∧ t.loans = s.loans ∧ t.lane = s.lane)

/-- R119, R160, R161, R4, R108: the rollover raises the day number, holding at 65535, sets second 0 and, where
the last-call second is above 0, state DAY; it makes OVERDUE every OUT loan whose due day plus the grace is below
the new day, raises each patron's overdue count by the loans so found and sets OVERDUE, one OVERDUE notice for
each such patron in ascending number; it gives every READY and PACKED order ready second 0, ON_TIME in DAY; and it
sets the lane's day counts to 0. It leaves the bays, the cartridges, the titles, the rack and, where the cut-off is
above 0, the bags. (A cut-off of 0 is entered within the rollover, and the bags then close. The order of the
notice's fields is R161's.) -/
def Obligations.TheRolloverSweepsLoans : Prop :=
  ∀ s : State, s.resetHeld = false → s.clock.second = 86399 →
    ∃ t : State, exec .secondAdvance s = .next t ∧ t.clock.second = 0 ∧ t.clock.day = min 65535 (s.clock.day + 1) ∧
      (0 < s.clock.cutoff - s.clock.margin → t.clock.mailDay = .day) ∧
      t.loans = { s.loans with
        loans := s.loans.loans.mapRecords (fun _ l =>
          if l.state = .out ∧ l.dueDay + s.loans.grace < t.clock.day then { l with state := .overdue } else l) } ∧
      (∀ found : Nat → Nat, (∀ n, found n = s.loans.loans.countP (fun e => decide (e.2.patron = n ∧ e.2.state = .out ∧
          e.2.dueDay + s.loans.grace < t.clock.day))) →
        (∀ n p, s.patron n = some p → ∃ q, t.patron n = some q ∧
          q.overdue = (if found n = 0 then p.overdue else min 15 (p.overdue + found n)) ∧
          q.causes = { p.causes with overdue := p.causes.overdue || decide (0 < found n) } ∧
          q.outstanding = p.outstanding ∧ q.deferred = p.deferred) ∧
        (s.patrons.wf = true → t.unit .circulation = ((s.patrons.filter (fun e => decide (0 < found e.1))).map (fun e =>
          (⟨.overdue, e.1, 0, [u1 (found e.1), u1 (min 15 (e.2.overdue + found e.1)), u2 t.clock.day]⟩ : Notice))).foldl
            PortUnit.enqueue (s.unit .circulation))) ∧
      t.unit .rack = s.unit .rack ∧ t.unit .returns = s.unit .returns ∧
      (∀ n o, t.order n = some o → (o.state = .ready ∨ o.state = .packed) → o.ready = some 0 ∧
        (0 < s.clock.cutoff - s.clock.margin → o.tag = .onTime)) ∧
      (0 < s.clock.cutoff → t.packing.bags = s.packing.bags) ∧ t.packing.unbagged = s.packing.unbagged ∧
      t.lane = { s.lane with returnsToday := 0, errorsToday := 0 } ∧
      t.titles = s.titles ∧ t.carts = s.carts ∧ t.bays = s.bays ∧ t.rack = s.rack ∧ t.pending = s.pending

/-- R97, R106: a slot that expires is abandoned with nothing credited: the rack is STALLED with its round
kept, one SLOT_TIMEOUT notice is queued for the rack port, every WRITING order has ready second 86400 and tag LATE,
and the bays, cartridges, titles, loans and lane stay. R109, R110: every order whose tag went from ON_TIME to LATE
has one PROJECTION_CHANGED notice, in ascending order number; R134: then each patron of one, in ascending number, has
a held container closed, with a CONTAINER_CLOSED notice of cause RELEASED, unless another of the patron's orders is
waited for. (That a commanded expiry carries the channel tick past the deadline is the model's choice, log entry 1;
the order of the two kinds of notice is log entry 18.) -/
def Obligations.SlotsExpire : Prop :=
  ∀ (s : State) (sl : Slot), s.rack.slot = some sl →
    ∃ t : State, exec .slotExpiry s = .next t ∧ t.rack = { s.rack with state := .stalled, slot := none } ∧
      t.book = { s.book with
        orders := s.book.orders.mapRecords (fun _ o =>
          if o.state = .writing then { o with ready := some 86400, tag := .late } else o) } ∧
      t.clock = { s.clock with tick := max s.clock.tick (sl.deadline + 1) } ∧
      t.unit .rack = (s.unit .rack).enqueue ⟨.slotTimeout, sl.pair, s.clock.second,
        [u4 s.rack.roundNumber, u1 sl.even.blocks, u1 sl.odd.blocks]⟩ ∧
      t.unit .circulation = s.unit .circulation ∧ t.unit .returns = s.unit .returns ∧
      (s.BagLaw → s.book.orders.wf = true → ∀ (changed : Table Order) (released : Table Container),
        changed = s.book.orders.filter (fun e => decide (e.2.state = .writing ∧ e.2.tag = .onTime)) →
        released = s.patrons.filterMap (fun e => e.2.openContainer.bind (fun n => (s.container n).bind (fun c =>
          if changed.any (fun x => decide (x.2.patron = e.1)) && c.held &&
              !t.book.orders.any (fun x => decide (x.2.patron = e.1) && x.2.waitedFor) then some (n, c) else none))) →
        (∀ changes closes : List Notice,
          changes = changed.map (fun e => ⟨.projectionChanged, e.1, s.clock.second,
            [u1 2, u3 86400, u3 e.2.patron]⟩) →
          closes = released.map (fun e => ⟨.containerClosed, e.1, s.clock.second,
            [u3 e.2.patron, u1 e.2.region, u1 e.2.items.length, u1 2]⟩) →
          t.unit .mail = (changes ++ closes).foldl PortUnit.enqueue (s.unit .mail)) ∧
        (∀ n c, s.container n = some c → t.container n = some (if ∃ e ∈ released, e.1 = n then
          { c with state := .closed, idle := none, held := false } else c)) ∧
        (∀ n p, s.patron n = some p → t.patron n = some { p with
          openContainer := if ∃ e ∈ released, p.openContainer = some e.1 then none else p.openContainer })) ∧
      t.bays = s.bays ∧ t.carts = s.carts ∧ t.titles = s.titles ∧ t.loans = s.loans ∧ t.lane = s.lane ∧
      t.pending = s.pending

/-- R131, R143: an idle expiry of a container that is not OPEN, whose count is stopped, or whose count is below
the idle time does not take place. R132, R130, R133: where the count has reached the idle time, the expiry holds the
container, with its count stopped, if the patron has a waited-for order (WRITING or VERIFYING with tag ON_TIME, or
READY with format CARTRIDGE), and otherwise closes it and queues one CONTAINER_CLOSED notice with cause IDLE. (That
a commanded expiry is tested against the count is log entry 1.) -/
def Obligations.IdleTimersExpire : Prop :=
  ∀ (s : State) (n : Nat),
    ((∀ c, s.container n = some c → c.state ≠ .opened ∨ c.idle = none ∨ ∃ i ∈ c.idle, i < s.packing.idleTime) →
      exec (.idleExpiry n) s = .next s) ∧
    (∀ c i waits, s.container n = some c → c.state = .opened → c.idle = some i → s.packing.idleTime ≤ i →
      waits = s.book.orders.any (fun e => decide (e.2.patron = c.patron ∧
        (((e.2.state = .writing ∨ e.2.state = .verifying) ∧ e.2.tag = .onTime) ∨
          (e.2.state = .ready ∧ e.2.format = .cartridge)))) →
      (waits = true →
        exec (.idleExpiry n) s = .next { s with packing := { s.packing with
          containers := s.packing.containers.alter n (fun c => { c with held := true, idle := none }) } }) ∧
      (waits = false →
        exec (.idleExpiry n) s = .next (({ s with
          packing := { s.packing with
            containers := s.packing.containers.alter n
              (fun c => { c with state := .closed, idle := none, held := false }) }
          patrons := s.patrons.alter c.patron
            (fun p => if p.openContainer = some n then { p with openContainer := none } else p) }).raise
          .mail .containerClosed n [u3 c.patron, u1 c.region, u1 c.items.length, u1 1])))

/-! ### The circulation port (Chapters 1, 2, 3, 7, 9) -/

/-- R20: PATRON_OPEN. R22: PATRON_CLOSE. (That a limit high of 0 answers ACCEPTED and not CLAMPED is log entry
16; the field byte of a RANGE, DUPLICATE or FULL of PATRON_OPEN is left open, log entry 9.) -/
def Obligations.PatronsAreOpenedAndClosed : Prop :=
  (∀ (s : State) (h : Header) (patron region high restore : Nat), s.Takes .patronOpen h →
      (patron = 0 ∨ 7 < region →
        ∃ f, exec (.patronOpen h patron region high restore) s = .next ((s.clocked h).answered .patronOpen h .range [u1 f])) ∧
      (patron ≠ 0 → region ≤ 7 → s.patrons.has patron = true →
        ∃ f, exec (.patronOpen h patron region high restore) s =
          .next ((s.clocked h).answered .patronOpen h .duplicate [u1 f])) ∧
      (patron ≠ 0 → region ≤ 7 → s.patrons.has patron = false → 2048 ≤ s.patrons.length →
        ∃ f, exec (.patronOpen h patron region high restore) s = .next ((s.clocked h).answered .patronOpen h .full [u1 f])) ∧
      (patron ≠ 0 → region ≤ 7 → s.patrons.has patron = false → s.patrons.length < 2048 →
        ∀ hi lo, hi = (if high = 0 then 6 else if 15 < high then 15 else high) →
          lo = (if high = 0 then 3 else if hi ≤ restore then hi - 1 else restore) →
          exec (.patronOpen h patron region high restore) s = .next (({ s.clocked h with
            patrons := s.patrons.put patron
              ⟨region, hi, lo, 0, 0, ⟨false, false, false⟩, [], none⟩ }).answered .patronOpen h
            (if high ≠ 0 ∧ (hi ≠ high ∨ lo ≠ restore) then .clamped else .accepted) [u1 hi, u1 lo]))) ∧
  (∀ (s : State) (h : Header) (patron : Nat), s.Takes .patronClose h →
      (patron = 0 → exec (.patronClose h patron) s = .next ((s.clocked h).answered .patronClose h .range [u1 1])) ∧
      (patron ≠ 0 → s.patron patron = none →
        exec (.patronClose h patron) s = .next ((s.clocked h).answered .patronClose h .notFound [u1 1])) ∧
      (∀ p, patron ≠ 0 → s.patron patron = some p → 0 < p.outstanding →
        exec (.patronClose h patron) s = .next ((s.clocked h).answered .patronClose h .wrongState [u1 0])) ∧
      (∀ p, patron ≠ 0 → s.patron patron = some p → p.outstanding = 0 →
        exec (.patronClose h patron) s =
          .next (({ s.clocked h with patrons := s.patrons.drop patron }).answered .patronClose h .accepted [])))

/-- R21, R3: PATRON_SET. A patron number of 0, a region above 7 or a suspension code above 1 is refused with RANGE,
an unknown patron with NOT_FOUND, and a limit high below the outstanding count with WRONG_STATE. Otherwise the
fields are stored and LIMIT is re-evaluated. R14, R15: where a cause is held afterwards or the deferred list is
empty, no order is created; where no cause is held, the release pass takes the head of the list: an entry whose
title the patron holds is discarded, and an entry for a cartridge title becomes a STANDARD order under the first
free number at the end of the pending queue, and the pass stops at an empty list or when that order has set LIMIT.
(The three cause marks of the response are log entry 21; the pass is run without testing its triggers, log entry
27.) -/
def Obligations.PatronSetStoresTheLimits : Prop :=
  ∀ (s : State) (h : Header) (patron region high restore suspended : Nat), s.Takes .patronSet h →
    (patron = 0 ∨ 7 < region ∨ 1 < suspended → exec (.patronSet h patron region high restore suspended) s =
      .next ((s.clocked h).answered .patronSet h .range
        [u1 (if patron = 0 then 1 else if 7 < region then 2 else 5)])) ∧
    (patron ≠ 0 → region ≤ 7 → suspended ≤ 1 → s.patron patron = none →
      exec (.patronSet h patron region high restore suspended) s =
        .next ((s.clocked h).answered .patronSet h .notFound [u1 1])) ∧
    (∀ p, patron ≠ 0 → region ≤ 7 → suspended ≤ 1 → s.patron patron = some p →
      ∀ hi lo lim code, hi = min (max high 1) 15 → lo = (if restore < hi then restore else hi - 1) →
      lim = (if p.outstanding = hi then true else if p.outstanding ≤ lo then false else p.causes.limit) →
      code = (if hi ≠ high ∨ lo ≠ restore then Code.clamped else .accepted) →
      (hi < p.outstanding → exec (.patronSet h patron region high restore suspended) s =
        .next ((s.clocked h).answered .patronSet h .wrongState [u1 0])) ∧
      (p.outstanding ≤ hi → s.book.orders.wf = true →
        (p.deferred = [] ∨ lim = true ∨ p.causes.overdue = true ∨ suspended = 1) →
        exec (.patronSet h patron region high restore suspended) s =
          .next (({ s.clocked h with
            patrons := s.patrons.alter patron (fun p =>
              { p with
                region := region, high := hi, restore := lo
                causes :=
                  ⟨if p.outstanding = hi then true else if p.outstanding ≤ lo then false else p.causes.limit,
                    p.causes.overdue, decide (suspended = 1)⟩ }) }).answered .patronSet h
            code [u1 hi, u1 lo, mark lim, mark p.causes.overdue, mark (decide (suspended = 1))])) ∧
      (∀ title rest, p.outstanding < hi → s.book.orders.wf = true → s.patrons.wf = true → lim = false →
        p.causes.overdue = false → suspended = 0 → p.deferred = title :: rest →
        s.book.orders.length + s.loans.loans.length < 4096 → s.book.orders.length < 512 →
        (rest = [] → (∃ e ∈ s.book.orders, e.2.patron = patron ∧ e.2.title = title) ∨
            (∃ e ∈ s.loans.loans, e.2.patron = patron ∧ e.2.title = title) →
          exec (.patronSet h patron region high restore suspended) s =
            .next (({ s.clocked h with
              patrons := s.patrons.put patron { p with
                region := region, high := hi, restore := lo, causes := ⟨false, false, false⟩, deferred := [] } }).answered
              .patronSet h code [u1 hi, u1 lo, mark false, mark false, mark false])) ∧
        (∀ size sel, (rest = [] ∨ p.outstanding + 1 = hi) →
          (∀ e ∈ s.book.orders, ¬ (e.2.patron = patron ∧ e.2.title = title)) →
          (∀ e ∈ s.loans.loans, ¬ (e.2.patron = patron ∧ e.2.title = title)) →
          s.title title = some (.cartridge size sel) → 1 ≤ s.book.counter → s.book.counter ≤ 65535 →
          (∀ b < 32, (s.bay b).state ≠ .armed) →
          ∃ n, FirstFree 65535 s.book.orders s.book.counter n ∧ ∀ now, now = decide (p.outstanding + 1 = hi) →
            exec (.patronSet h patron region high restore suspended) s =
              .next (({ s.clocked h with
                patrons := s.patrons.put patron { p with
                  region := region, high := hi, restore := lo, outstanding := p.outstanding + 1
                  causes := ⟨now, false, false⟩, deferred := rest }
                book :=
                  { orders := s.book.orders.put n ⟨patron, title, .cartridge, .standard, s.clock.day, s.clock.second,
                      .pending, 0, none, none, none, none, .noTag, none⟩
                    counter := if n = 65535 then 1 else n + 1
                    queue := s.book.queue ++ [n] } }).answered .patronSet h
                code [u1 hi, u1 lo, mark now, mark false, mark false]))))

/-- R10, R11: the tests of ORDER_PLACE, the first that fails giving the outcome; and a placement for a
patron who holds a cause, which is deferred: the title joins the tail of the list, and the release pass stops
before its first entry. A list of 6 entries refuses it with FULL. -/
def Obligations.OrdersAreTestedAndDeferred : Prop :=
  ∀ (s : State) (h : Header) (patron title priority : Nat), s.Takes .orderPlace h →
    (patron = 0 ∨ title = 0 ∨ 1 < priority → exec (.orderPlace h patron title priority) s =
      .next ((s.clocked h).answered .orderPlace h .range
        [u1 (if patron = 0 then 1 else if title = 0 then 2 else 3)])) ∧
    (patron ≠ 0 → title ≠ 0 → priority ≤ 1 →
      (s.patron patron = none → exec (.orderPlace h patron title priority) s =
        .next ((s.clocked h).answered .orderPlace h .notFound [u1 1])) ∧
      (∀ p, s.patron patron = some p →
        (s.title title = none → exec (.orderPlace h patron title priority) s =
          .next ((s.clocked h).answered .orderPlace h .notFound [u1 2])) ∧
        (s.title title ≠ none →
          ((∃ e ∈ s.book.orders, e.2.patron = patron ∧ e.2.title = title) ∨
              (∃ e ∈ s.loans.loans, e.2.patron = patron ∧ e.2.title = title) ∨ title ∈ p.deferred →
            ∃ f, exec (.orderPlace h patron title priority) s =
              .next ((s.clocked h).answered .orderPlace h .duplicate [u1 f])) ∧
          ((∀ e ∈ s.book.orders, ¬ (e.2.patron = patron ∧ e.2.title = title)) →
            (∀ e ∈ s.loans.loans, ¬ (e.2.patron = patron ∧ e.2.title = title)) → title ∉ p.deferred →
            4096 ≤ s.book.orders.length + s.loans.loans.length ∨ 512 ≤ s.book.orders.length →
            exec (.orderPlace h patron title priority) s =
              .next ((s.clocked h).answered .orderPlace h .full [u1 0])) ∧
          (s.holdsTitle patron title = false → title ∉ p.deferred →
            s.book.orders.length + s.loans.loans.length < 4096 → s.book.orders.length < 512 →
            (p.causes.limit = true ∨ p.causes.overdue = true ∨ p.causes.suspended = true) →
            (6 ≤ p.deferred.length → exec (.orderPlace h patron title priority) s =
              .next ((s.clocked h).answered .orderPlace h .full [u1 0])) ∧
            (p.deferred.length < 6 → s.book.orders.wf = true → exec (.orderPlace h patron title priority) s =
              .next (({ s.clocked h with
                patrons := s.patrons.alter patron (fun p => { p with deferred := p.deferred ++ [title] }) }).answered
                .orderPlace h .deferred [u1 (p.deferred.length + 1), u1 0]))))))

/-- R12, R13, R7, R9: a cartridge order takes the first free number, stepping on from the counter past every
number in use, and raises its patron's outstanding count with LIMIT re-evaluated. While no bay is ARMED it is
PENDING at the tail of its class. R64, R65: where a bay is ARMED and no order waits, the lowest ARMED bay takes it
at once: the order is WRITING in that bay, and the bay's job is over the title's image. -/
def Obligations.CartridgeOrdersJoinTheQueue : Prop :=
  ∀ (s : State) (h : Header) (patron title priority size : Nat) (sel : Selector) (p : Patron), s.Takes .orderPlace h →
    patron ≠ 0 → title ≠ 0 → priority ≤ 1 → s.patron patron = some p → s.title title = some (.cartridge size sel) →
    s.holdsTitle patron title = false → p.deferred = [] → p.causes = ⟨false, false, false⟩ →
    s.book.orders.length + s.loans.loans.length < 4096 → s.book.orders.length < 512 → s.book.orders.wf = true →
    1 ≤ s.book.counter → s.book.counter ≤ 65535 →
    ∃ n, FirstFree 65535 s.book.orders s.book.counter n ∧
      ∀ prio orders rush patrons, prio = (if priority = 1 then Priority.rush else .standard) →
        orders = s.book.orders.put n ⟨patron, title, .cartridge, prio, s.clock.day, s.clock.second, .pending, 0, none,
          none, none, none, .noTag, none⟩ →
        (rush = fun m => (orders.look m).any (fun o => decide (o.priority = .rush))) →
        patrons = s.patrons.alter patron (fun p => { p with
          outstanding := p.outstanding + 1
          causes := { p.causes with
            limit := if p.outstanding + 1 = p.high then true
              else if p.outstanding + 1 ≤ p.restore then false else p.causes.limit } }) →
        ((∀ b < 32, (s.bay b).state ≠ .armed) →
          exec (.orderPlace h patron title priority) s = .next (({ s.clocked h with
            book :=
              { orders := orders
                counter := if n = 65535 then 1 else n + 1
                queue := if priority = 1 then s.book.queue.takeWhile rush ++ n :: s.book.queue.dropWhile rush
                  else s.book.queue ++ [n] }
            patrons := patrons }).answered .orderPlace h .accepted [u2 n] (some n))) ∧
        (∀ b r c k, s.book.queue = [] → b < 32 → s.bays.length = 32 → s.bay b = r → r.state = .armed →
          (∀ a < b, (s.bay a).state ≠ .armed) → r.cartridge = some c → s.cart c = some k →
          ∃ t : State, exec (.orderPlace h patron title priority) s =
              .next (t.answered .orderPlace h .accepted [u2 n] (some n)) ∧
            t.book.queue = [] ∧ t.patrons = patrons ∧
            (∃ q tag, t.order n = some ⟨patron, title, .cartridge, prio, s.clock.day, s.clock.second, .writing, 0,
              some c, some b, none, some q, tag, none⟩) ∧
            (∀ m, m ≠ n → t.order m = s.order m) ∧
            t.bay b = { r with state := .writing, job := some ⟨.write n sel, size, size⟩ } ∧
            (∀ a, a ≠ b → t.bay a = s.bay a) ∧
            t.cart c = some { k with
              state := .inBay, bound := .order n, writes := min 4095 (k.writes + 1), dirty := size } ∧
            (∀ a, a ≠ c → t.cart a = s.cart a) ∧ t.titles = s.titles ∧ t.rack = s.rack ∧ t.clock = s.clock ∧
            t.packing = s.packing ∧ t.loans = s.loans ∧ t.lane = s.lane ∧ t.pending = s.pending)

/-- R13, R7, R29, R30, R32: a braille order, under the first free number from the counter on, takes the
lowest-indexed copy on the shelf, is READY with its ready second and tag, and one PICK notice is queued for the
mail port; with no copy on the shelf it is WAITING_COPY at the tail of its class in the hold queue. -/
def Obligations.BrailleOrdersTakeACopyOrWait : Prop :=
  ∀ (s : State) (h : Header) (patron title priority : Nat) (copies : List Copy) (hold : List Nat) (p : Patron),
    s.Takes .orderPlace h → patron ≠ 0 → title ≠ 0 → priority ≤ 1 → s.patron patron = some p →
    s.title title = some (.braille copies hold) → s.titles.wf = true → s.holdsTitle patron title = false →
    p.deferred = [] → p.causes = ⟨false, false, false⟩ →
    s.book.orders.length + s.loans.loans.length < 4096 → s.book.orders.length < 512 → s.book.orders.wf = true →
    1 ≤ s.book.counter → s.book.counter ≤ 65535 →
    ∃ (n : Nat) (t : State), exec (.orderPlace h patron title priority) s = .next (t.answered .orderPlace h .accepted [u2 n] (some n)) ∧
      FirstFree 65535 s.book.orders s.book.counter n ∧
      (∀ m, m ≠ n → t.order m = s.order m) ∧
      t.patrons = s.patrons.alter patron Patron.gain ∧
      (∀ i, i < copies.length → copies.getD i .absent = .onShelf → (∀ j < i, copies.getD j .absent ≠ .onShelf) →
        t.title title = some (.braille (copies.set i (.allocated n)) (hold.filter (· != n))) ∧
        t.order n = some ⟨patron, title, .braille, if priority = 1 then .rush else .standard, s.clock.day,
          s.clock.second, .ready, 0, none, none, some i, some s.clock.second, s.clock.tagOf s.clock.second, none⟩ ∧
        t.ports = ((s.clocked h).raise .mail .pick n [u4 title, u1 i]).ports) ∧
      ((∀ c ∈ copies, c ≠ .onShelf) →
        t.title title = some (.braille copies (joinTail t.isRush n hold)) ∧
        t.order n = some ⟨patron, title, .braille, if priority = 1 then .rush else .standard, s.clock.day,
          s.clock.second, .waitingCopy, 0, none, none, none, none, .noTag, none⟩ ∧
        t.ports = (s.clocked h).ports) ∧
      (∀ m, m ≠ title → t.title m = s.title m) ∧ t.carts = s.carts ∧ t.bays = s.bays ∧ t.rack = s.rack ∧
      t.clock = s.clock ∧ t.packing = s.packing ∧ t.loans = s.loans ∧ t.lane = s.lane ∧ t.pending = s.pending ∧
      t.book.queue = s.book.queue

/-- R16, R17, Table 1-5: an accepted cancel for a patron with no deferred entry and no open container,
in the order states whose effect reaches no bay and no waiting order. The order leaves the book, and the
patron's outstanding count falls with LIMIT re-evaluated. -/
def Obligations.CancelsReleaseTheItem : Prop :=
  ∀ (s : State) (h : Header) (n : Nat) (o : Order) (p : Patron) (base : State), s.Takes .orderCancel h → n ≠ 0 →
    s.order n = some o → s.patron o.patron = some p → p.deferred = [] → p.openContainer = none →
    s.book.orders.wf = true → s.titles.wf = true →
    base = { s.clocked h with
      book := { s.book with orders := s.book.orders.drop n }
      patrons := s.patrons.alter o.patron (fun p => { p with
        outstanding := p.outstanding - 1
        causes := { p.causes with
          limit := if p.outstanding - 1 = p.high then true
            else if p.outstanding - 1 ≤ p.restore then false else p.causes.limit } }) } →
    (o.state = .pending → exec (.orderCancel h n) s =
      .next ((base.setQueue (s.book.queue.filter (· != n))).answered .orderCancel h .accepted
        [u3 o.patron, u1 (p.outstanding - 1)])) ∧
    (o.state = .stalled → exec (.orderCancel h n) s =
      .next (base.answered .orderCancel h .accepted [u3 o.patron, u1 (p.outstanding - 1)])) ∧
    (∀ copies hold, o.state = .waitingCopy → s.title o.title = some (.braille copies hold) →
      exec (.orderCancel h n) s =
        .next (({ base with titles := s.titles.put o.title (.braille copies (hold.filter (· != n))) }).answered
          .orderCancel h .accepted [u3 o.patron, u1 (p.outstanding - 1)])) ∧
    (∀ copies i, o.state = .ready → o.copy = some i → s.title o.title = some (.braille copies []) →
      exec (.orderCancel h n) s =
        .next (({ base with titles := s.titles.put o.title (.braille (copies.set i .onShelf) []) }).answered
          .orderCancel h .accepted [u3 o.patron, u1 (p.outstanding - 1)])) ∧
    (∀ c, o.state = .ready → o.copy = none → o.bay = none → o.serial = some c →
      exec (.orderCancel h n) s =
        .next (({ base with carts := { s.carts with
            table := s.carts.table.alter c (fun c => { c with state := .needsBlank, bound := .unbound })
            backlog := s.carts.backlog ++ [c] } }).answered
          .orderCancel h .accepted [u3 o.patron, u1 (p.outstanding - 1)])) ∧
    (o.state = .packed → exec (.orderCancel h n) s = .next ((s.clocked h).answered .orderCancel h .tooLate [u1 0]))

/-- R16, R66, R73, R80: a cancel of an order that is WRITING or VERIFYING, or READY with its cartridge still in a
DONE bay, blanks its cartridge in place: the bay is BLANKING with a BLANK job over the cartridge's extent rounded up
to 32-block units, with its BAY_JOB notice, and the cartridge is NEEDS_BLANK and unbound with its counts kept. Where
that aborts a job, the bay's enrolment ends and its grant in the outstanding slot has lost its job; a DONE bay has no
job to abort, and the rack stays. -/
def Obligations.CancelsBlankInPlace : Prop :=
  ∀ (s : State) (h : Header) (n b c : Nat) (o : Order) (p : Patron) (k : Cartridge) (r : Bay),
    s.Takes .orderCancel h → n ≠ 0 → s.order n = some o → o.bay = some b → b < 32 →
    s.bays.length = 32 → s.bay b = r → r.cartridge = some c →
    ((o.state = .writing ∨ o.state = .verifying) ∧ ∃ j ∈ r.job, j.kind.order = some n) ∨
      (o.state = .ready ∧ o.copy = none ∧ r.job = none) →
    s.cart c = some k → s.patron o.patron = some p → p.deferred = [] → p.openContainer = none →
    s.book.orders.wf = true →
    ∀ extent, extent = (k.dirty + 31) / 32 * 32 →
    ∃ t : State, exec (.orderCancel h n) s =
        .next (t.answered .orderCancel h .accepted [u3 o.patron, u1 (p.outstanding - 1)]) ∧
      t.order n = none ∧ (∀ m, m ≠ n → t.order m = s.order m) ∧ t.book.queue = s.book.queue ∧
      t.bay b = { r with state := .blanking, job := some ⟨.blank, extent, extent⟩ } ∧
      (∀ a, a ≠ b → t.bay a = s.bay a) ∧
      t.cart c = some { k with state := .needsBlank, bound := .unbound } ∧
      (∀ a, a ≠ c → t.cart a = s.cart a) ∧ t.carts.pool = s.carts.pool ∧ t.carts.backlog = s.carts.backlog ∧
      (r.job ≠ none → ∀ rd ∈ t.rack.round, ∀ e ∈ rd.entries, e.pair = b / 2 →
        (if b % 2 = 0 then e.even else e.odd) = false) ∧
      (r.job ≠ none → ∀ sl ∈ t.rack.slot, sl.pair = b / 2 → ∀ g, g = (if b % 2 = 0 then sl.even else sl.odd) →
        0 < g.blocks → g.lost = true) ∧
      (r.job = none → t.rack = s.rack) ∧
      t.rack.state = s.rack.state ∧ t.rack.slot.isSome = s.rack.slot.isSome ∧
      t.ports = ((s.clocked h).raise .rack .bayJob b [u1 2, u3 extent, u4 c]).ports ∧
      t.titles = s.titles ∧ t.clock = s.clock ∧ t.packing = s.packing ∧ t.loans = s.loans ∧ t.lane = s.lane

/-- R19, R9: a STALLED order retried while no bay is ARMED is PENDING at the tail of its class, with retry
count 0 and no bay, cartridge or projection. -/
def Obligations.RetriesRejoinTheQueue : Prop :=
  ∀ (s : State) (h : Header) (n : Nat) (o : Order), s.Takes .orderRetry h → n ≠ 0 → s.order n = some o →
    (o.state ≠ .stalled → exec (.orderRetry h n) s = .next ((s.clocked h).answered .orderRetry h .wrongState [u1 0])) ∧
    (o.state = .stalled → o.tag = .noTag → s.book.orders.wf = true → (∀ b < 32, (s.bay b).state ≠ .armed) →
      ∀ t, t = (s.clocked h).onOrder n (fun o => { o with
          state := .pending, retry := 0, bay := none, serial := none, ready := none, tag := .noTag }) →
        exec (.orderRetry h n) s = .next ((t.setQueue (joinTail t.isRush n s.book.queue)).answered
          .orderRetry h .accepted [] (some n)))

/-- R33, R34: TITLE_LOAD. -/
def Obligations.TitleLoadCreatesARecord : Prop :=
  ∀ (s : State) (h : Header) (title format size selector copies : Nat), s.Takes .titleLoad h →
    (title = 0 ∨ 1 < format ∨ (format = 0 ∧ 1 < selector) →
      ∃ f, exec (.titleLoad h title format size selector copies) s =
        .next ((s.clocked h).answered .titleLoad h .range [u1 f])) ∧
    (title ≠ 0 → (format = 1 ∨ (format = 0 ∧ selector ≤ 1)) →
      (s.titles.has title = true → ∃ f, exec (.titleLoad h title format size selector copies) s =
        .next ((s.clocked h).answered .titleLoad h .duplicate [u1 f])) ∧
      (s.titles.has title = false → 1024 ≤ s.titles.length →
        ∃ f, exec (.titleLoad h title format size selector copies) s =
          .next ((s.clocked h).answered .titleLoad h .full [u1 f])) ∧
      (s.titles.has title = false → s.titles.length < 1024 → format = 0 →
        ∀ stored, stored = (if size = 0 then 1 else if 65536 < size then 65536 else size) →
        exec (.titleLoad h title format size selector copies) s =
          .next (({ s.clocked h with
            titles := s.titles.put title
              (.cartridge stored (if selector = 1 then .b else .a)) }).answered .titleLoad h
            (if stored ≠ size then .clamped else .accepted) [u3 stored, u1 selector])) ∧
      (s.titles.has title = false → s.titles.length < 1024 → format = 1 →
        ∀ stored, stored = (if 64 < copies then 64 else copies) →
        exec (.titleLoad h title format size selector copies) s =
          .next (({ s.clocked h with
            titles := s.titles.put title
              (.braille (List.replicate stored Copy.onShelf ++ List.replicate (64 - stored) Copy.absent) []) }).answered
            .titleLoad h (if stored ≠ copies then .clamped else .accepted) [u1 stored])))

/-- R35: TITLE_SET of a cartridge title. A changed size is refused while an order of the title is WRITING
or VERIFYING; otherwise both fields are stored and nothing else changes. -/
def Obligations.TitleSetStoresSizeAndSelector : Prop :=
  ∀ (s : State) (h : Header) (title size selector copies old : Nat) (sel : Selector) (stored : Nat),
    s.Takes .titleSet h → title ≠ 0 → s.title title = some (.cartridge old sel) →
    stored = (if size = 0 then 1 else if 65536 < size then 65536 else size) →
    (1 < selector → exec (.titleSet h title size selector copies) s =
      .next ((s.clocked h).answered .titleSet h .range [u1 3])) ∧
    (selector ≤ 1 → stored ≠ old →
      (∃ e ∈ s.book.orders, e.2.title = title ∧ (e.2.state = .writing ∨ e.2.state = .verifying)) →
      exec (.titleSet h title size selector copies) s = .next ((s.clocked h).answered .titleSet h .wrongState [u1 0])) ∧
    (selector ≤ 1 → (stored = old ∨
        ∀ e ∈ s.book.orders, e.2.title = title → e.2.state ≠ .writing ∧ e.2.state ≠ .verifying) →
      exec (.titleSet h title size selector copies) s =
        .next (({ s.clocked h with
          titles := s.titles.alter title
            (fun _ => .cartridge stored (if selector = 1 then .b else .a)) }).answered .titleSet h
          (if stored ≠ size then .clamped else .accepted) [u3 stored, u1 selector]))

/-- R36, R37, R31: TITLE_SET of a braille title. Lowering copies_total is refused where too few copies are
on the shelf, and otherwise turns that many ON_SHELF entries ABSENT, the highest index first: an entry that
stays on the shelf stands below every entry withdrawn. Raising it while no order waits takes the ABSENT
entries in ascending index, each of which turns ON_SHELF. No other entry changes. R30, R32: raising it by one while
orders wait turns the lowest ABSENT entry into a copy that is at once ALLOCATED to the order at the head of the hold
queue, which is READY, with one PICK notice; the response counts one copy allocated. -/
def Obligations.TitleSetChangesTheCopyMap : Prop :=
  ∀ (s : State) (h : Header) (title size selector count total : Nat) (copies : List Copy) (hold : List Nat),
    s.Takes .titleSet h → title ≠ 0 → s.title title = some (.braille copies hold) → s.titles.wf = true →
    count ≤ 64 → total = copies.countP (fun c => decide (c ≠ Copy.absent)) →
    (copies.countP (fun c => decide (c = Copy.onShelf)) < total - count →
      exec (.titleSet h title size selector count) s = .next ((s.clocked h).answered .titleSet h .wrongState [u1 0])) ∧
    (count < total → total - count ≤ copies.countP (fun c => decide (c = Copy.onShelf)) →
      ∃ left : List Copy, exec (.titleSet h title size selector count) s =
          .next (({ s.clocked h with titles := s.titles.put title (.braille left hold) }).answered .titleSet h .accepted
            [u1 count, u1 (left.countP (fun c => decide (c = Copy.onShelf)))]) ∧
        left.length = copies.length ∧ left.countP (fun c => decide (c ≠ Copy.absent)) = count ∧
        (∀ i, left.getD i .absent = copies.getD i .absent ∨
          (copies.getD i .absent = .onShelf ∧ left.getD i .absent = .absent)) ∧
        (∀ i j, left.getD i .absent = .onShelf → copies.getD j .absent = .onShelf →
          left.getD j .absent = .absent → i < j)) ∧
    (total < count → hold = [] → copies.length = 64 → s.book.orders.wf = true →
      ∃ more : List Copy, exec (.titleSet h title size selector count) s =
          .next (({ s.clocked h with titles := s.titles.put title (.braille more []) }).answered .titleSet h .accepted
            [u1 count, u1 0]) ∧
        more.length = 64 ∧ more.countP (fun c => decide (c ≠ Copy.absent)) = count ∧
        (∀ i, more.getD i .absent = copies.getD i .absent ∨
          (copies.getD i .absent = .absent ∧ more.getD i .absent = .onShelf)) ∧
        (∀ i j, i < 64 → more.getD i .absent = .absent → copies.getD j .absent = .absent →
          more.getD j .absent = .onShelf → j < i)) ∧
    (∀ n rest o i, count = total + 1 → hold = n :: rest → n ∉ rest → s.order n = some o → o.tag = .noTag →
      s.book.orders.wf = true → copies.length = 64 → i < 64 → copies.getD i .onShelf = .absent →
      (∀ j < i, copies.getD j .absent ≠ .absent) →
      ∃ t : State, exec (.titleSet h title size selector count) s =
          .next (t.answered .titleSet h .accepted [u1 count, u1 1]) ∧
        t.title title = some (.braille (copies.set i (.allocated n)) rest) ∧
        (∀ a, a ≠ title → t.title a = s.title a) ∧
        t.order n = some { o with
          state := .ready, copy := some i, ready := some s.clock.second, tag := s.clock.tagOf s.clock.second } ∧
        (∀ m, m ≠ n → t.order m = s.order m) ∧ t.ports = ((s.clocked h).raise .mail .pick n [u4 title, u1 i]).ports ∧
        t.book.queue = s.book.queue ∧ t.patrons = s.patrons ∧ t.carts = s.carts ∧ t.bays = s.bays ∧ t.rack = s.rack ∧
        t.clock = s.clock ∧ t.packing = s.packing ∧ t.loans = s.loans ∧ t.lane = s.lane ∧ t.pending = s.pending)

/-- R38, R39: TITLE_DROP. It is refused while an order, a loan or a promised copy stands in its way; when
accepted the title leaves the catalogue, its entry leaves every deferred list that names it, one DEFERRED_DROPPED
notice for each such patron in ascending number, and no release pass runs. -/
def Obligations.TitleDropStripsDeferredLists : Prop :=
  ∀ (s : State) (h : Header) (title : Nat) (rec : Title), s.Takes .titleDrop h → title ≠ 0 →
    s.title title = some rec →
    ((∃ e ∈ s.book.orders, e.2.title = title) ∨ (∃ e ∈ s.loans.loans, e.2.title = title) ∨
        (∃ (copies : List Copy) (hold : List Nat), rec = .braille copies hold ∧ ∃ c ∈ copies, c ≠ .onShelf ∧ c ≠ .absent) →
      exec (.titleDrop h title) s = .next ((s.clocked h).answered .titleDrop h .wrongState [u1 0])) ∧
    ((∀ e ∈ s.book.orders, e.2.title ≠ title) → (∀ e ∈ s.loans.loans, e.2.title ≠ title) →
      (∀ (copies : List Copy) (hold : List Nat), rec = .braille copies hold → ∀ c ∈ copies, c = .onShelf ∨ c = .absent) →
      ∃ t : State, exec (.titleDrop h title) s = .next (t.answered .titleDrop h .accepted
          [u2 (s.patrons.countP (fun e => decide (title ∈ e.2.deferred)))]) ∧
        t.titles = s.titles.drop title ∧
        (∀ n, t.patron n = (s.patron n).map (fun p => { p with deferred := p.deferred.filter (· != title) })) ∧
        t.book = s.book ∧ t.carts = s.carts ∧ t.bays = s.bays ∧ t.rack = s.rack ∧ t.clock = s.clock ∧
        t.packing = s.packing ∧ t.loans = s.loans ∧ t.lane = s.lane ∧ t.pending = s.pending ∧
        (s.patrons.wf = true → t.unit .circulation =
          ((s.patrons.filter (fun e => decide (title ∈ e.2.deferred))).map (fun e => (⟨.deferredDropped, e.1,
            s.clock.second, [u4 title, u1 (e.2.deferred.filter (· != title)).length]⟩ : Notice))).foldl
              PortUnit.enqueue ((s.clocked h).unit .circulation)) ∧
        (∀ p, p ≠ .circulation → t.unit p = (s.clocked h).unit p))

/-- R49, R50, R51: CARTRIDGE_ADD and CARTRIDGE_DROP. -/
def Obligations.CartridgesAreAddedAndDropped : Prop :=
  ∀ (s : State) (h : Header) (serial : Nat),
    (s.Takes .cartridgeAdd h →
      (serial = 0 → exec (.cartridgeAdd h serial) s = .next ((s.clocked h).answered .cartridgeAdd h .range [u1 1])) ∧
      (serial ≠ 0 → s.carts.table.has serial = true → ∃ f, exec (.cartridgeAdd h serial) s =
        .next ((s.clocked h).answered .cartridgeAdd h .duplicate [u1 f])) ∧
      (serial ≠ 0 → s.carts.table.has serial = false → 4096 ≤ s.carts.table.length →
        exec (.cartridgeAdd h serial) s = .next ((s.clocked h).answered .cartridgeAdd h .full [u1 0])) ∧
      (serial ≠ 0 → s.carts.table.has serial = false → s.carts.table.length < 4096 →
        exec (.cartridgeAdd h serial) s = .next (({ s.clocked h with carts := { s.carts with
            table := s.carts.table.put serial ⟨.blank, 0, 0, 0, .unbound, none⟩
            pool := s.carts.pool ++ [serial] } }).answered .cartridgeAdd h .accepted [u2 (s.carts.pool.length + 1)]))) ∧
    (s.Takes .cartridgeDrop h →
      (serial = 0 → exec (.cartridgeDrop h serial) s = .next ((s.clocked h).answered .cartridgeDrop h .range [u1 1])) ∧
      (serial ≠ 0 → s.cart serial = none →
        exec (.cartridgeDrop h serial) s = .next ((s.clocked h).answered .cartridgeDrop h .notFound [u1 1])) ∧
      (∀ c, serial ≠ 0 → s.cart serial = some c →
        (c.state = .retired ∧ c.bay = none) ∨ (c.state = .blank ∧ c.bay = none ∧ serial ∈ s.carts.pool) →
        exec (.cartridgeDrop h serial) s = .next (({ s.clocked h with carts := { s.carts with
            table := s.carts.table.drop serial, pool := s.carts.pool.filter (· != serial) } }).answered
          .cartridgeDrop h .accepted [u2 (s.carts.table.drop serial).length])) ∧
      (∀ c, serial ≠ 0 → s.cart serial = some c →
        ¬ ((c.state = .retired ∧ c.bay = none) ∨ (c.state = .blank ∧ c.bay = none ∧ serial ∈ s.carts.pool)) →
        exec (.cartridgeDrop h serial) s = .next ((s.clocked h).answered .cartridgeDrop h .wrongState [u1 0])))

/-- R120, R121: CLOCK_SET stores the day and second, derives the mail day state, sets the lane's day counts to 0
and sweeps the loans where the day number changes, and leaves titles, cartridges, bays and rack. (The order of the
clock's fields in the response is log entry 12, and the two marks of the actions run are log entry 21.) R148, R147:
CIRC_SET stores each value held to its range, CLAMPED if one was changed. -/
def Obligations.TheClockAndTheCirculationSettingsAreSet : Prop :=
  (∀ (s : State) (h : Header) (day second : Nat), s.Takes .clockSet h →
      (86399 < second → exec (.clockSet h day second) s = .next ((s.clocked h).answered .clockSet h .range [u1 2])) ∧
      (second ≤ 86399 → ∀ state, state = deriveMailDay second (s.clock.cutoff - s.clock.margin) s.clock.cutoff →
        ∃ t : State, exec (.clockSet h day second) s = .next (t.answered .clockSet h .accepted
            [u2 s.clock.day, u3 s.clock.second, u1 s.clock.mailDay.code, u2 day, u3 second, u1 state.code,
              mark (decide (s.clock.mailDay = .day ∧ state ≠ .day)),
              mark (decide (s.clock.mailDay ≠ .afterCutoff ∧ state = .afterCutoff)), mark (decide (day ≠ s.clock.day))]) ∧
          t.clock = { s.clock with day := day, second := second, mailDay := state } ∧
          t.lane = (if day = s.clock.day then s.lane else { s.lane with returnsToday := 0, errorsToday := 0 }) ∧
          t.loans = { s.loans with
            loans := s.loans.loans.mapRecords (fun _ l =>
              if day ≠ s.clock.day ∧ l.state = .out ∧ l.dueDay + s.loans.grace < day then { l with state := .overdue }
              else l) } ∧
          (∀ n o, t.order n = some o → o.state = .ready → ∃ r, s.order n = some r ∧
            o.ready = some (if day = s.clock.day then min (orZero r.ready) second else 0)) ∧
          t.titles = s.titles ∧ t.carts = s.carts ∧ t.bays = s.bays ∧ t.rack = s.rack ∧ t.pending = s.pending)) ∧
  (∀ (s : State) (h : Header) (period grace wear reserve : Nat), s.Takes .circSet h →
      ∀ p g w r, p = (if period = 0 then 1 else if 365 < period then 365 else period) →
        g = (if 60 < grace then 60 else grace) → w = (if wear = 0 then 1 else if 4095 < wear then 4095 else wear) →
        r = (if 1024 < reserve then 1024 else reserve) →
        exec (.circSet h period grace wear reserve) s = .next (({ s.clocked h with
            loans := { s.loans with period := p, grace := g, wearLimit := w, poolReserve := r } }).answered .circSet h
          (if p = period ∧ g = grace ∧ w = wear ∧ r = reserve then .accepted else .clamped) [u2 p, u1 g, u2 w, u2 r]))

/-- R23, R24, R40: the queries of the circulation port report the record as it stands and change nothing.
(The marks and the absent fields written as 0 follow log entries 7 and 8; that the causes are sent as three marks,
LIMIT, OVERDUE, SUSPENDED, is log entry 21; the loan state's code in a response of Chapter 1 is log entry 12. The
place in a queue and the first day overdue are left open.) -/
def Obligations.CirculationQueriesReport : Prop :=
  ∀ (s : State) (h : Header),
    (s.Takes .patronQuery h → ∀ n p, n ≠ 0 → s.patron n = some p →
      exec (.patronQuery h n) s = .next ((s.clocked h).answered .patronQuery h .accepted
        ([u1 p.region, u1 p.high, u1 p.restore, u1 p.outstanding, u1 p.overdue, mark p.causes.limit,
          mark p.causes.overdue, mark p.causes.suspended, u1 p.deferred.length] ++ p.deferred.map u4 ++
          [u2 (p.openContainer.getD 0)]))) ∧
    (s.Takes .orderQuery h → ∀ n o patron title, s.order n = some o → n ≠ 0 → ∃ body,
      body.take 15 = [u2 n, u3 o.patron, u4 o.title, u1 o.format.code, u1 o.priority.code, u2 o.placedDay,
        u3 o.placedSecond, u1 o.state.code, u1 o.retry, u4 (o.serial.getD 0), u1 (o.bay.getD 0),
        u1 (o.copy.getD 0), u3 (o.ready.getD 0), u1 o.tag.code, u2 (o.container.getD 0)] ∧
      exec (.orderQuery h 0 n patron title) s = .next ((s.clocked h).answered .orderQuery h .accepted body) ∧
      (o.patron ≠ 0 → o.title ≠ 0 → (∀ e ∈ s.book.orders, e.2.patron = o.patron → e.2.title = o.title → e.1 = n) →
        exec (.orderQuery h 1 0 o.patron o.title) s =
          .next ((s.clocked h).answered .orderQuery h .accepted body))) ∧
    (s.Takes .loanQuery h → ∀ n l patron title, s.loan n = some l → n ≠ 0 → ∃ body,
      body.take 7 = [u2 n, u3 l.patron, u4 l.title,
        (match l.item with | .cartridge c => u4 c | .copy i => u1 i), u2 l.dispatchDay, u2 l.dueDay, u1 l.state.code] ∧
      exec (.loanQuery h 0 n patron title) s = .next ((s.clocked h).answered .loanQuery h .accepted body) ∧
      (l.patron ≠ 0 → l.title ≠ 0 → (∀ e ∈ s.loans.loans, e.2.patron = l.patron → e.2.title = l.title → e.1 = n) →
        exec (.loanQuery h 1 0 l.patron l.title) s =
          .next ((s.clocked h).answered .loanQuery h .accepted body))) ∧
    (s.Takes .titleQuery h → ∀ n size sel copy, n ≠ 0 → s.title n = some (.cartridge size sel) →
      exec (.titleQuery h n copy) s = .next ((s.clocked h).answered .titleQuery h .accepted
        [u1 0, u3 size, u1 sel.code, u2 (s.book.orders.countP (fun e => decide (e.2.title = n)))])) ∧
    (s.Takes .titleQuery h → ∀ n copies hold copy, n ≠ 0 → s.title n = some (.braille copies hold) →
      (63 < copy → exec (.titleQuery h n copy) s = .next ((s.clocked h).answered .titleQuery h .range [u1 2])) ∧
      (copy ≤ 63 → exec (.titleQuery h n copy) s = .next ((s.clocked h).answered .titleQuery h .accepted
        [u1 (copies.countP (fun c => decide (c ≠ Copy.absent))), u1 (copies.countP (fun c => decide (c = Copy.onShelf))),
          u1 (copies.countP (fun c => match c with | .allocated _ => true | _ => false)),
          u1 (copies.countP (fun c => match c with | .onLoan _ => true | _ => false)),
          u2 hold.length, u2 (hold.head?.getD 0), u2 (hold.getLast?.getD 0),
          u1 (copies.getD copy .absent).code,
          u2 (match copies.getD copy .absent with | .allocated m => m | .onLoan m => m | _ => 0)])))

/-! ### The clock settings and the bays (Chapters 3, 4, 7) -/

/-- R122, R108, R113, R115, R131: MAIL_SET stores its four values held to their ranges, derives the mail
day state anew, recomputes the projections with the present second and the new allowance, and leaves no
OPEN container whose running idle count has reached the new idle time. (The order of its idle
expiries is log entry 13, and the two marks of the actions run are log entry 21.) -/
def Obligations.MailSetStoresTheSettings : Prop :=
  ∀ (s : State) (h : Header) (cutoff margin idle allowance : Nat), s.Takes .mailSet h →
    ∀ c m i a state, c = (if 86399 < cutoff then 86399 else cutoff) → m = (if 7200 < margin then 7200 else margin) →
      i = (if 7200 < idle then 7200 else idle) → a = (if 3600 < allowance then 3600 else allowance) →
      state = deriveMailDay s.clock.second (c - m) c →
      ∃ t : State, exec (.mailSet h cutoff margin idle allowance) s = .next (t.answered .mailSet h
          (if c = cutoff ∧ m = margin ∧ i = idle ∧ a = allowance then .accepted else .clamped)
          [u3 c, u2 m, u2 i, u2 a, u3 (c - m), u1 s.clock.mailDay.code, u1 state.code,
            mark (decide (s.clock.mailDay = .day ∧ state ≠ .day)),
            mark (decide (s.clock.mailDay ≠ .afterCutoff ∧ state = .afterCutoff))]) ∧
        t.clock = { s.clock with cutoff := c, margin := m, mailDay := state } ∧
        t.packing.idleTime = i ∧ t.packing.allowance = a ∧
        (∀ n d, t.container n = some d → d.state = .opened → ∀ j ∈ d.idle, j < i) ∧
        (∀ n o, t.order n = some o → o.state = .verifying →
          o.ready = some (min 86400 (s.clock.second +
            ((s.rack.vt + 1) * 4 * ((s.image o.title + 255) / 256) + 499) / 500 + a))) ∧
        (∀ n o, t.order n = some o → o.state = .ready → ∃ r, s.order n = some r ∧
          o.ready = some (min (orZero r.ready) s.clock.second)) ∧
        t.packing.unbagged = s.packing.unbagged ∧ t.titles = s.titles ∧ t.carts = s.carts ∧ t.bays = s.bays ∧
        t.rack = s.rack ∧ t.loans = s.loans ∧ t.lane = s.lane ∧ t.pending = s.pending

/-- R53, R54, Table 3-4: the case that applies first, the cartridge it names with its write count and
dirty extent, and the four counts. NEXT_INSERT changes nothing. (That the fields of a cartridge that is not named are sent as 0 is log
entry 7.) -/
def Obligations.NextInsertNamesACartridge : Prop :=
  ∀ (s : State) (h : Header), s.Takes .nextInsert h →
    ∀ armed low counts, armed = ((List.range 32).filter (fun b => decide ((s.bay b).state = .armed))).length →
      (low ↔ s.carts.pool.length < s.loans.poolReserve ∨ s.book.queue.length ≤ armed) →
      counts = [u2 s.carts.pool.length, u2 s.carts.backlog.length, u2 s.book.queue.length, u1 armed] →
      (∀ c rest k, s.carts.backlog = c :: rest → s.cart c = some k → low →
        exec (.nextInsert h) s = .next ((s.clocked h).answered .nextInsert h .accepted
          ([u1 1, u4 c, u1 1, u2 k.writes, u3 k.dirty] ++ counts))) ∧
      (∀ c rest k, s.carts.pool = c :: rest → s.cart c = some k → (s.carts.backlog = [] ∨ ¬ low) →
        armed < s.book.queue.length →
        exec (.nextInsert h) s = .next ((s.clocked h).answered .nextInsert h .accepted
          ([u1 2, u4 c, u1 0, u2 k.writes, u3 k.dirty] ++ counts))) ∧
      (∀ c rest k, s.carts.backlog = c :: rest → s.cart c = some k → ¬ low → s.carts.pool = [] →
        exec (.nextInsert h) s = .next ((s.clocked h).answered .nextInsert h .accepted
          ([u1 3, u4 c, u1 1, u2 k.writes, u3 k.dirty] ++ counts))) ∧
      (s.carts.backlog = [] → (s.book.queue.length ≤ armed ∨ s.carts.pool = []) → s.cart 0 = none →
        exec (.nextInsert h) s = .next ((s.clocked h).answered .nextInsert h .none
          ([u1 4, u4 0, u1 0, u2 0, u3 0] ++ counts)))

/-- R61, R62, R63, R65, R45: what BAY_INSERT does with a bay that is not EMPTY, an unknown serial, a
cartridge in another state or with a bay, a worn cartridge, a BLANK one with no order waiting, a BLANK one
with an order at the head of the queue, and a NEEDS_BLANK one. (Which state and write count the response reports is
log entry 12; that the response of an ARMED bay leaves out the order number and the total that R62 gives for WRITING
is log entry 7.) -/
def Obligations.InsertedCartridgesArmBlankOrWrite : Prop :=
  ∀ (s : State) (h : Header) (b serial : Nat), s.Takes .bayInsert h → b < 32 → serial ≠ 0 → s.bays.length = 32 →
    s.book.orders.wf = true →
    ((s.bay b).state ≠ .empty →
      exec (.bayInsert h b serial) s = .next ((s.clocked h).answered .bayInsert h .wrongState [u1 0])) ∧
    ((s.bay b).state = .empty → s.cart serial = none →
      exec (.bayInsert h b serial) s = .next ((s.clocked h).answered .bayInsert h .notFound [u1 2])) ∧
    (∀ k, (s.bay b).state = .empty → s.cart serial = some k →
      ((k.state ≠ .blank ∧ k.state ≠ .needsBlank) ∨ k.bay ≠ none →
        exec (.bayInsert h b serial) s = .next ((s.clocked h).answered .bayInsert h .wrongState [u1 0])) ∧
      ((k.state = .blank ∨ k.state = .needsBlank) → k.bay = none → s.loans.wearLimit ≤ k.writes →
        exec (.bayInsert h b serial) s = .next (({ s.clocked h with carts :=
            { table := s.carts.table.alter serial (fun c => { c with state := .retired, bound := .unbound })
              pool := s.carts.pool.filter (· != serial), backlog := s.carts.backlog.filter (· != serial) } }).answered
          .bayInsert h .worn [u2 k.writes, u2 s.loans.wearLimit])) ∧
      (k.state = .blank → k.bay = none → k.writes < s.loans.wearLimit → s.book.queue = [] →
        exec (.bayInsert h b serial) s = .next (({ s.clocked h with
            carts :=
              { table := s.carts.table.alter serial (fun c => { c with bay := some b })
                pool := s.carts.pool.filter (· != serial), backlog := s.carts.backlog.filter (· != serial) }
            bays := s.bays.set b ⟨.armed, some serial, none, none, none⟩ }).answered
          .bayInsert h .accepted [u1 2, u2 k.writes])) ∧
      (∀ n rest o size sel, k.state = .blank → k.bay = none → k.writes < s.loans.wearLimit →
        s.book.queue = n :: rest → n ∉ rest → s.order n = some o → s.title o.title = some (.cartridge size sel) →
        (∀ a < 32, (s.bay a).state ≠ .armed) →
        ∃ t : State, exec (.bayInsert h b serial) s = .next (t.answered .bayInsert h .accepted
            [u1 3, u2 (min 4095 (k.writes + 1)), u2 n, u3 size]) ∧
          t.book.queue = rest ∧
          t.bay b = ⟨.writing, some serial, some ⟨.write n sel, size, size⟩, none, none⟩ ∧
          (∀ a, a ≠ b → t.bay a = s.bay a) ∧
          t.cart serial = some { k with
            state := .inBay, bay := some b, bound := .order n, writes := min 4095 (k.writes + 1), dirty := size } ∧
          (∀ a, a ≠ serial → t.cart a = s.cart a) ∧
          (∃ p tag, t.order n = some { o with
            state := .writing, bay := some b, serial := some serial, ready := some p, tag := tag }) ∧
          (∀ m, m ≠ n → t.order m = s.order m) ∧ t.titles = s.titles ∧ t.rack = s.rack ∧ t.clock = s.clock ∧
          t.loans = s.loans ∧ t.lane = s.lane ∧ t.pending = s.pending) ∧
      (k.state = .needsBlank → k.bay = none → k.writes < s.loans.wearLimit →
        ∀ extent, extent = (k.dirty + 31) / 32 * 32 →
        exec (.bayInsert h b serial) s = .next ((({ s.clocked h with
            carts :=
              { table := s.carts.table.alter serial (fun c => { c with bay := some b })
                pool := s.carts.pool.filter (· != serial), backlog := s.carts.backlog.filter (· != serial) }
            bays := s.bays.set b ⟨.blanking, some serial, some ⟨.blank, extent, extent⟩, none, none⟩ }).raise
              .rack .bayJob b [u1 2, u3 extent, u4 serial]).answered
          .bayInsert h .accepted [u1 1, u3 extent, u2 k.writes])))

/-- R74, R76, R79: the removals from a bay without a job, and the clearing of a FAULTED bay. (That the order number
which R74 adds for a DONE bay is left out for any other, and the fields of an absent aborted job sent as 0, are log
entry 7.) -/
def Obligations.BaysAreEmptiedAndCleared : Prop :=
  ∀ (s : State) (h : Header) (b : Nat) (r : Bay), b < 32 → s.bays.length = 32 → s.bay b = r →
    (s.Takes .bayRemove h →
      (r.state = .empty ∨ (r.state = .faulted ∧ r.cartridge = none) →
        exec (.bayRemove h b) s = .next ((s.clocked h).answered .bayRemove h .wrongState [u1 0])) ∧
      (∀ c, r.cartridge = some c → r.state = .armed →
        exec (.bayRemove h b) s = .next (({ s.clocked h with
            bays := s.bays.set b ⟨.empty, none, none, none, none⟩
            carts := { s.carts with
              table := s.carts.table.alter c (fun k => { k with bay := none }), pool := s.carts.pool ++ [c] } }).answered
          .bayRemove h .accepted [u4 c, u1 0])) ∧
      (∀ c k n, r.cartridge = some c → r.state = .done → s.cart c = some k → k.bound = .order n →
        exec (.bayRemove h b) s = .next (({ s.clocked h with
            bays := s.bays.set b ⟨.empty, none, none, none, none⟩
            carts := { s.carts with table := s.carts.table.alter c (fun k => { k with bay := none, state := .written }) }
            book := { s.book with orders := s.book.orders.alter n (fun o => { o with bay := none }) } }).answered
          .bayRemove h .accepted [u4 c, u1 1, u2 n])) ∧
      (∀ c, r.cartridge = some c → r.state = .eject →
        exec (.bayRemove h b) s = .next (({ s.clocked h with
            bays := s.bays.set b ⟨.empty, none, none, none, none⟩
            carts := { s.carts with table := s.carts.table.alter c (fun k => { k with bay := none }) } }).answered
          .bayRemove h .accepted [u4 c, u1 2])) ∧
      (∀ c, r.cartridge = some c → r.state = .faulted →
        exec (.bayRemove h b) s = .next (({ s.clocked h with
            bays := s.bays.set b { r with cartridge := none }
            carts := { s.carts with
              table := s.carts.table.alter c (fun k => { k with bay := none })
              backlog := s.carts.backlog ++ [c] } }).answered
          .bayRemove h .accepted [u4 c, u1 3]))) ∧
    (s.Takes .bayClear h →
      (r.state ≠ .faulted ∨ r.cartridge ≠ none →
        exec (.bayClear h b) s = .next ((s.clocked h).answered .bayClear h .wrongState [u1 0])) ∧
      (r.state = .faulted → r.cartridge = none →
        exec (.bayClear h b) s = .next (({ s.clocked h with
            bays := s.bays.set b ⟨.empty, none, none, none, none⟩ }).answered .bayClear h .accepted
          (u1 (faultCode r.fault) :: (match r.aborted with
            | some ⟨.write n _, total, remaining⟩ => [u1 1, u2 n, u3 total, u3 remaining]
            | some ⟨.blank, total, remaining⟩ => [u1 2, u2 0, u3 total, u3 remaining]
            | none => [u1 0, u2 0, u3 0, u3 0])))))

/-- R72, R73, R75, R77: a drive fault, and a removal in the middle of a job, abort the job. The bay is
FAULTED with the copy of the job, its enrolment has ended and a grant of the outstanding slot to it has
lost its job; the order of a WRITE job is PENDING at the head of its class; the partner bay is untouched. -/
def Obligations.FaultsAndRemovalsAbortTheJob : Prop :=
  ∀ (s : State) (h : Header) (b c : Nat) (r : Bay) (j : Job) (k : Cartridge), b < 32 → s.bays.length = 32 →
    s.bay b = r → r.state = .blanking ∨ r.state = .writing ∨ r.state = .verifying → r.cartridge = some c →
    r.job = some j → s.cart c = some k → s.book.orders.wf = true → (∀ a < 32, (s.bay a).state ≠ .armed) →
    (r.state = .blanking ↔ j.kind = .blank) →
    (∀ n sel, j.kind = .write n sel → ∃ o p, s.order n = some o ∧ s.patron o.patron = some p ∧ p.openContainer = none) →
    ∀ removed i, (removed = false ∧ i = .bayFault h b 1 ∧ s.Takes .bayFault h) ∨
        (removed = true ∧ i = .bayRemove h b ∧ s.Takes .bayRemove h) →
      ∃ (t : State) (kind : Kind) (body : List Field), exec i s = .next (t.answered kind h .accepted body) ∧
        t.bay b = { r with
          state := .faulted, cartridge := if removed then none else some c, job := none
          fault := some (if removed then .removedInJob else .drive), aborted := some j } ∧
        (∀ a, a ≠ b → t.bay a = s.bay a) ∧
        t.cart c = some { k with
          bay := if removed then none else k.bay
          state := if j.kind = .blank then k.state else .needsBlank
          bound := if j.kind = .blank then k.bound else .unbound } ∧
        (∀ a, a ≠ c → t.cart a = s.cart a) ∧ t.carts.pool = s.carts.pool ∧
        t.carts.backlog = (if removed then s.carts.backlog ++ [c] else s.carts.backlog) ∧
        (j.kind = .blank → t.book = s.book) ∧
        (∀ n sel o, j.kind = .write n sel → s.order n = some o →
          t.order n = some { o with
            state := .pending, bay := none, serial := none, ready := none, tag := .noTag } ∧
          (∀ m, m ≠ n → t.order m = s.order m) ∧ t.book.queue = joinHead s.isRush n s.book.queue) ∧
        (∀ rd ∈ t.rack.round, ∀ e ∈ rd.entries, e.pair = b / 2 → (if b % 2 = 0 then e.even else e.odd) = false) ∧
        (∀ sl ∈ t.rack.slot, sl.pair = b / 2 → ∀ g, g = (if b % 2 = 0 then sl.even else sl.odd) →
          0 < g.blocks → g.lost = true) ∧
        t.rack.state = s.rack.state ∧ t.rack.slot.isSome = s.rack.slot.isSome ∧
        t.ports = (s.clocked h).ports ∧ t.patrons = s.patrons ∧ t.titles = s.titles ∧ t.clock = s.clock ∧
        t.packing = s.packing ∧ t.loans = s.loans ∧ t.lane = s.lane ∧ t.pending = s.pending

/-- R69: a passed verification makes the bay DONE and the order READY at the present second. R70, R46: a failed one
raises the cartridge's failure count: the first blanks the cartridge in place, and the second retires it and leaves
the bay EJECT. R71: the first failure of the order sends it back to the head of its class at retry count 1, and the
second stalls it, with its ORDER_STALLED notice. Each of the four cases of cartridge and order is stated. (The state
codes of the responses are log entry 12.) -/
def Obligations.VerificationsPassOrFail : Prop :=
  ∀ (s : State) (h : Header) (b c n : Nat) (sel : Selector) (total rem : Nat) (r : Bay) (k : Cartridge) (o : Order),
    s.Takes .verifyDone h → b < 32 → s.bays.length = 32 → s.bay b = r →
    (r.state ≠ .verifying → ∀ result, result ≤ 1 →
      exec (.verifyDone h b result) s = .next ((s.clocked h).answered .verifyDone h .wrongState [u1 0])) ∧
    (r.state = .verifying → r.cartridge = some c → r.job = some ⟨.write n sel, total, rem⟩ → s.cart c = some k →
      s.order n = some o →
      (∃ t : State, exec (.verifyDone h b 0) s = .next (t.answered .verifyDone h .accepted [u2 n, u1 5]) ∧
        t.bay b = { r with state := .done, job := none } ∧ (∀ a, a ≠ b → t.bay a = s.bay a) ∧
        t.order n = some { o with
          state := .ready, ready := some s.clock.second, tag := s.clock.tagOf s.clock.second } ∧
        (∀ m, m ≠ n → t.order m = s.order m) ∧ t.book.queue = s.book.queue ∧ t.carts = s.carts ∧
        t.titles = s.titles ∧ t.rack = s.rack ∧ t.clock = s.clock ∧ t.packing.bags = s.packing.bags ∧
        t.loans = s.loans ∧ t.lane = s.lane ∧ t.pending = s.pending) ∧
      (∀ (worn stalled : Bool) (extent : Nat), k.failures = (if worn then 1 else 0) → o.retry = (if stalled then 1 else 0) →
        (∀ a < 32, (s.bay a).state ≠ .armed) → extent = (k.dirty + 31) / 32 * 32 →
        ∃ t : State, exec (.verifyDone h b 1) s = .next (t.answered .verifyDone h .accepted
            [u1 (if worn then 6 else 1), u1 (if worn then 2 else 1), u1 (if stalled then 6 else 0)]) ∧
          t.bay b = (if worn then { r with state := .eject, job := none }
            else { r with state := .blanking, job := some ⟨.blank, extent, extent⟩ }) ∧
          (∀ a, a ≠ b → t.bay a = s.bay a) ∧
          t.cart c = some { k with
            failures := if worn then 2 else 1, state := if worn then .retired else .needsBlank, bound := .unbound } ∧
          (∀ a, a ≠ c → t.cart a = s.cart a) ∧
          t.order n = some { o with
            state := if stalled then .stalled else .pending, retry := 1, bay := none, serial := none, ready := none
            tag := .noTag } ∧
          (∀ m, m ≠ n → t.order m = s.order m) ∧
          t.book.queue = (if stalled then s.book.queue else joinHead s.isRush n s.book.queue) ∧
          t.unit .circulation = (if stalled then ((s.clocked h).unit .circulation).enqueue
              ⟨.orderStalled, n, s.clock.second, [u3 o.patron, u4 o.title, u4 c]⟩
            else (s.clocked h).unit .circulation) ∧
          (worn = true → t.rack = s.rack) ∧ t.rack.state = s.rack.state ∧
          t.titles = s.titles ∧ t.clock = s.clock ∧ t.loans = s.loans ∧ t.lane = s.lane ∧ t.pending = s.pending))

/-! ### The rack (Chapter 5) -/

/-- R85, R86, R87, R102, R106: RACK_START, RACK_STOP and RACK_SET. (That RACK_STOP's response leaves out the pair and
the grants where no slot was abandoned is log entry 7.) -/
def Obligations.TheRackStartsStopsAndIsSet : Prop :=
  ∀ (s : State) (h : Header),
    (s.Takes .rackStart h →
      (s.rack.state = .running →
        exec (.rackStart h) s = .next ((s.clocked h).answered .rackStart h .wrongState [u1 0])) ∧
      (s.rack.state ≠ .running → ∀ round, round = (if s.rack.state = .stopped then none else s.rack.round) →
        ∃ t : State, exec (.rackStart h) s = .next (t.answered .rackStart h .accepted
            [u1 1, u1 s.rack.mode.code, u4 s.rack.roundNumber, mark round.isSome]) ∧
          t.rack = { s.rack with state := .running, round := round } ∧
          (∀ n o b j, s.order n = some o → o.state = .writing → o.bay = some b → (s.bay b).job = some j →
            ∃ p, t.order n = some { o with ready := some p, tag := s.clock.tagOf p } ∧
              p = min 86400 (s.clock.second + s.packing.allowance +
                ((j.remaining + s.rack.jobWidth j.kind - 1) / s.rack.jobWidth j.kind * s.roundTime +
                  (s.rack.vt + 1) * 4 * ((s.image o.title + 255) / 256) + 499) / 500)) ∧
          (∀ n o, s.order n = some o → o.state ≠ .writing → t.order n = some o) ∧
          t.titles = s.titles ∧ t.carts = s.carts ∧ t.bays = s.bays ∧ t.clock = s.clock ∧ t.loans = s.loans ∧
          t.lane = s.lane ∧ t.pending = s.pending)) ∧
    (s.Takes .rackStop h →
      (s.rack.state = .stopped → s.rack.slot = none →
        exec (.rackStop h) s = .next ((s.clocked h).answered .rackStop h .accepted [u1 0, mark false])) ∧
      (s.rack.state ≠ .stopped → ∃ t : State, exec (.rackStop h) s = .next (t.answered .rackStop h .accepted
          ([u1 s.rack.state.code, mark s.rack.slot.isSome] ++ (match s.rack.slot with
            | some sl => [u1 sl.pair, u1 sl.even.blocks, u1 sl.odd.blocks]
            | none => []))) ∧
        t.rack = { s.rack with state := .stopped, slot := none, round := none } ∧
        t.book = { s.book with
          orders := s.book.orders.mapRecords (fun _ o =>
            if o.state = .writing then { o with ready := some 86400, tag := .late } else o) } ∧
        t.titles = s.titles ∧ t.carts = s.carts ∧ t.bays = s.bays ∧ t.clock = s.clock ∧ t.loans = s.loans ∧
        t.lane = s.lane ∧ t.pending = s.pending)) ∧
    (s.Takes .rackSet h → ∀ a b sel vt mode,
      (1 < sel ∨ 1 < mode → exec (.rackSet h a b sel vt mode) s =
        .next ((s.clocked h).answered .rackSet h .range [u1 (if 1 < sel then 3 else 5)])) ∧
      (sel ≤ 1 → mode ≤ 1 → ∀ stored, stored = (if mode = 1 then Mode.continuous else Mode.single) →
        (s.rack.state = .running → stored ≠ s.rack.mode →
          exec (.rackSet h a b sel vt mode) s = .next ((s.clocked h).answered .rackSet h .wrongState [u1 0])) ∧
        (s.rack.state ≠ .running ∨ stored = s.rack.mode →
          ∀ wa wb, wa = (if a = 0 then 1 else a) → wb = (if b = 0 then 1 else b) →
          exec (.rackSet h a b sel vt mode) s = .next (({ s.clocked h with rack := { s.rack with
              widthA := wa, widthB := wb, blankSel := if sel = 1 then .b else .a, vt := vt, mode := stored } }).answered
            .rackSet h (if wa = a ∧ wb = b then .accepted else .clamped) [u1 wa, u1 wb, u1 sel, u1 vt, u1 mode]))))

/-- R91 to R94, R89: SLICE_NEXT on a rack that is not RUNNING or has a slot, with nothing to do, at the first
entry from the next one on that has an enrolled bay, at the start of a round, and at the end of a round in SINGLE
mode and, with no active job, in CONTINUOUS mode. (That the remaining count of a bay granted 0 is sent as 0 is log
entry 12; that an entry's place is counted from 1, and the mark of a bay granted 0, are log entry 8.) -/
def Obligations.SlicesAreGranted : Prop :=
  ∀ (s : State) (h : Header), s.Takes .sliceNext h → s.book.orders.wf = true →
    (s.rack.state ≠ .running ∨ s.rack.slot ≠ none →
      exec (.sliceNext h) s = .next ((s.clocked h).answered .sliceNext h .wrongState [u1 0])) ∧
    (s.rack.state = .running → s.rack.slot = none →
      (s.rack.round = none → (∀ b < 32, (s.bay b).active = false) →
        exec (.sliceNext h) s = .next ((s.clocked h).answered .sliceNext h .none [u4 s.rack.roundNumber, u1 0])) ∧
      (∀ rd, s.rack.round = some rd → s.rack.mode = .continuous → (∀ b < 32, (s.bay b).active = false) →
        (∀ x ∈ rd.entries.drop rd.next, x.even = false ∧ x.odd = false) →
        exec (.sliceNext h) s = .next (({ s.clocked h with rack := { s.rack with round := none } }).answered
          .sliceNext h .none [u4 s.rack.roundNumber, u1 0])) ∧
      (∀ rd e i, s.rack.round = some rd → rd.next ≤ i → rd.entries[i]? = some e → (e.even = true ∨ e.odd = true) →
        (∀ j x, rd.next ≤ j → j < i → rd.entries[j]? = some x → x.even = false ∧ x.odd = false) →
        ∃ even odd deadline remE remO,
          exec (.sliceNext h) s = .next (({ s.clocked h with rack := { s.rack with
              round := some { rd with next := i }
              slot := some ⟨e.pair, even, odd, s.clock.tick, s.clock.tick + deadline⟩ } }).answered .sliceNext h .accepted
            [u4 rd.number, u1 e.pair, u1 (i + 1), u1 rd.entries.length, u1 even.blocks,
              u1 (jobKindCode even.kind), u3 remE, u1 odd.blocks, u1 (jobKindCode odd.kind), u3 remO, u2 deadline]) ∧
          deadline = 2 * max even.blocks odd.blocks + 250 ∧
          (e.even = false → even = ⟨0, none, false⟩ ∧ remE = 0) ∧
          (e.odd = false → odd = ⟨0, none, false⟩ ∧ remO = 0) ∧
          (∀ j, e.even = true → (s.bay (2 * e.pair)).job = some j → 1 ≤ s.rack.jobWidth j.kind → 1 ≤ j.remaining →
            even = ⟨min (s.rack.jobWidth j.kind) j.remaining, some j.kind, false⟩ ∧ remE = j.remaining) ∧
          (∀ j, e.odd = true → (s.bay (2 * e.pair + 1)).job = some j → 1 ≤ s.rack.jobWidth j.kind → 1 ≤ j.remaining →
            odd = ⟨min (s.rack.jobWidth j.kind) j.remaining, some j.kind, false⟩ ∧ remO = j.remaining)) ∧
      (∀ e rest, s.rack.round = none ∨
          (∃ rd, s.rack.round = some rd ∧ s.rack.mode = .continuous ∧
            ∀ x ∈ rd.entries.drop rd.next, x.even = false ∧ x.odd = false) →
        (List.range 16).filterMap (fun k =>
          if (s.bay (2 * k)).active = true ∨ (s.bay (2 * k + 1)).active = true then
            some (⟨k, (s.bay (2 * k)).active, (s.bay (2 * k + 1)).active⟩ : Entry) else none) = e :: rest →
        ∀ number, number = (if 4294967295 ≤ s.rack.roundNumber then 1 else s.rack.roundNumber + 1) →
        ∃ (t : State) (body : List Field), exec (.sliceNext h) s = .next (t.answered .sliceNext h .accepted
            ([u4 number, u1 e.pair, u1 1, u1 (rest.length + 1)] ++ body)) ∧
          t.rack.round = some ⟨number, s.roundTime, e :: rest, 0, 0⟩ ∧ t.rack.roundNumber = number ∧
          (∃ sl, t.rack.slot = some sl ∧ sl.pair = e.pair ∧ sl.grantTick = s.clock.tick) ∧
          t.rack.state = .running ∧ t.bays = s.bays ∧ t.carts = s.carts ∧ t.titles = s.titles ∧ t.clock = s.clock ∧
          t.loans = s.loans ∧ t.lane = s.lane ∧ t.pending = s.pending) ∧
      (∀ rd, s.rack.round = some rd → s.rack.mode = .single →
        (∀ x ∈ rd.entries.drop rd.next, x.even = false ∧ x.odd = false) →
        ∃ t : State, exec (.sliceNext h) s = .next (t.answered .sliceNext h .none [u4 s.rack.roundNumber, u1 1]) ∧
          t.rack = { s.rack with state := .stopped, slot := none, round := none } ∧
          t.book = { s.book with
            orders := s.book.orders.mapRecords (fun _ o =>
              if o.state = .writing then { o with ready := some 86400, tag := .late } else o) } ∧
          t.bays = s.bays ∧ t.carts = s.carts ∧ t.titles = s.titles ∧ t.clock = s.clock ∧ t.loans = s.loans ∧
          t.lane = s.lane ∧ t.pending = s.pending))

/-- R95, R96: a report with no slot outstanding, with a count above a grant, and an accepted report in
which each bay was granted 0, has lost its job, or has its job's remaining count lowered and still above 0. -/
def Obligations.ReportsAreCredited : Prop :=
  ∀ (s : State) (h : Header) (even odd : Nat), s.Takes .sliceDone h →
    (s.rack.slot = none →
      exec (.sliceDone h even odd) s = .next ((s.clocked h).answered .sliceDone h .tooLate [u1 0])) ∧
    (∀ sl, s.rack.slot = some sl → s.clock.tick ≤ sl.deadline →
      (sl.even.blocks < even ∨ sl.odd.blocks < odd →
        exec (.sliceDone h even odd) s = .next ((s.clocked h).answered .sliceDone h .range
          [u1 (if sl.even.blocks < even then 1 else 2)])) ∧
      (∀ re ro, s.book.orders.wf = true → even ≤ sl.even.blocks → odd ≤ sl.odd.blocks →
        s.bay (2 * sl.pair) = re → s.bay (2 * sl.pair + 1) = ro →
        (sl.even.blocks = 0 ∨ sl.even.lost = true ∨ (even = sl.even.blocks ∧ even < re.remaining)) →
        (sl.odd.blocks = 0 ∨ sl.odd.lost = true ∨ (odd = sl.odd.blocks ∧ odd < ro.remaining)) →
        ∃ (t : State) (body : List Field), exec (.sliceDone h even odd) s = .next (t.answered .sliceDone h .accepted body) ∧
          body.length = 7 ∧
          t.rack = { s.rack with
            slot := none
            round := s.rack.round.map (fun rd => { rd with next := rd.next + 1, reported := rd.reported + 1 }) } ∧
          (∀ a, t.bay a = (if a = 2 * sl.pair ∧ sl.even.blocks ≠ 0 ∧ sl.even.lost = false then
              { re with job := re.job.map (fun j => { j with remaining := j.remaining - even }) }
            else if a = 2 * sl.pair + 1 ∧ sl.odd.blocks ≠ 0 ∧ sl.odd.lost = false then
              { ro with job := ro.job.map (fun j => { j with remaining := j.remaining - odd }) }
            else s.bay a)) ∧
          t.ports = (s.clocked h).ports ∧ t.patrons = s.patrons ∧ t.book = s.book ∧ t.titles = s.titles ∧
          t.carts = s.carts ∧ t.clock = s.clock ∧ t.packing = s.packing ∧ t.loans = s.loans ∧ t.lane = s.lane ∧
          t.pending = s.pending))

/-- R67, R68, R78, R95, R96: the reports that end a job, in either bay of the pair, the other being granted
0: a WRITE job completes and bay and order are VERIFYING; a BLANK job completes while no order waits and the
bay is ARMED; a short slice faults the bay with the lowered count on record, and that of a WRITE job unbinds its
cartridge, which is NEEDS_BLANK, and sends its order back to the head of its class (R72, R73). -/
def Obligations.ReportsEndJobs : Prop :=
  ∀ (s : State) (h : Header) (b count even odd : Nat) (sl : Slot) (g : Grant) (r : Bay) (j : Job),
    s.Takes .sliceDone h → b < 32 → s.bays.length = 32 → s.bay b = r → r.job = some j → s.rack.slot = some sl →
    s.clock.tick ≤ sl.deadline → sl.pair = b / 2 → s.book.orders.wf = true →
    (if b % 2 = 0 then sl.even = g ∧ sl.odd.blocks = 0 ∧ even = count ∧ odd = 0
      else sl.odd = g ∧ sl.even.blocks = 0 ∧ odd = count ∧ even = 0) →
    0 < g.blocks → g.lost = false →
    (∀ n sel o, j.kind = .write n sel → count = g.blocks → j.remaining = count → s.order n = some o →
      ∃ (t : State) (body : List Field), exec (.sliceDone h even odd) s = .next (t.answered .sliceDone h .accepted body) ∧
        t.bay b = { r with state := .verifying, job := some { j with remaining := 0 } } ∧
        (∀ a, a ≠ b → t.bay a = s.bay a) ∧
        (∃ p, t.order n = some { o with state := .verifying, ready := some p, tag := s.clock.tagOf p } ∧
          p = min 86400 (s.clock.second + s.packing.allowance +
            ((s.rack.vt + 1) * 4 * ((s.image o.title + 255) / 256) + 499) / 500)) ∧
        (∀ m, m ≠ n → t.order m = s.order m) ∧ t.book.queue = s.book.queue ∧ t.carts = s.carts ∧
        t.rack.slot = none ∧ t.rack.state = s.rack.state ∧ t.titles = s.titles ∧ t.clock = s.clock ∧
        t.loans = s.loans ∧ t.lane = s.lane ∧ t.pending = s.pending) ∧
    (∀ c k, j.kind = .blank → count = g.blocks → j.remaining = count → r.cartridge = some c → s.cart c = some k →
      s.book.queue = [] →
      ∃ (t : State) (body : List Field), exec (.sliceDone h even odd) s = .next (t.answered .sliceDone h .accepted body) ∧
        t.bay b = { r with state := .armed, job := none } ∧ (∀ a, a ≠ b → t.bay a = s.bay a) ∧
        t.cart c = some { k with state := .blank, dirty := 0 } ∧ (∀ a, a ≠ c → t.cart a = s.cart a) ∧
        t.book = s.book ∧ t.rack.slot = none ∧ t.rack.state = s.rack.state ∧ t.ports = (s.clocked h).ports ∧
        t.patrons = s.patrons ∧ t.titles = s.titles ∧ t.clock = s.clock ∧ t.packing = s.packing ∧
        t.loans = s.loans ∧ t.lane = s.lane ∧ t.pending = s.pending) ∧
    (j.kind = .blank → count < g.blocks →
      ∃ (t : State) (body : List Field), exec (.sliceDone h even odd) s = .next (t.answered .sliceDone h .accepted body) ∧
        t.bay b = { r with
          state := .faulted, job := none, fault := some .shortWrite
          aborted := some { j with remaining := j.remaining - count } } ∧
        (∀ a, a ≠ b → t.bay a = s.bay a) ∧ t.carts = s.carts ∧ t.book = s.book ∧ t.rack.slot = none ∧
        t.rack.state = s.rack.state ∧ t.ports = (s.clocked h).ports ∧ t.patrons = s.patrons ∧
        t.titles = s.titles ∧ t.clock = s.clock ∧ t.packing = s.packing ∧ t.loans = s.loans ∧ t.lane = s.lane ∧
        t.pending = s.pending) ∧
    (∀ n sel o p c k, j.kind = .write n sel → r.state = .writing → count < g.blocks → s.order n = some o →
      s.patron o.patron = some p → p.openContainer = none → r.cartridge = some c → s.cart c = some k →
      (∀ a < 32, (s.bay a).state ≠ .armed) →
      ∃ (t : State) (body : List Field), exec (.sliceDone h even odd) s = .next (t.answered .sliceDone h .accepted body) ∧
        t.bay b = { r with
          state := .faulted, job := none, fault := some .shortWrite
          aborted := some { j with remaining := j.remaining - count } } ∧
        (∀ a, a ≠ b → t.bay a = s.bay a) ∧
        t.cart c = some { k with state := .needsBlank, bound := .unbound } ∧ (∀ a, a ≠ c → t.cart a = s.cart a) ∧
        t.carts.pool = s.carts.pool ∧ t.carts.backlog = s.carts.backlog ∧
        t.order n = some { o with state := .pending, bay := none, serial := none, ready := none, tag := .noTag } ∧
        (∀ m, m ≠ n → t.order m = s.order m) ∧ t.book.queue = joinHead s.isRush n s.book.queue ∧
        (∀ rd ∈ t.rack.round, ∀ e ∈ rd.entries, e.pair = b / 2 → (if b % 2 = 0 then e.even else e.odd) = false) ∧
        t.rack.slot = none ∧ t.rack.state = s.rack.state ∧ t.patrons = s.patrons ∧ t.titles = s.titles ∧
        t.clock = s.clock ∧ t.packing = s.packing ∧ t.loans = s.loans ∧ t.lane = s.lane ∧ t.pending = s.pending)

/-! ### The mail port (Chapter 8) -/

/-- R127, R128, R129, R130: PACK_ITEM of an order's cartridge or copy. A cartridge joins its patron's OPEN
container, which closes at the third item; otherwise a new container is created under the first free number, and
closes within the event for a braille item or outside DAY. (That a copy reallocated by a cancel is packed for the
order that now holds it is R127's own test, against R18's row: log entry 29.) -/
def Obligations.ItemsArePacked : Prop :=
  ∀ (s : State) (h : Header) (item identity copy n : Nat) (o : Order) (p : Patron), s.Takes .packItem h →
    identity ≠ 0 → s.order n = some o → o.state = .ready → s.patron o.patron = some p → s.packing.idleTime ≠ 0 →
    (item = 0 ∧ o.format = .cartridge ∧ o.serial = some identity ∧
        (∃ k, s.cart identity = some k ∧ k.state = .written ∧ k.bound = .order n)) ∨
      (item = 1 ∧ copy ≤ 63 ∧ o.format = .braille ∧ o.serial = none ∧
        (∀ m, p.openContainer = some m → ∃ c, s.container m = some c ∧ c.held = false) ∧
        ∃ (copies : List Copy) (hold : List Nat), s.title identity = some (.braille copies hold) ∧ copies.getD copy .absent = .allocated n) →
    (∀ m c, item = 0 → p.openContainer = some m → s.container m = some c → c.state = .opened → c.braille = false →
      c.patron = o.patron → ∀ closes, closes = decide (3 ≤ c.items.length + 1) →
      ∃ t : State, exec (.packItem h item identity copy) s = .next (t.answered .packItem h .accepted
          [u2 m, u3 o.patron, u1 c.region, u2 n, u1 (c.items.length + 1), mark false, u1 (if closes then 1 else 0)]) ∧
        t.container m = some { c with
          items := c.items ++ [n], lastItem := s.clock.second, held := false
          state := if closes then .closed else .opened, idle := if closes then none else some 0 } ∧
        (∀ a, a ≠ m → t.container a = s.container a) ∧
        t.order n = some { o with state := .packed, container := some m } ∧ (∀ a, a ≠ n → t.order a = s.order a) ∧
        (∃ k, s.cart identity = some k ∧ t.cart identity = some { k with state := .packed }) ∧
        t.patron o.patron = some { p with openContainer := if closes then none else some m } ∧
        t.ports = (s.clocked h).ports ∧ t.titles = s.titles ∧ t.bays = s.bays ∧ t.rack = s.rack ∧
        t.clock = s.clock ∧ t.packing.bags = s.packing.bags ∧ t.loans = s.loans ∧ t.lane = s.lane) ∧
    ((item = 1 ∨ p.openContainer = none) → 256 ≤ s.packing.containers.length →
      exec (.packItem h item identity copy) s = .next ((s.clocked h).answered .packItem h .full [u1 0])) ∧
    ((item = 1 ∨ p.openContainer = none) → s.packing.containers.length < 256 → 1 ≤ s.packing.containerCounter →
      s.packing.containerCounter ≤ 65535 → s.packing.containers.wf = true →
      ∀ closes, closes = (decide (item = 1) || decide (s.clock.mailDay ≠ .day)) →
      ∃ (m : Nat) (t : State), exec (.packItem h item identity copy) s = .next (t.answered .packItem h .accepted
          [u2 m, u3 o.patron, u1 p.region, u2 n, u1 1, mark true, u1 (if closes then 1 else 0)]) ∧
        FirstFree 65535 s.packing.containers s.packing.containerCounter m ∧ t.packing.containerCounter = (if m = 65535 then 1 else m + 1) ∧
        t.container m = some ⟨o.patron, p.region, if closes then .closed else .opened, [n], decide (item = 1),
          s.clock.second, if closes then none else some 0, false, none⟩ ∧
        (∀ a, a ≠ m → t.container a = s.container a) ∧
        t.order n = some { o with state := .packed, container := some m } ∧ (∀ a, a ≠ n → t.order a = s.order a) ∧
        (item = 0 → ∃ k, s.cart identity = some k ∧ t.cart identity = some { k with state := .packed }) ∧
        (item = 1 → t.carts = s.carts) ∧
        t.patron o.patron = some { p with openContainer :=
          if item = 1 then p.openContainer else if closes then none else some m } ∧
        t.ports = (s.clocked h).ports ∧ t.titles = s.titles ∧ t.bays = s.bays ∧ t.rack = s.rack ∧
        t.clock = s.clock ∧ t.packing.bags = s.packing.bags ∧ t.loans = s.loans ∧ t.lane = s.lane)

/-- R130, R135: CONTAINER_CLOSE. -/
def Obligations.ContainersAreClosedByRequest : Prop :=
  ∀ (s : State) (h : Header) (n : Nat), s.Takes .containerClose h →
    (n = 0 → exec (.containerClose h n) s = .next ((s.clocked h).answered .containerClose h .range [u1 1])) ∧
    (n ≠ 0 → s.container n = none →
      exec (.containerClose h n) s = .next ((s.clocked h).answered .containerClose h .notFound [u1 1])) ∧
    (∀ c, n ≠ 0 → s.container n = some c → c.state ≠ .opened →
      exec (.containerClose h n) s = .next ((s.clocked h).answered .containerClose h .wrongState [u1 0])) ∧
    (∀ c, n ≠ 0 → s.container n = some c → c.state = .opened →
      exec (.containerClose h n) s = .next (({ s.clocked h with
          packing := { s.packing with
            containers := s.packing.containers.alter n
              (fun c => { c with state := .closed, idle := none, held := false }) }
          patrons := s.patrons.alter c.patron
            (fun p => if p.openContainer = some n then { p with openContainer := none } else p) }).answered
        .containerClose h .accepted [u3 c.patron, u1 c.region, u1 c.items.length]))

/-- R136, R137, R138: a CLOSED container joins its region's FILLING bag, which closes with a notice at the
24th, or a new bag, or waits where there is neither bag nor room; BAG_CLOSE closes a FILLING bag with its
flag clear and without a notice. (That a bag count is sent as 0 where there is no bag is log
entry 7.) -/
def Obligations.SealedContainersJoinBags : Prop :=
  ∀ (s : State) (h : Header) (n : Nat),
    (s.Takes .containerSealed h → n ≠ 0 → ∀ c, s.container n = some c →
      (c.state ≠ .closed →
        exec (.containerSealed h n) s = .next ((s.clocked h).answered .containerSealed h .wrongState [u1 0])) ∧
      (∀ b g, c.state = .closed → s.bag b = some g → g.region = c.region → g.state = .filling → n ∉ g.containers →
        s.packing.BagLaw → ∀ full, full = decide (24 ≤ g.containers.length + 1) →
        ∃ t : State, exec (.containerSealed h n) s = .next (t.answered .containerSealed h .accepted
            [u1 (if full then 4 else 2), u1 b, u1 (g.containers.length + 1), mark full]) ∧
          t.bag b = some { g with
            containers := g.containers ++ [n], state := if full then .closed else .filling
            atCutoff := if full then false else g.atCutoff } ∧
          (∀ a, a ≠ b → t.bag a = s.bag a) ∧
          t.container n = some { c with state := if full then .bagged else .sealed, bag := some b } ∧
          (∀ a d, a ≠ n → s.container a = some d → t.container a = some
            { d with state := if full = true ∧ a ∈ g.containers then .bagged else d.state }) ∧
          t.ports = (if full then ((s.clocked h).raise .mail .bagClosed b
            [u1 g.region, u1 24, mark false]).ports else (s.clocked h).ports) ∧
          t.packing.unbagged = s.packing.unbagged ∧ t.patrons = s.patrons ∧ t.book = s.book ∧ t.titles = s.titles ∧
          t.carts = s.carts ∧ t.bays = s.bays ∧ t.rack = s.rack ∧ t.clock = s.clock ∧ t.loans = s.loans ∧
          t.lane = s.lane ∧ t.pending = s.pending) ∧
      (c.state = .closed → (∀ e ∈ s.packing.bags, ¬ (e.2.region = c.region ∧ e.2.state = .filling)) →
        s.packing.bags.length < 16 → 1 ≤ s.packing.bagCounter → s.packing.bagCounter ≤ 255 →
        ∃ (b : Nat) (t : State), exec (.containerSealed h n) s = .next (t.answered .containerSealed h .accepted
            [u1 2, u1 b, u1 1, mark false]) ∧
          1 ≤ b ∧ b ≤ 255 ∧ s.bag b = none ∧ t.bag b = some ⟨c.region, .filling, [n], false⟩ ∧
          (∀ a, a ≠ b → t.bag a = s.bag a) ∧ t.container n = some { c with state := .sealed, bag := some b } ∧
          (∀ a, a ≠ n → t.container a = s.container a) ∧ t.ports = (s.clocked h).ports ∧
          t.packing.unbagged = s.packing.unbagged ∧ t.patrons = s.patrons ∧ t.book = s.book) ∧
      (c.state = .closed → (∀ e ∈ s.packing.bags, ¬ (e.2.region = c.region ∧ e.2.state = .filling)) →
        16 ≤ s.packing.bags.length → s.bag 0 = none →
        exec (.containerSealed h n) s = .next (({ s.clocked h with packing := { s.packing with
            containers := s.packing.containers.alter n (fun c => { c with state := .waitingBag })
            unbagged := s.packing.unbagged ++ [n] } }).answered
          .containerSealed h .accepted [u1 3, u1 0, u1 0, mark false]))) ∧
    (s.Takes .bagClose h → n ≠ 0 → ∀ g, s.bag n = some g →
      (g.state = .closed →
        exec (.bagClose h n) s = .next ((s.clocked h).answered .bagClose h .wrongState [u1 0])) ∧
      (g.state = .filling →
        ∃ t : State, exec (.bagClose h n) s = .next (t.answered .bagClose h .accepted [u1 g.region, u1 g.containers.length]) ∧
          t.bag n = some { g with state := .closed, atCutoff := false } ∧ (∀ a, a ≠ n → t.bag a = s.bag a) ∧
          (∀ a d, s.container a = some d → t.container a = some
            { d with state := if a ∈ g.containers then .bagged else d.state }) ∧
          t.packing.unbagged = s.packing.unbagged ∧ t.ports = (s.clocked h).ports ∧ t.patrons = s.patrons ∧
          t.book = s.book ∧ t.titles = s.titles ∧ t.carts = s.carts ∧ t.bays = s.bays ∧ t.rack = s.rack ∧
          t.clock = s.clock ∧ t.loans = s.loans ∧ t.lane = s.lane ∧ t.pending = s.pending))

/-- R140, R141, R48, R28: BAG_HANDED of a CLOSED bag. Bag, containers and orders leave their tables, no patron's
record changes, and one DISPATCHED notice is queued for the circulation port. R145, R144: the orders, container by
container as they joined the bag and item by item as they were placed, become loans under rising numbers from the
loan counter on, each dispatched today and due a loan period later, its cartridge or copy ON_LOAN; a loan of one item
takes the first free number where numbers are in use. R139: with 16 bags in the table, the bag that leaves makes room
for one, and the unbagged queue is drained from its head: the first container that waits opens the new bag of its
region, the second joins it if it is of that region and otherwise stays waiting. (The size of the drained count is log
entry 12.) -/
def Obligations.HandedBagsBecomeLoans : Prop :=
  ∀ (s : State) (h : Header) (n : Nat) (g : Bag), s.Takes .bagHanded h → n ≠ 0 → s.bag n = some g →
    (g.state = .filling →
      exec (.bagHanded h n) s = .next ((s.clocked h).answered .bagHanded h .wrongState [u1 0])) ∧
    (g.state = .closed →
      ∀ items, items = (g.containers.map (fun k => ((s.container k).map Container.items).getD [])).flatten →
      (s.packing.unbagged = [] →
      ∃ t : State, exec (.bagHanded h n) s = .next (t.answered .bagHanded h .accepted
          [u1 g.containers.length, u1 items.length, u1 0, u2 0]) ∧
        t.bag n = none ∧ (∀ a, a ≠ n → t.bag a = s.bag a) ∧
        (∀ k, t.container k = if k ∈ g.containers then none else s.container k) ∧
        (∀ m, t.order m = if m ∈ items then none else s.order m) ∧
        t.ports = ((s.clocked h).raise .circulation .dispatched n
          [u1 g.region, u1 g.containers.length, u1 items.length, mark g.atCutoff]).ports ∧
        t.packing.unbagged = [] ∧ t.patrons = s.patrons ∧ t.book.queue = s.book.queue ∧ t.bays = s.bays ∧
        t.rack = s.rack ∧ t.clock = s.clock ∧ t.lane = s.lane ∧ t.pending = s.pending ∧
        (∀ m o, items = [m] → s.order m = some o → s.loans.loans.length < 65535 → 1 ≤ s.loans.counter →
          s.loans.counter ≤ 65535 →
          ∃ l, FirstFree 65535 s.loans.loans s.loans.counter l ∧
            (∀ c k, o.format = .cartridge → o.serial = some c → s.cart c = some k →
              t.loans = { s.loans with
                loans := s.loans.loans.put l ⟨o.patron, o.title, .cartridge c, s.clock.day,
                  min 65535 (s.clock.day + s.loans.period), .out⟩
                counter := if l = 65535 then 1 else l + 1 } ∧
              t.cart c = some { k with state := .onLoan, bound := .loan l } ∧
              (∀ a, a ≠ c → t.cart a = s.cart a) ∧ t.titles = s.titles) ∧
            (∀ i copies hold, o.format = .braille → o.copy = some i → s.title o.title = some (.braille copies hold) →
              t.loans = { s.loans with
                loans := s.loans.loans.put l ⟨o.patron, o.title, .copy i, s.clock.day,
                  min 65535 (s.clock.day + s.loans.period), .out⟩
                counter := if l = 65535 then 1 else l + 1 } ∧
              t.title o.title = some (.braille (copies.set i (.onLoan l)) hold) ∧
              (∀ a, a ≠ o.title → t.title a = s.title a) ∧ t.carts = s.carts)) ∧
        (items.Nodup → (∀ m ∈ items, (s.order m).isSome = true) → 1 ≤ s.loans.counter →
          s.loans.counter + items.length ≤ 65535 → (∀ j < items.length, s.loan (s.loans.counter + j) = none) →
          t.loans.counter = s.loans.counter + items.length ∧
          (∀ l, (l < s.loans.counter ∨ s.loans.counter + items.length ≤ l) → t.loan l = s.loan l) ∧
          (∀ (j : Nat) (m : Nat) (o : Order), items[j]? = some m → s.order m = some o →
            (∀ c, o.format = .cartridge → o.serial = some c →
              t.loan (s.loans.counter + j) = some ⟨o.patron, o.title, .cartridge c, s.clock.day,
                min 65535 (s.clock.day + s.loans.period), .out⟩ ∧
              ((∀ a ∈ items, a ≠ m → ∀ x, s.order a = some x → x.format = .cartridge → x.serial ≠ some c ∧ x.serial ≠ none) →
                t.cart c = (s.cart c).map (fun k => { k with
                  state := .onLoan, bound := .loan (s.loans.counter + j) }))) ∧
            (∀ i, o.format = .braille → o.copy = some i →
              t.loan (s.loans.counter + j) = some ⟨o.patron, o.title, .copy i, s.clock.day,
                min 65535 (s.clock.day + s.loans.period), .out⟩ ∧
              (∀ copies hold, s.title o.title = some (.braille copies hold) → i < copies.length →
                (∀ a ∈ items, a ≠ m → ∀ x, s.order a = some x → x.format = .braille → x.title = o.title →
                  x.copy ≠ some i ∧ x.copy ≠ none) →
                ∃ left, t.title o.title = some (.braille left hold) ∧
                  left.getD i .absent = .onLoan (s.loans.counter + j)))))) ∧
      (∀ w₁ w₂ c₁ c₂ b, s.packing.unbagged = [w₁, w₂] → w₁ ≠ w₂ → w₁ ∉ g.containers → w₂ ∉ g.containers →
        s.container w₁ = some c₁ → s.container w₂ = some c₂ → s.packing.bags.wf = true → s.packing.bags.length = 16 →
        (∀ e ∈ s.packing.bags, e.2.state = .filling → e.2.region ≠ c₁.region ∧ e.2.region ≠ c₂.region) →
        1 ≤ s.packing.bagCounter → s.packing.bagCounter ≤ 255 →
        FirstFree 255 (s.packing.bags.drop n) s.packing.bagCounter b →
        ∀ both, both = decide (c₂.region = c₁.region) →
        ∃ t : State, exec (.bagHanded h n) s = .next (t.answered .bagHanded h .accepted
            [u1 g.containers.length, u1 items.length, u1 (if both then 2 else 1), u2 (if both then 0 else 1)]) ∧
          t.packing.unbagged = (if both then [] else [w₂]) ∧
          t.bag b = some ⟨c₁.region, .filling, if both then [w₁, w₂] else [w₁], false⟩ ∧
          (∀ a, a ≠ b → a ≠ n → t.bag a = s.bag a) ∧
          t.packing.bagCounter = (if b = 255 then 1 else b + 1) ∧
          t.container w₁ = some { c₁ with state := .sealed, bag := some b } ∧
          t.container w₂ = some (if both then { c₂ with state := .sealed, bag := some b } else c₂) ∧
          (∀ m, t.order m = if m ∈ items then none else s.order m) ∧ t.patrons = s.patrons ∧
          t.ports = ((s.clocked h).raise .circulation .dispatched n
            [u1 g.region, u1 g.containers.length, u1 items.length, mark g.atCutoff]).ports))

/-! ### The returns port (Chapter 9) -/

/-- R151, R153, R154, R155: a successful return for a patron with no deferred entry. The loan leaves the
table, the day's count rises, the patron's counts and causes follow, and the item goes to the backlog, out of
use, to the shelf or out of the copy map. (What the second return of a copy made ABSENT here is found to be is log
entry 30.) -/
def Obligations.ReturnsCloseLoans : Prop :=
  ∀ (s : State) (h : Header) (item identity copy condition n : Nat) (l : Loan) (p : Patron) (base : State) (q : Patron),
    s.Takes .returnItem h → identity ≠ 0 → condition ≤ 1 → s.lane.state = .running → s.loan n = some l →
    s.patron l.patron = some p → p.deferred = [] → s.book.orders.wf = true → s.titles.wf = true →
    q = { p with
      outstanding := p.outstanding - 1
      overdue := if l.state = .overdue then p.overdue - 1 else p.overdue
      causes := { p.causes with
        overdue := if l.state = .overdue ∧ p.overdue - 1 = 0 then false else p.causes.overdue
        limit := if p.outstanding - 1 = p.high then true else if p.outstanding - 1 ≤ p.restore then false
          else p.causes.limit } } →
    s.patrons.wf = true →
    base = { s.clocked h with
      patrons := s.patrons.put l.patron q
      loans := { s.loans with loans := s.loans.loans.drop n }
      lane := { s.lane with returnsToday := min 65535 (s.lane.returnsToday + 1) } } →
    (∀ k, item = 0 → l.item = .cartridge identity → s.cart identity = some k → k.state = .onLoan → k.bound = .loan n →
      (condition = 0 → k.writes < s.loans.wearLimit →
        ∃ body, exec (.returnItem h item identity copy condition) s = .next (({ base with carts := { s.carts with
            table := s.carts.table.alter identity (fun c => { c with state := .needsBlank, bound := .unbound })
            backlog := s.carts.backlog ++ [identity] } }).answered .returnItem h .accepted body)) ∧
      (condition = 1 ∨ s.loans.wearLimit ≤ k.writes →
        ∃ body, exec (.returnItem h item identity copy condition) s = .next (({ base with carts :=
            { table := s.carts.table.alter identity (fun c => { c with state := .retired, bound := .unbound })
              pool := s.carts.pool.filter (· != identity)
              backlog := s.carts.backlog.filter (· != identity) } }).answered .returnItem h .accepted body))) ∧
    (∀ copies hold, item = 1 → copy ≤ 63 → l.item = .copy copy → l.title = identity →
      s.title identity = some (.braille copies hold) → copies.getD copy .absent = .onLoan n →
      (condition = 0 → hold = [] →
        ∃ body, exec (.returnItem h item identity copy condition) s = .next (({ base with
            titles := s.titles.put identity (.braille (copies.set copy .onShelf) []) }).answered
          .returnItem h .accepted body)) ∧
      (condition = 1 →
        ∃ body, exec (.returnItem h item identity copy condition) s = .next (({ base with
            titles := s.titles.put identity (.braille (copies.set copy .absent) hold) }).answered
          .returnItem h .accepted body)))

/-- R150, R151, R152: a STOPPED lane refuses; an error is captured, or sets MORE where a capture stands,
raises the day's count, stops the lane unless its kind is masked, and changes no loan, item or patron. (The
marks of the response follow log entry 24; that a copy whose entry is ABSENT is UNKNOWN_ITEM also at the second return
of a DAMAGED copy, where R162's row says NOT_ON_LOAN, is log entry 30.) -/
def Obligations.ReturnErrorsStopTheLane : Prop :=
  ∀ (s : State) (h : Header) (item identity copy condition : Nat) (kind : ErrorKind) (given : GivenItem)
      (cond : Option Nat), s.Takes .returnItem h →
    (item = 2 ∧ kind = .unreadable ∧ given = .unreadable ∧ cond = none) ∨
      (item = 0 ∧ identity ≠ 0 ∧ condition ≤ 1 ∧ given = .cartridge identity ∧ cond = some condition ∧
        ((kind = .unknownItem ∧ s.cart identity = none) ∨
          (kind = .notOnLoan ∧ ∃ k, s.cart identity = some k ∧ k.state ≠ .onLoan))) ∨
      (item = 1 ∧ identity ≠ 0 ∧ copy ≤ 63 ∧ condition ≤ 1 ∧ given = .copy identity copy ∧ cond = some condition ∧
        ((kind = .unknownItem ∧ (s.title identity = none ∨ (∃ size sel, s.title identity = some (.cartridge size sel)) ∨
            ∃ (copies : List Copy) (hold : List Nat), s.title identity = some (.braille copies hold) ∧ copies.getD copy .absent = .absent)) ∨
          (kind = .notOnLoan ∧ ∃ copies hold, s.title identity = some (.braille copies hold) ∧
            (copies.getD copy .absent = .onShelf ∨ ∃ m, copies.getD copy .absent = .allocated m)))) →
    (s.lane.state = .stopped →
      exec (.returnItem h item identity copy condition) s =
        .next ((s.clocked h).answered .returnItem h .laneStopped [u1 0])) ∧
    (s.lane.state = .running → ∀ masked, masked = s.lane.mask.masks kind →
      ∃ t : State, exec (.returnItem h item identity copy condition) s = .next (t.answered .returnItem h .accepted
          [u1 kind.code, mark s.lane.capture.isNone, u1 (if masked then 0 else 1)]) ∧
        t.lane = { s.lane with
          state := if masked then .running else .stopped
          capture := some (s.lane.capture.getD ⟨kind, given, cond, s.clock.day, s.clock.second⟩)
          more := s.lane.capture.isSome || s.lane.more
          errorsToday := min 65535 (s.lane.errorsToday + 1) } ∧
        (∀ data subject noted, data = [u1 kind.code, u1 item] ++ (if item = 1 then [u1 copy] else []) ++
            [u1 (cond.getD 0), mark s.lane.capture.isNone, mark (!masked)] →
          subject = (if item = 2 then 0 else identity) →
          noted = (s.clocked h).raise .returns .returnError subject data →
          t.unit .circulation = ((s.clocked h).raise .circulation .returnError subject data).unit .circulation ∧
          t.unit .returns = (if masked then noted else
            noted.raise .returns .laneStopped s.clock.day [u1 kind.code]).unit .returns) ∧
        t.unit .rack = (s.clocked h).unit .rack ∧ t.unit .mail = (s.clocked h).unit .mail ∧
        t.patrons = s.patrons ∧ t.book = s.book ∧ t.titles = s.titles ∧ t.carts = s.carts ∧ t.bays = s.bays ∧
        t.rack = s.rack ∧ t.clock = s.clock ∧ t.packing = s.packing ∧ t.loans = s.loans ∧ t.pending = s.pending)

/-- R157, R158: LANE_CLEAR reports the lane as it stood, empties the capture, clears MORE and sets the lane
RUNNING; LANE_MASK stores the mask as the marks give it, in either lane state. (The mark before the capture, 1 for an
empty one, is log entry 8.) -/
def Obligations.TheLaneIsClearedAndMasked : Prop :=
  ∀ (s : State) (h : Header),
    (s.Takes .laneClear h → ∃ fields, (s.lane.capture = none → fields = [mark true]) ∧
      (∀ c, s.lane.capture = some c → fields = [mark false, u1 c.kind.code] ++ (match c.item with
          | .cartridge serial => [u1 0, u4 serial]
          | .copy title index => [u1 1, u4 title, u1 index]
          | .unreadable => [u1 2]) ++ [u1 (c.condition.getD 0), u2 c.day, u3 c.second]) ∧
      exec (.laneClear h) s = .next (({ s.clocked h with lane := { s.lane with
          state := .running, capture := none, more := false } }).answered .laneClear h .accepted
        ([u1 s.lane.state.code] ++ fields ++ [mark s.lane.more]))) ∧
    (s.Takes .laneMask h → ∀ a b c,
      (1 < a ∨ 1 < b ∨ 1 < c → exec (.laneMask h a b c) s = .next ((s.clocked h).answered .laneMask h .range
        [u1 (if 1 < a then 1 else if 1 < b then 2 else 3)])) ∧
      (a ≤ 1 → b ≤ 1 → c ≤ 1 → ∀ mask : StopMask, mask = ⟨decide (a = 1), decide (b = 1), decide (c = 1)⟩ →
        exec (.laneMask h a b c) s = .next (({ s.clocked h with lane := { s.lane with mask := mask } }).answered
          .laneMask h .accepted
          [mark mask.unreadable, mark mask.unknownItem, mark mask.notOnLoan, u1 s.lane.state.code])))

/-! ### The queries of every port (Chapters 3, 4, 5, 6, 8, 9, 10) -/

/-- R55, R81, R99, R111, R142, R159, R177: the queries of every port report the records as they stand, in
this order of fields, and change nothing. (Marks, places, absent fields and repeated fields follow log entries 7, 8,
11, 14 and 15, and the state codes are those of log entry 12.) -/
def Obligations.QueriesReportTheRecords : Prop :=
  ∀ (s : State) (h : Header),
    (s.Takes .status h → exec (.status h) s = .next ((s.clocked h).answered .status h .accepted
      [u2 s.clock.day, u3 s.clock.second, u1 s.clock.mailDay.code, u1 s.rack.state.code, u1 s.rack.mode.code,
        mark s.rack.slot.isSome, u1 s.lane.state.code, u2 s.patrons.length, u2 s.titles.length,
        u2 s.book.orders.length, u2 s.carts.table.length, u2 s.packing.containers.length,
        u1 s.packing.bags.length, u2 s.loans.loans.length, u2 s.book.queue.length, u2 s.carts.pool.length,
        u2 s.carts.backlog.length, u2 s.packing.unbagged.length,
        u1 ((List.range 32).filter (fun b => decide ((s.bay b).state = .armed))).length,
        u1 (s.unit h.port).notices.length, u1 (s.unit h.port).mode.code])) ∧
    (s.Takes .cartridgeQuery h → ∀ n k, n ≠ 0 → s.cart n = some k → ∃ place,
      exec (.cartridgeQuery h n) s = .next ((s.clocked h).answered .cartridgeQuery h .accepted
        [u4 n, u1 k.state.code, u2 k.writes, u1 k.failures, u3 k.dirty,
          u2 (match k.bound with | .unbound => 0 | .order m => m | .loan m => m),
          u1 (match k.bound with | .loan _ => 1 | _ => 0), u1 (k.bay.getD 0), mark k.bay.isNone, u2 place,
          mark (decide (s.loans.wearLimit ≤ k.writes))]) ∧
      (n ∉ s.carts.pool → n ∉ s.carts.backlog → place = 0) ∧
      (∀ i, s.carts.pool[i]? = some n → (∀ j < i, s.carts.pool[j]? ≠ some n) → n ∉ s.carts.backlog → place = i + 1) ∧
      (∀ i, s.carts.backlog[i]? = some n → (∀ j < i, s.carts.backlog[j]? ≠ some n) → n ∉ s.carts.pool →
        place = i + 1)) ∧
    (s.Takes .bayQuery h → ∀ b, b < 32 → ∀ r, s.bay b = r → ∃ job aborted sel order,
      exec (.bayQuery h b) s = .next ((s.clocked h).answered .bayQuery h .accepted
        ([u1 r.state.code, u4 (r.cartridge.getD 0)] ++ job ++ [u1 sel, u2 order, u1 (faultCode r.fault),
          mark r.fault.isNone] ++ aborted ++ [mark (s.rack.slot.any (fun sl => decide (sl.pair = b / 2)))])) ∧
      (r.job = none → job = [u1 0, u2 0, u3 0, u3 0] ∧ sel = 0) ∧
      (∀ n x total rem, r.job = some ⟨.write n x, total, rem⟩ →
        job = [u1 1, u2 n, u3 total, u3 rem] ∧ sel = x.code) ∧
      (∀ total rem, r.job = some ⟨.blank, total, rem⟩ →
        job = [u1 2, u2 0, u3 total, u3 rem] ∧ sel = s.rack.blankSel.code) ∧
      (r.state ≠ .done → order = 0) ∧
      (∀ c k n, r.state = .done → r.cartridge = some c → s.cart c = some k → k.bound = .order n → order = n) ∧
      (r.aborted = none → aborted = [u1 0, u2 0, u3 0, u3 0]) ∧
      (∀ n x total rem, r.aborted = some ⟨.write n x, total, rem⟩ → aborted = [u1 1, u2 n, u3 total, u3 rem]) ∧
      (∀ total rem, r.aborted = some ⟨.blank, total, rem⟩ → aborted = [u1 2, u2 0, u3 total, u3 rem])) ∧
    (s.Takes .rackQuery h → ∃ round slot,
      exec (.rackQuery h) s = .next ((s.clocked h).answered .rackQuery h .accepted
        ([u1 s.rack.state.code, u1 s.rack.mode.code, u1 s.rack.widthA, u1 s.rack.widthB, u1 s.rack.blankSel.code,
          u1 s.rack.vt, u1 s.rack.mode.code, u4 s.rack.roundNumber, mark s.rack.round.isSome] ++ round ++ slot)) ∧
      (s.rack.round = none → round = []) ∧ (s.rack.slot = none → slot = []) ∧
      (∀ rd, s.rack.round = some rd → round = [u2 rd.time, u1 rd.entries.length, u1 (rd.next + 1)] ++
        (rd.entries.map (fun e => [u1 e.pair, mark e.even, mark e.odd])).flatten) ∧
      (∀ sl, s.rack.slot = some sl → slot = [u1 sl.pair, u1 sl.even.blocks, u1 sl.odd.blocks,
        u1 (jobKindCode sl.even.kind), u1 (jobKindCode sl.odd.kind), mark sl.even.lost, mark sl.odd.lost,
        u2 (sl.deadline - s.clock.tick)])) ∧
    (s.Takes .projectionQuery h → ∀ n o, n ≠ 0 → s.order n = some o → ∃ extra,
      exec (.projectionQuery h n) s = .next ((s.clocked h).answered .projectionQuery h .accepted
        ([u1 o.state.code, u3 (o.ready.getD 0), mark o.ready.isNone, u1 o.tag.code, u3 o.patron] ++ extra ++
          [u3 s.clock.second, u1 s.clock.mailDay.code, u3 (s.clock.cutoff - s.clock.margin)])) ∧
      (∀ b j, (o.state = .writing ∨ o.state = .verifying) → o.copy = none → o.bay = some b →
        (s.bay b).job = some j → extra = [u1 b, u3 j.remaining]) ∧
      (∀ i, o.state ≠ .writing → o.state ≠ .verifying → o.copy = some i → extra = [u4 o.title, u1 i]) ∧
      (o.state ≠ .writing → o.state ≠ .verifying → o.copy = none → extra = [])) ∧
    (s.Takes .containerQuery h → ∀ n c, n ≠ 0 → s.container n = some c → ∃ rest,
      exec (.containerQuery h n) s = .next ((s.clocked h).answered .containerQuery h .accepted
        ([u2 n, u3 c.patron, u1 c.region, u1 c.state.code, u1 c.items.length] ++ c.items.map u2 ++
          [mark c.braille, u3 c.lastItem, u2 (c.idle.getD 0), mark c.held, u1 (c.bag.getD 0)] ++ rest)) ∧
      (∀ i, c.idle = some i → c.state ≠ .waitingBag → rest = [u2 (s.packing.idleTime - i)]) ∧
      (c.idle = none → c.state ≠ .waitingBag → rest = []) ∧
      (∀ i, c.idle = none → c.state = .waitingBag → s.packing.unbagged[i]? = some n →
        (∀ j < i, s.packing.unbagged[j]? ≠ some n) → rest = [u2 (i + 1)])) ∧
    (s.Takes .bagQuery h → ∀ n g, n ≠ 0 → s.bag n = some g →
      exec (.bagQuery h n) s = .next ((s.clocked h).answered .bagQuery h .accepted
        ([u1 g.region, u1 g.state.code, mark g.atCutoff, u1 g.containers.length] ++ g.containers.map u2))) ∧
    (s.Takes .laneQuery h → ∃ capture,
      exec (.laneQuery h) s = .next ((s.clocked h).answered .laneQuery h .accepted
        ([u1 s.lane.state.code] ++ capture ++ [mark s.lane.more, mark s.lane.mask.unreadable,
          mark s.lane.mask.unknownItem, mark s.lane.mask.notOnLoan, u2 s.lane.returnsToday, u2 s.lane.errorsToday,
          u2 s.loans.loans.length, u2 (s.loans.loans.countP (fun e => decide (e.2.state = .overdue)))])) ∧
      (s.lane.capture = none → capture = [mark true]) ∧
      (∀ kind item condition day second, s.lane.capture = some ⟨kind, item, condition, day, second⟩ →
        (∀ serial, item = .cartridge serial →
          capture = [mark false, u1 kind.code, u1 0, u4 serial, u1 (condition.getD 0), u2 day, u3 second]) ∧
        (∀ title index, item = .copy title index →
          capture = [mark false, u1 kind.code, u1 1, u4 title, u1 index, u1 (condition.getD 0), u2 day, u3 second]) ∧
        (item = .unreadable →
          capture = [mark false, u1 kind.code, u1 2, u1 (condition.getD 0), u2 day, u3 second])))
end

