-- ==== Sys2Proof/Laws/State.lean ====
section
/-! SUPPORT. The fields of a state after each named update: one lemma for each field, true by rfl. -/

namespace Sys2Proof.Machine

variable (s : State)

/-! ### onUnit -/

@[simp] theorem State.onUnit_pending (p : Port) (f : PortUnit → PortUnit) : (s.onUnit p f).pending = s.pending := rfl
@[simp] theorem State.onUnit_resetHeld (p : Port) (f : PortUnit → PortUnit) : (s.onUnit p f).resetHeld = s.resetHeld := rfl
@[simp] theorem State.onUnit_ports (p : Port) (f : PortUnit → PortUnit) : (s.onUnit p f).ports = s.ports.set p (f (s.ports.get p)) := rfl
@[simp] theorem State.onUnit_patrons (p : Port) (f : PortUnit → PortUnit) : (s.onUnit p f).patrons = s.patrons := rfl
@[simp] theorem State.onUnit_book (p : Port) (f : PortUnit → PortUnit) : (s.onUnit p f).book = s.book := rfl
@[simp] theorem State.onUnit_titles (p : Port) (f : PortUnit → PortUnit) : (s.onUnit p f).titles = s.titles := rfl
@[simp] theorem State.onUnit_carts (p : Port) (f : PortUnit → PortUnit) : (s.onUnit p f).carts = s.carts := rfl
@[simp] theorem State.onUnit_bays (p : Port) (f : PortUnit → PortUnit) : (s.onUnit p f).bays = s.bays := rfl
@[simp] theorem State.onUnit_rack (p : Port) (f : PortUnit → PortUnit) : (s.onUnit p f).rack = s.rack := rfl
@[simp] theorem State.onUnit_clock (p : Port) (f : PortUnit → PortUnit) : (s.onUnit p f).clock = s.clock := rfl
@[simp] theorem State.onUnit_packing (p : Port) (f : PortUnit → PortUnit) : (s.onUnit p f).packing = s.packing := rfl
@[simp] theorem State.onUnit_loans (p : Port) (f : PortUnit → PortUnit) : (s.onUnit p f).loans = s.loans := rfl
@[simp] theorem State.onUnit_lane (p : Port) (f : PortUnit → PortUnit) : (s.onUnit p f).lane = s.lane := rfl

/-! ### onPatron -/

@[simp] theorem State.onPatron_pending (n : Nat) (f : Patron → Patron) : (s.onPatron n f).pending = s.pending := rfl
@[simp] theorem State.onPatron_resetHeld (n : Nat) (f : Patron → Patron) : (s.onPatron n f).resetHeld = s.resetHeld := rfl
@[simp] theorem State.onPatron_ports (n : Nat) (f : Patron → Patron) : (s.onPatron n f).ports = s.ports := rfl
@[simp] theorem State.onPatron_patrons (n : Nat) (f : Patron → Patron) : (s.onPatron n f).patrons = s.patrons.alter n f := rfl
@[simp] theorem State.onPatron_book (n : Nat) (f : Patron → Patron) : (s.onPatron n f).book = s.book := rfl
@[simp] theorem State.onPatron_titles (n : Nat) (f : Patron → Patron) : (s.onPatron n f).titles = s.titles := rfl
@[simp] theorem State.onPatron_carts (n : Nat) (f : Patron → Patron) : (s.onPatron n f).carts = s.carts := rfl
@[simp] theorem State.onPatron_bays (n : Nat) (f : Patron → Patron) : (s.onPatron n f).bays = s.bays := rfl
@[simp] theorem State.onPatron_rack (n : Nat) (f : Patron → Patron) : (s.onPatron n f).rack = s.rack := rfl
@[simp] theorem State.onPatron_clock (n : Nat) (f : Patron → Patron) : (s.onPatron n f).clock = s.clock := rfl
@[simp] theorem State.onPatron_packing (n : Nat) (f : Patron → Patron) : (s.onPatron n f).packing = s.packing := rfl
@[simp] theorem State.onPatron_loans (n : Nat) (f : Patron → Patron) : (s.onPatron n f).loans = s.loans := rfl
@[simp] theorem State.onPatron_lane (n : Nat) (f : Patron → Patron) : (s.onPatron n f).lane = s.lane := rfl

/-! ### onOrder -/

@[simp] theorem State.onOrder_pending (n : Nat) (f : Order → Order) : (s.onOrder n f).pending = s.pending := rfl
@[simp] theorem State.onOrder_resetHeld (n : Nat) (f : Order → Order) : (s.onOrder n f).resetHeld = s.resetHeld := rfl
@[simp] theorem State.onOrder_ports (n : Nat) (f : Order → Order) : (s.onOrder n f).ports = s.ports := rfl
@[simp] theorem State.onOrder_patrons (n : Nat) (f : Order → Order) : (s.onOrder n f).patrons = s.patrons := rfl
@[simp] theorem State.onOrder_book (n : Nat) (f : Order → Order) : (s.onOrder n f).book = { s.book with orders := s.book.orders.alter n f } := rfl
@[simp] theorem State.onOrder_titles (n : Nat) (f : Order → Order) : (s.onOrder n f).titles = s.titles := rfl
@[simp] theorem State.onOrder_carts (n : Nat) (f : Order → Order) : (s.onOrder n f).carts = s.carts := rfl
@[simp] theorem State.onOrder_bays (n : Nat) (f : Order → Order) : (s.onOrder n f).bays = s.bays := rfl
@[simp] theorem State.onOrder_rack (n : Nat) (f : Order → Order) : (s.onOrder n f).rack = s.rack := rfl
@[simp] theorem State.onOrder_clock (n : Nat) (f : Order → Order) : (s.onOrder n f).clock = s.clock := rfl
@[simp] theorem State.onOrder_packing (n : Nat) (f : Order → Order) : (s.onOrder n f).packing = s.packing := rfl
@[simp] theorem State.onOrder_loans (n : Nat) (f : Order → Order) : (s.onOrder n f).loans = s.loans := rfl
@[simp] theorem State.onOrder_lane (n : Nat) (f : Order → Order) : (s.onOrder n f).lane = s.lane := rfl

/-! ### onOrders -/

@[simp] theorem State.onOrders_pending (f : Nat → Order → Order) : (s.onOrders f).pending = s.pending := rfl
@[simp] theorem State.onOrders_resetHeld (f : Nat → Order → Order) : (s.onOrders f).resetHeld = s.resetHeld := rfl
@[simp] theorem State.onOrders_ports (f : Nat → Order → Order) : (s.onOrders f).ports = s.ports := rfl
@[simp] theorem State.onOrders_patrons (f : Nat → Order → Order) : (s.onOrders f).patrons = s.patrons := rfl
@[simp] theorem State.onOrders_book (f : Nat → Order → Order) : (s.onOrders f).book = { s.book with orders := s.book.orders.mapRecords f } := rfl
@[simp] theorem State.onOrders_titles (f : Nat → Order → Order) : (s.onOrders f).titles = s.titles := rfl
@[simp] theorem State.onOrders_carts (f : Nat → Order → Order) : (s.onOrders f).carts = s.carts := rfl
@[simp] theorem State.onOrders_bays (f : Nat → Order → Order) : (s.onOrders f).bays = s.bays := rfl
@[simp] theorem State.onOrders_rack (f : Nat → Order → Order) : (s.onOrders f).rack = s.rack := rfl
@[simp] theorem State.onOrders_clock (f : Nat → Order → Order) : (s.onOrders f).clock = s.clock := rfl
@[simp] theorem State.onOrders_packing (f : Nat → Order → Order) : (s.onOrders f).packing = s.packing := rfl
@[simp] theorem State.onOrders_loans (f : Nat → Order → Order) : (s.onOrders f).loans = s.loans := rfl
@[simp] theorem State.onOrders_lane (f : Nat → Order → Order) : (s.onOrders f).lane = s.lane := rfl

/-! ### dropOrder -/

@[simp] theorem State.dropOrder_pending (n : Nat) : (s.dropOrder n).pending = s.pending := rfl
@[simp] theorem State.dropOrder_resetHeld (n : Nat) : (s.dropOrder n).resetHeld = s.resetHeld := rfl
@[simp] theorem State.dropOrder_ports (n : Nat) : (s.dropOrder n).ports = s.ports := rfl
@[simp] theorem State.dropOrder_patrons (n : Nat) : (s.dropOrder n).patrons = s.patrons := rfl
@[simp] theorem State.dropOrder_book (n : Nat) : (s.dropOrder n).book = { s.book with orders := s.book.orders.drop n } := rfl
@[simp] theorem State.dropOrder_titles (n : Nat) : (s.dropOrder n).titles = s.titles := rfl
@[simp] theorem State.dropOrder_carts (n : Nat) : (s.dropOrder n).carts = s.carts := rfl
@[simp] theorem State.dropOrder_bays (n : Nat) : (s.dropOrder n).bays = s.bays := rfl
@[simp] theorem State.dropOrder_rack (n : Nat) : (s.dropOrder n).rack = s.rack := rfl
@[simp] theorem State.dropOrder_clock (n : Nat) : (s.dropOrder n).clock = s.clock := rfl
@[simp] theorem State.dropOrder_packing (n : Nat) : (s.dropOrder n).packing = s.packing := rfl
@[simp] theorem State.dropOrder_loans (n : Nat) : (s.dropOrder n).loans = s.loans := rfl
@[simp] theorem State.dropOrder_lane (n : Nat) : (s.dropOrder n).lane = s.lane := rfl

/-! ### setQueue -/

@[simp] theorem State.setQueue_pending (q : List Nat) : (s.setQueue q).pending = s.pending := rfl
@[simp] theorem State.setQueue_resetHeld (q : List Nat) : (s.setQueue q).resetHeld = s.resetHeld := rfl
@[simp] theorem State.setQueue_ports (q : List Nat) : (s.setQueue q).ports = s.ports := rfl
@[simp] theorem State.setQueue_patrons (q : List Nat) : (s.setQueue q).patrons = s.patrons := rfl
@[simp] theorem State.setQueue_book (q : List Nat) : (s.setQueue q).book = { s.book with queue := q } := rfl
@[simp] theorem State.setQueue_titles (q : List Nat) : (s.setQueue q).titles = s.titles := rfl
@[simp] theorem State.setQueue_carts (q : List Nat) : (s.setQueue q).carts = s.carts := rfl
@[simp] theorem State.setQueue_bays (q : List Nat) : (s.setQueue q).bays = s.bays := rfl
@[simp] theorem State.setQueue_rack (q : List Nat) : (s.setQueue q).rack = s.rack := rfl
@[simp] theorem State.setQueue_clock (q : List Nat) : (s.setQueue q).clock = s.clock := rfl
@[simp] theorem State.setQueue_packing (q : List Nat) : (s.setQueue q).packing = s.packing := rfl
@[simp] theorem State.setQueue_loans (q : List Nat) : (s.setQueue q).loans = s.loans := rfl
@[simp] theorem State.setQueue_lane (q : List Nat) : (s.setQueue q).lane = s.lane := rfl

/-! ### onTitle -/

@[simp] theorem State.onTitle_pending (n : Nat) (f : Title → Title) : (s.onTitle n f).pending = s.pending := rfl
@[simp] theorem State.onTitle_resetHeld (n : Nat) (f : Title → Title) : (s.onTitle n f).resetHeld = s.resetHeld := rfl
@[simp] theorem State.onTitle_ports (n : Nat) (f : Title → Title) : (s.onTitle n f).ports = s.ports := rfl
@[simp] theorem State.onTitle_patrons (n : Nat) (f : Title → Title) : (s.onTitle n f).patrons = s.patrons := rfl
@[simp] theorem State.onTitle_book (n : Nat) (f : Title → Title) : (s.onTitle n f).book = s.book := rfl
@[simp] theorem State.onTitle_titles (n : Nat) (f : Title → Title) : (s.onTitle n f).titles = s.titles.alter n f := rfl
@[simp] theorem State.onTitle_carts (n : Nat) (f : Title → Title) : (s.onTitle n f).carts = s.carts := rfl
@[simp] theorem State.onTitle_bays (n : Nat) (f : Title → Title) : (s.onTitle n f).bays = s.bays := rfl
@[simp] theorem State.onTitle_rack (n : Nat) (f : Title → Title) : (s.onTitle n f).rack = s.rack := rfl
@[simp] theorem State.onTitle_clock (n : Nat) (f : Title → Title) : (s.onTitle n f).clock = s.clock := rfl
@[simp] theorem State.onTitle_packing (n : Nat) (f : Title → Title) : (s.onTitle n f).packing = s.packing := rfl
@[simp] theorem State.onTitle_loans (n : Nat) (f : Title → Title) : (s.onTitle n f).loans = s.loans := rfl
@[simp] theorem State.onTitle_lane (n : Nat) (f : Title → Title) : (s.onTitle n f).lane = s.lane := rfl

/-! ### onCart -/

@[simp] theorem State.onCart_pending (n : Nat) (f : Cartridge → Cartridge) : (s.onCart n f).pending = s.pending := rfl
@[simp] theorem State.onCart_resetHeld (n : Nat) (f : Cartridge → Cartridge) : (s.onCart n f).resetHeld = s.resetHeld := rfl
@[simp] theorem State.onCart_ports (n : Nat) (f : Cartridge → Cartridge) : (s.onCart n f).ports = s.ports := rfl
@[simp] theorem State.onCart_patrons (n : Nat) (f : Cartridge → Cartridge) : (s.onCart n f).patrons = s.patrons := rfl
@[simp] theorem State.onCart_book (n : Nat) (f : Cartridge → Cartridge) : (s.onCart n f).book = s.book := rfl
@[simp] theorem State.onCart_titles (n : Nat) (f : Cartridge → Cartridge) : (s.onCart n f).titles = s.titles := rfl
@[simp] theorem State.onCart_carts (n : Nat) (f : Cartridge → Cartridge) : (s.onCart n f).carts = { s.carts with table := s.carts.table.alter n f } := rfl
@[simp] theorem State.onCart_bays (n : Nat) (f : Cartridge → Cartridge) : (s.onCart n f).bays = s.bays := rfl
@[simp] theorem State.onCart_rack (n : Nat) (f : Cartridge → Cartridge) : (s.onCart n f).rack = s.rack := rfl
@[simp] theorem State.onCart_clock (n : Nat) (f : Cartridge → Cartridge) : (s.onCart n f).clock = s.clock := rfl
@[simp] theorem State.onCart_packing (n : Nat) (f : Cartridge → Cartridge) : (s.onCart n f).packing = s.packing := rfl
@[simp] theorem State.onCart_loans (n : Nat) (f : Cartridge → Cartridge) : (s.onCart n f).loans = s.loans := rfl
@[simp] theorem State.onCart_lane (n : Nat) (f : Cartridge → Cartridge) : (s.onCart n f).lane = s.lane := rfl

/-! ### joinPool -/

@[simp] theorem State.joinPool_pending (n : Nat) : (s.joinPool n).pending = s.pending := rfl
@[simp] theorem State.joinPool_resetHeld (n : Nat) : (s.joinPool n).resetHeld = s.resetHeld := rfl
@[simp] theorem State.joinPool_ports (n : Nat) : (s.joinPool n).ports = s.ports := rfl
@[simp] theorem State.joinPool_patrons (n : Nat) : (s.joinPool n).patrons = s.patrons := rfl
@[simp] theorem State.joinPool_book (n : Nat) : (s.joinPool n).book = s.book := rfl
@[simp] theorem State.joinPool_titles (n : Nat) : (s.joinPool n).titles = s.titles := rfl
@[simp] theorem State.joinPool_carts (n : Nat) : (s.joinPool n).carts = { s.carts with pool := s.carts.pool ++ [n] } := rfl
@[simp] theorem State.joinPool_bays (n : Nat) : (s.joinPool n).bays = s.bays := rfl
@[simp] theorem State.joinPool_rack (n : Nat) : (s.joinPool n).rack = s.rack := rfl
@[simp] theorem State.joinPool_clock (n : Nat) : (s.joinPool n).clock = s.clock := rfl
@[simp] theorem State.joinPool_packing (n : Nat) : (s.joinPool n).packing = s.packing := rfl
@[simp] theorem State.joinPool_loans (n : Nat) : (s.joinPool n).loans = s.loans := rfl
@[simp] theorem State.joinPool_lane (n : Nat) : (s.joinPool n).lane = s.lane := rfl

/-! ### joinBacklog -/

@[simp] theorem State.joinBacklog_pending (n : Nat) : (s.joinBacklog n).pending = s.pending := rfl
@[simp] theorem State.joinBacklog_resetHeld (n : Nat) : (s.joinBacklog n).resetHeld = s.resetHeld := rfl
@[simp] theorem State.joinBacklog_ports (n : Nat) : (s.joinBacklog n).ports = s.ports := rfl
@[simp] theorem State.joinBacklog_patrons (n : Nat) : (s.joinBacklog n).patrons = s.patrons := rfl
@[simp] theorem State.joinBacklog_book (n : Nat) : (s.joinBacklog n).book = s.book := rfl
@[simp] theorem State.joinBacklog_titles (n : Nat) : (s.joinBacklog n).titles = s.titles := rfl
@[simp] theorem State.joinBacklog_carts (n : Nat) : (s.joinBacklog n).carts = { s.carts with backlog := s.carts.backlog ++ [n] } := rfl
@[simp] theorem State.joinBacklog_bays (n : Nat) : (s.joinBacklog n).bays = s.bays := rfl
@[simp] theorem State.joinBacklog_rack (n : Nat) : (s.joinBacklog n).rack = s.rack := rfl
@[simp] theorem State.joinBacklog_clock (n : Nat) : (s.joinBacklog n).clock = s.clock := rfl
@[simp] theorem State.joinBacklog_packing (n : Nat) : (s.joinBacklog n).packing = s.packing := rfl
@[simp] theorem State.joinBacklog_loans (n : Nat) : (s.joinBacklog n).loans = s.loans := rfl
@[simp] theorem State.joinBacklog_lane (n : Nat) : (s.joinBacklog n).lane = s.lane := rfl

/-! ### leaveQueues -/

@[simp] theorem State.leaveQueues_pending (n : Nat) : (s.leaveQueues n).pending = s.pending := rfl
@[simp] theorem State.leaveQueues_resetHeld (n : Nat) : (s.leaveQueues n).resetHeld = s.resetHeld := rfl
@[simp] theorem State.leaveQueues_ports (n : Nat) : (s.leaveQueues n).ports = s.ports := rfl
@[simp] theorem State.leaveQueues_patrons (n : Nat) : (s.leaveQueues n).patrons = s.patrons := rfl
@[simp] theorem State.leaveQueues_book (n : Nat) : (s.leaveQueues n).book = s.book := rfl
@[simp] theorem State.leaveQueues_titles (n : Nat) : (s.leaveQueues n).titles = s.titles := rfl
@[simp] theorem State.leaveQueues_carts (n : Nat) : (s.leaveQueues n).carts = { s.carts with pool := s.carts.pool.filter (· != n), backlog := s.carts.backlog.filter (· != n) } := rfl
@[simp] theorem State.leaveQueues_bays (n : Nat) : (s.leaveQueues n).bays = s.bays := rfl
@[simp] theorem State.leaveQueues_rack (n : Nat) : (s.leaveQueues n).rack = s.rack := rfl
@[simp] theorem State.leaveQueues_clock (n : Nat) : (s.leaveQueues n).clock = s.clock := rfl
@[simp] theorem State.leaveQueues_packing (n : Nat) : (s.leaveQueues n).packing = s.packing := rfl
@[simp] theorem State.leaveQueues_loans (n : Nat) : (s.leaveQueues n).loans = s.loans := rfl
@[simp] theorem State.leaveQueues_lane (n : Nat) : (s.leaveQueues n).lane = s.lane := rfl

/-! ### setBay -/

@[simp] theorem State.setBay_pending (b : Nat) (r : Bay) : (s.setBay b r).pending = s.pending := rfl
@[simp] theorem State.setBay_resetHeld (b : Nat) (r : Bay) : (s.setBay b r).resetHeld = s.resetHeld := rfl
@[simp] theorem State.setBay_ports (b : Nat) (r : Bay) : (s.setBay b r).ports = s.ports := rfl
@[simp] theorem State.setBay_patrons (b : Nat) (r : Bay) : (s.setBay b r).patrons = s.patrons := rfl
@[simp] theorem State.setBay_book (b : Nat) (r : Bay) : (s.setBay b r).book = s.book := rfl
@[simp] theorem State.setBay_titles (b : Nat) (r : Bay) : (s.setBay b r).titles = s.titles := rfl
@[simp] theorem State.setBay_carts (b : Nat) (r : Bay) : (s.setBay b r).carts = s.carts := rfl
@[simp] theorem State.setBay_bays (b : Nat) (r : Bay) : (s.setBay b r).bays = s.bays.set b r := rfl
@[simp] theorem State.setBay_rack (b : Nat) (r : Bay) : (s.setBay b r).rack = s.rack := rfl
@[simp] theorem State.setBay_clock (b : Nat) (r : Bay) : (s.setBay b r).clock = s.clock := rfl
@[simp] theorem State.setBay_packing (b : Nat) (r : Bay) : (s.setBay b r).packing = s.packing := rfl
@[simp] theorem State.setBay_loans (b : Nat) (r : Bay) : (s.setBay b r).loans = s.loans := rfl
@[simp] theorem State.setBay_lane (b : Nat) (r : Bay) : (s.setBay b r).lane = s.lane := rfl

/-! ### onRack -/

@[simp] theorem State.onRack_pending (f : Scheduler → Scheduler) : (s.onRack f).pending = s.pending := rfl
@[simp] theorem State.onRack_resetHeld (f : Scheduler → Scheduler) : (s.onRack f).resetHeld = s.resetHeld := rfl
@[simp] theorem State.onRack_ports (f : Scheduler → Scheduler) : (s.onRack f).ports = s.ports := rfl
@[simp] theorem State.onRack_patrons (f : Scheduler → Scheduler) : (s.onRack f).patrons = s.patrons := rfl
@[simp] theorem State.onRack_book (f : Scheduler → Scheduler) : (s.onRack f).book = s.book := rfl
@[simp] theorem State.onRack_titles (f : Scheduler → Scheduler) : (s.onRack f).titles = s.titles := rfl
@[simp] theorem State.onRack_carts (f : Scheduler → Scheduler) : (s.onRack f).carts = s.carts := rfl
@[simp] theorem State.onRack_bays (f : Scheduler → Scheduler) : (s.onRack f).bays = s.bays := rfl
@[simp] theorem State.onRack_rack (f : Scheduler → Scheduler) : (s.onRack f).rack = f s.rack := rfl
@[simp] theorem State.onRack_clock (f : Scheduler → Scheduler) : (s.onRack f).clock = s.clock := rfl
@[simp] theorem State.onRack_packing (f : Scheduler → Scheduler) : (s.onRack f).packing = s.packing := rfl
@[simp] theorem State.onRack_loans (f : Scheduler → Scheduler) : (s.onRack f).loans = s.loans := rfl
@[simp] theorem State.onRack_lane (f : Scheduler → Scheduler) : (s.onRack f).lane = s.lane := rfl

/-! ### onContainer -/

@[simp] theorem State.onContainer_pending (n : Nat) (f : Container → Container) : (s.onContainer n f).pending = s.pending := rfl
@[simp] theorem State.onContainer_resetHeld (n : Nat) (f : Container → Container) : (s.onContainer n f).resetHeld = s.resetHeld := rfl
@[simp] theorem State.onContainer_ports (n : Nat) (f : Container → Container) : (s.onContainer n f).ports = s.ports := rfl
@[simp] theorem State.onContainer_patrons (n : Nat) (f : Container → Container) : (s.onContainer n f).patrons = s.patrons := rfl
@[simp] theorem State.onContainer_book (n : Nat) (f : Container → Container) : (s.onContainer n f).book = s.book := rfl
@[simp] theorem State.onContainer_titles (n : Nat) (f : Container → Container) : (s.onContainer n f).titles = s.titles := rfl
@[simp] theorem State.onContainer_carts (n : Nat) (f : Container → Container) : (s.onContainer n f).carts = s.carts := rfl
@[simp] theorem State.onContainer_bays (n : Nat) (f : Container → Container) : (s.onContainer n f).bays = s.bays := rfl
@[simp] theorem State.onContainer_rack (n : Nat) (f : Container → Container) : (s.onContainer n f).rack = s.rack := rfl
@[simp] theorem State.onContainer_clock (n : Nat) (f : Container → Container) : (s.onContainer n f).clock = s.clock := rfl
@[simp] theorem State.onContainer_packing (n : Nat) (f : Container → Container) : (s.onContainer n f).packing = { s.packing with containers := s.packing.containers.alter n f } := rfl
@[simp] theorem State.onContainer_loans (n : Nat) (f : Container → Container) : (s.onContainer n f).loans = s.loans := rfl
@[simp] theorem State.onContainer_lane (n : Nat) (f : Container → Container) : (s.onContainer n f).lane = s.lane := rfl

/-! ### onBag -/

@[simp] theorem State.onBag_pending (n : Nat) (f : Bag → Bag) : (s.onBag n f).pending = s.pending := rfl
@[simp] theorem State.onBag_resetHeld (n : Nat) (f : Bag → Bag) : (s.onBag n f).resetHeld = s.resetHeld := rfl
@[simp] theorem State.onBag_ports (n : Nat) (f : Bag → Bag) : (s.onBag n f).ports = s.ports := rfl
@[simp] theorem State.onBag_patrons (n : Nat) (f : Bag → Bag) : (s.onBag n f).patrons = s.patrons := rfl
@[simp] theorem State.onBag_book (n : Nat) (f : Bag → Bag) : (s.onBag n f).book = s.book := rfl
@[simp] theorem State.onBag_titles (n : Nat) (f : Bag → Bag) : (s.onBag n f).titles = s.titles := rfl
@[simp] theorem State.onBag_carts (n : Nat) (f : Bag → Bag) : (s.onBag n f).carts = s.carts := rfl
@[simp] theorem State.onBag_bays (n : Nat) (f : Bag → Bag) : (s.onBag n f).bays = s.bays := rfl
@[simp] theorem State.onBag_rack (n : Nat) (f : Bag → Bag) : (s.onBag n f).rack = s.rack := rfl
@[simp] theorem State.onBag_clock (n : Nat) (f : Bag → Bag) : (s.onBag n f).clock = s.clock := rfl
@[simp] theorem State.onBag_packing (n : Nat) (f : Bag → Bag) : (s.onBag n f).packing = { s.packing with bags := s.packing.bags.alter n f } := rfl
@[simp] theorem State.onBag_loans (n : Nat) (f : Bag → Bag) : (s.onBag n f).loans = s.loans := rfl
@[simp] theorem State.onBag_lane (n : Nat) (f : Bag → Bag) : (s.onBag n f).lane = s.lane := rfl

/-! ### raise and clocked: both change one port unit -/

@[simp] theorem State.raise_pending (p : Port) (k : NoticeKind) (n : Nat) (d : List Field) : (s.raise p k n d).pending = s.pending := rfl
@[simp] theorem State.clocked_pending (h : Header) : (s.clocked h).pending = s.pending := rfl
@[simp] theorem State.raise_resetHeld (p : Port) (k : NoticeKind) (n : Nat) (d : List Field) : (s.raise p k n d).resetHeld = s.resetHeld := rfl
@[simp] theorem State.clocked_resetHeld (h : Header) : (s.clocked h).resetHeld = s.resetHeld := rfl
@[simp] theorem State.raise_ports (p : Port) (k : NoticeKind) (n : Nat) (d : List Field) : (s.raise p k n d).ports = s.ports.set p ((s.ports.get p).enqueue ⟨k, n, s.clock.second, d⟩) := rfl
@[simp] theorem State.clocked_ports (h : Header) : (s.clocked h).ports = s.ports.set h.port ((s.ports.get h.port).clockOut h.clocked) := rfl
@[simp] theorem State.raise_patrons (p : Port) (k : NoticeKind) (n : Nat) (d : List Field) : (s.raise p k n d).patrons = s.patrons := rfl
@[simp] theorem State.clocked_patrons (h : Header) : (s.clocked h).patrons = s.patrons := rfl
@[simp] theorem State.raise_book (p : Port) (k : NoticeKind) (n : Nat) (d : List Field) : (s.raise p k n d).book = s.book := rfl
@[simp] theorem State.clocked_book (h : Header) : (s.clocked h).book = s.book := rfl
@[simp] theorem State.raise_titles (p : Port) (k : NoticeKind) (n : Nat) (d : List Field) : (s.raise p k n d).titles = s.titles := rfl
@[simp] theorem State.clocked_titles (h : Header) : (s.clocked h).titles = s.titles := rfl
@[simp] theorem State.raise_carts (p : Port) (k : NoticeKind) (n : Nat) (d : List Field) : (s.raise p k n d).carts = s.carts := rfl
@[simp] theorem State.clocked_carts (h : Header) : (s.clocked h).carts = s.carts := rfl
@[simp] theorem State.raise_bays (p : Port) (k : NoticeKind) (n : Nat) (d : List Field) : (s.raise p k n d).bays = s.bays := rfl
@[simp] theorem State.clocked_bays (h : Header) : (s.clocked h).bays = s.bays := rfl
@[simp] theorem State.raise_rack (p : Port) (k : NoticeKind) (n : Nat) (d : List Field) : (s.raise p k n d).rack = s.rack := rfl
@[simp] theorem State.clocked_rack (h : Header) : (s.clocked h).rack = s.rack := rfl
@[simp] theorem State.raise_clock (p : Port) (k : NoticeKind) (n : Nat) (d : List Field) : (s.raise p k n d).clock = s.clock := rfl
@[simp] theorem State.clocked_clock (h : Header) : (s.clocked h).clock = s.clock := rfl
@[simp] theorem State.raise_packing (p : Port) (k : NoticeKind) (n : Nat) (d : List Field) : (s.raise p k n d).packing = s.packing := rfl
@[simp] theorem State.clocked_packing (h : Header) : (s.clocked h).packing = s.packing := rfl
@[simp] theorem State.raise_loans (p : Port) (k : NoticeKind) (n : Nat) (d : List Field) : (s.raise p k n d).loans = s.loans := rfl
@[simp] theorem State.clocked_loans (h : Header) : (s.clocked h).loans = s.loans := rfl
@[simp] theorem State.raise_lane (p : Port) (k : NoticeKind) (n : Nat) (d : List Field) : (s.raise p k n d).lane = s.lane := rfl
@[simp] theorem State.clocked_lane (h : Header) : (s.clocked h).lane = s.lane := rfl

/-! ### Port units -/

@[simp] theorem Ports.get_set_same (ps : Ports) (p : Port) (u : PortUnit) : (ps.set p u).get p = u := by
  cases p <;> rfl

theorem Ports.get_set_other (ps : Ports) {p q : Port} (u : PortUnit) (hne : q ≠ p) : (ps.set p u).get q = ps.get q := by
  cases p <;> cases q <;> first | rfl | exact absurd rfl hne

@[simp] theorem Ports.set_set (ps : Ports) (p : Port) (u v : PortUnit) : (ps.set p u).set p v = ps.set p v := by
  cases p <;> rfl

@[simp] theorem State.unit_onUnit_same (p : Port) (f : PortUnit → PortUnit) : (s.onUnit p f).unit p = f (s.unit p) := by
  cases p <;> rfl

theorem State.unit_onUnit_other {p q : Port} (f : PortUnit → PortUnit) (hne : q ≠ p) :
    (s.onUnit p f).unit q = s.unit q :=
  Ports.get_set_other _ _ hne

theorem State.onUnit_onUnit (p : Port) (f g : PortUnit → PortUnit) :
    (s.onUnit p f).onUnit p g = s.onUnit p (fun u => g (f u)) := by
  cases p <;> rfl

end Sys2Proof.Machine
end

