-- ==== Sys2Proof/Laws/Table.lean ====
section
/-! SUPPORT. Tables of records: the canonical form is kept by every operation, what a look finds after
each operation, and how many records there are. -/

namespace Sys2Proof.Machine

variable {α : Type} (t : Table α)

/-- The canonical form as a proposition. -/
theorem Table.wf_iff : t.wf = true ↔ t.Pairwise (fun a b => a.1 < b.1) := by
  simp [Table.wf]

@[simp] theorem Table.wf_nil : Table.wf ([] : Table α) = true := by
  simp [Table.wf]

/-! ### Which records a table holds after an operation -/

theorem Table.mem_put {n : Nat} {v : α} {e : Nat × α} (h : e ∈ t.put n v) : e = (n, v) ∨ e ∈ t := by
  induction t with
  | nil => simpa [Table.put] using h
  | cons a rest ih =>
    obtain ⟨k, w⟩ := a
    simp only [Table.put] at h
    split at h
    · simpa using h
    · split at h
      · rcases List.mem_cons.1 h with h | h
        · exact .inl h
        · exact .inr (List.mem_cons_of_mem _ h)
      · rcases List.mem_cons.1 h with h | h
        · exact .inr (h ▸ List.mem_cons_self)
        · rcases ih h with h | h
          · exact .inl h
          · exact .inr (List.mem_cons_of_mem _ h)

theorem Table.mem_drop {n : Nat} {e : Nat × α} (h : e ∈ t.drop n) : e ∈ t ∧ e.1 ≠ n := by
  simpa [Table.drop] using h

theorem Table.mem_mapRecords {f : Nat → α → α} {e : Nat × α} (h : e ∈ t.mapRecords f) :
    ∃ v, (e.1, v) ∈ t ∧ e.2 = f e.1 v := by
  obtain ⟨a, ha, rfl⟩ := List.mem_map.1 h
  exact ⟨a.2, ha, rfl⟩

/-- A record after one is altered: the altered one, or one that was there. -/
theorem Table.mem_alter {n : Nat} {f : α → α} {e : Nat × α} (h : e ∈ t.alter n f) :
    (∃ v, (n, v) ∈ t ∧ e = (n, f v)) ∨ (e ∈ t ∧ e.1 ≠ n) := by
  obtain ⟨v, hv, he⟩ := t.mem_mapRecords h
  obtain ⟨k, w⟩ := e
  simp only at hv he
  by_cases hk : k = n
  · subst hk
    exact .inl ⟨v, hv, by simpa using he⟩
  · simp only [hk, if_false] at he
    exact .inr ⟨he ▸ hv, hk⟩

theorem Table.mem_of_look {n : Nat} {v : α} (h : t.look n = some v) : (n, v) ∈ t := by
  induction t with
  | nil => simp [Table.look] at h
  | cons a rest ih =>
    obtain ⟨k, w⟩ := a
    simp only [Table.look] at h
    split at h
    · next hk => cases h; simp [hk]
    · exact List.mem_cons_of_mem _ (ih h)

theorem Table.look_of_mem {n : Nat} {v : α} (hw : t.wf = true) (h : (n, v) ∈ t) : t.look n = some v := by
  induction t with
  | nil => cases h
  | cons a rest ih =>
    obtain ⟨k, w⟩ := a
    obtain ⟨hlt, hw⟩ := List.pairwise_cons.1 ((Table.wf_iff _).1 hw)
    rcases List.mem_cons.1 h with h | h
    · cases h; simp [Table.look]
    · have := hlt _ h
      simp only [Table.look, show k ≠ n by simp only at this; omega, if_false]
      exact ih ((Table.wf_iff _).2 hw) h

/-! ### The canonical form is kept -/

theorem Table.wf_put (n : Nat) (v : α) (hw : t.wf = true) : (t.put n v).wf = true := by
  induction t with
  | nil => simp [Table.put, Table.wf]
  | cons a rest ih =>
    obtain ⟨k, w⟩ := a
    obtain ⟨hlt, hr⟩ := List.pairwise_cons.1 ((Table.wf_iff _).1 hw)
    simp only [Table.put]
    rw [Table.wf_iff]
    split
    · next h =>
      refine List.pairwise_cons.2 ⟨?_, (Table.wf_iff _).1 hw⟩
      rintro e he
      rcases List.mem_cons.1 he with rfl | he
      · exact h
      · exact lt_trans h (hlt _ he)
    · split
      · next h => subst h; exact List.pairwise_cons.2 ⟨hlt, hr⟩
      · refine List.pairwise_cons.2 ⟨?_, (Table.wf_iff _).1 (ih ((Table.wf_iff _).2 hr))⟩
        intro e he
        rcases Table.mem_put _ he with rfl | he
        · simp only; omega
        · exact hlt _ he

theorem Table.wf_drop (n : Nat) (hw : t.wf = true) : (t.drop n).wf = true := by
  rw [Table.wf_iff] at *
  exact hw.filter _

theorem Table.wf_mapRecords (f : Nat → α → α) (hw : t.wf = true) : (t.mapRecords f).wf = true := by
  rw [Table.wf_iff] at *
  exact List.pairwise_map.2 (hw.imp (fun h => h))

theorem Table.wf_alter (n : Nat) (f : α → α) (hw : t.wf = true) : (t.alter n f).wf = true :=
  t.wf_mapRecords _ hw

/-! ### What a look finds -/

@[simp] theorem Table.look_put_same (n : Nat) (v : α) : (t.put n v).look n = some v := by
  induction t with
  | nil => simp [Table.put, Table.look]
  | cons a rest ih =>
    obtain ⟨k, w⟩ := a
    simp only [Table.put]
    split
    · simp [Table.look]
    · split
      · simp [Table.look]
      · next h => simp [Table.look, Ne.symm h, ih]

theorem Table.look_put_other {n m : Nat} (v : α) (hne : m ≠ n) : (t.put n v).look m = t.look m := by
  induction t with
  | nil => simp [Table.put, Table.look, Ne.symm hne]
  | cons a rest ih =>
    obtain ⟨k, w⟩ := a
    simp only [Table.put]
    split
    · simp [Table.look, Ne.symm hne]
    · split
      · next h => subst h; simp [Table.look, Ne.symm hne]
      · simp [Table.look, ih]

@[simp] theorem Table.look_drop_same (n : Nat) : (t.drop n).look n = none := by
  cases h : (t.drop n).look n with
  | none => rfl
  | some v => exact absurd rfl (t.mem_drop (Table.mem_of_look _ h)).2

theorem Table.look_drop_other {n m : Nat} (hne : m ≠ n) : (t.drop n).look m = t.look m := by
  induction t with
  | nil => rfl
  | cons a rest ih =>
    obtain ⟨k, w⟩ := a
    by_cases hk : k = n
    · subst hk
      simpa [Table.drop, Table.look, Ne.symm hne] using ih
    · by_cases hm : k = m
      · simp [Table.drop, Table.look, hm, hne]
      · simpa [Table.drop, Table.look, hk, hm] using ih

@[simp] theorem Table.look_mapRecords (f : Nat → α → α) (n : Nat) :
    (t.mapRecords f).look n = (t.look n).map (f n) := by
  induction t with
  | nil => rfl
  | cons a rest ih =>
    obtain ⟨k, w⟩ := a
    by_cases hk : k = n
    · subst hk; simp [Table.mapRecords, Table.look]
    · simpa [Table.mapRecords, Table.look, hk] using ih

@[simp] theorem Table.look_alter_same (n : Nat) (f : α → α) : (t.alter n f).look n = (t.look n).map f := by
  simp [Table.alter]

theorem Table.look_alter_other {n m : Nat} (f : α → α) (hne : m ≠ n) : (t.alter n f).look m = t.look m := by
  simp [Table.alter, hne]

theorem Table.has_iff (n : Nat) : t.has n = true ↔ ∃ v, t.look n = some v := by
  simp [Table.has, Option.isSome_iff_exists]

/-! ### How many records -/

theorem Table.length_put_le (n : Nat) (v : α) : (t.put n v).length ≤ t.length + 1 := by
  induction t with
  | nil => simp [Table.put]
  | cons a rest ih =>
    obtain ⟨k, w⟩ := a
    simp only [Table.put]
    split
    · simp
    · split <;> simp <;> omega

theorem Table.length_drop_le (n : Nat) : (t.drop n).length ≤ t.length :=
  List.length_filter_le _ _

theorem Table.length_drop_lt {n : Nat} {v : α} (h : t.look n = some v) : (t.drop n).length < t.length := by
  have hm := Table.mem_of_look _ h
  exact List.length_filter_lt_length_iff_exists.2 ⟨_, hm, by simp⟩

@[simp] theorem Table.length_mapRecords (f : Nat → α → α) : (t.mapRecords f).length = t.length := by
  simp [Table.mapRecords]

@[simp] theorem Table.length_alter (n : Nat) (f : α → α) : (t.alter n f).length = t.length := by
  simp [Table.alter]

end Sys2Proof.Machine
end

