-- ==== Sys2Proof/Laws/Frames.lean ====
section
/-! SUPPORT. What each shared operation leaves alone: one lemma for each operation, naming every field
of the state that it does not touch. -/

namespace Sys2Proof.Machine

/-- A fold of steps that each keep a value keeps it. -/
theorem foldl_keeps {σ α β : Type} (g : σ → β) (f : σ → α → σ) (hf : ∀ s a, g (f s a) = g s) (l : List α) (s : σ) :
    g (l.foldl f s) = g s := by
  induction l generalizing s with
  | nil => rfl
  | cons a rest ih => rw [List.foldl_cons, ih, hf]

variable (s : State)

@[simp] theorem State.closeContainer_frame (n : Nat) : (s.closeContainer n).pending = s.pending ∧ (s.closeContainer n).resetHeld = s.resetHeld ∧ (s.closeContainer n).ports = s.ports ∧ (s.closeContainer n).book = s.book ∧ (s.closeContainer n).titles = s.titles ∧ (s.closeContainer n).carts = s.carts ∧ (s.closeContainer n).bays = s.bays ∧ (s.closeContainer n).rack = s.rack ∧ (s.closeContainer n).clock = s.clock ∧ (s.closeContainer n).loans = s.loans ∧ (s.closeContainer n).lane = s.lane := by
  simp only [State.closeContainer]
  (repeat' split) <;> simp

@[simp] theorem State.closeWithNotice_frame (n : Nat) (c : CloseCause) : (s.closeWithNotice n c).pending = s.pending ∧ (s.closeWithNotice n c).resetHeld = s.resetHeld ∧ (s.closeWithNotice n c).book = s.book ∧ (s.closeWithNotice n c).titles = s.titles ∧ (s.closeWithNotice n c).carts = s.carts ∧ (s.closeWithNotice n c).bays = s.bays ∧ (s.closeWithNotice n c).rack = s.rack ∧ (s.closeWithNotice n c).clock = s.clock ∧ (s.closeWithNotice n c).loans = s.loans ∧ (s.closeWithNotice n c).lane = s.lane := by
  simp only [State.closeWithNotice]
  (repeat' split) <;> simp

@[simp] theorem State.hold_frame (n : Nat) : (s.hold n).pending = s.pending ∧ (s.hold n).resetHeld = s.resetHeld ∧ (s.hold n).ports = s.ports ∧ (s.hold n).patrons = s.patrons ∧ (s.hold n).book = s.book ∧ (s.hold n).titles = s.titles ∧ (s.hold n).carts = s.carts ∧ (s.hold n).bays = s.bays ∧ (s.hold n).rack = s.rack ∧ (s.hold n).clock = s.clock ∧ (s.hold n).loans = s.loans ∧ (s.hold n).lane = s.lane := by
  simp only [State.hold]
  (repeat' split) <;> simp

@[simp] theorem State.idleExpire_frame (n : Nat) : (s.idleExpire n).pending = s.pending ∧ (s.idleExpire n).resetHeld = s.resetHeld ∧ (s.idleExpire n).book = s.book ∧ (s.idleExpire n).titles = s.titles ∧ (s.idleExpire n).carts = s.carts ∧ (s.idleExpire n).bays = s.bays ∧ (s.idleExpire n).rack = s.rack ∧ (s.idleExpire n).clock = s.clock ∧ (s.idleExpire n).loans = s.loans ∧ (s.idleExpire n).lane = s.lane := by
  simp only [State.idleExpire]
  (repeat' split) <;> simp

@[simp] theorem State.reexamine_frame (n : Nat) : (s.reexamine n).pending = s.pending ∧ (s.reexamine n).resetHeld = s.resetHeld ∧ (s.reexamine n).book = s.book ∧ (s.reexamine n).titles = s.titles ∧ (s.reexamine n).carts = s.carts ∧ (s.reexamine n).bays = s.bays ∧ (s.reexamine n).rack = s.rack ∧ (s.reexamine n).clock = s.clock ∧ (s.reexamine n).loans = s.loans ∧ (s.reexamine n).lane = s.lane := by
  simp only [State.reexamine]
  (repeat' split) <;> simp

@[simp] theorem State.noteChange_frame (e : Nat × Order) : (s.noteChange e).pending = s.pending ∧ (s.noteChange e).resetHeld = s.resetHeld ∧ (s.noteChange e).patrons = s.patrons ∧ (s.noteChange e).book = s.book ∧ (s.noteChange e).titles = s.titles ∧ (s.noteChange e).carts = s.carts ∧ (s.noteChange e).bays = s.bays ∧ (s.noteChange e).rack = s.rack ∧ (s.noteChange e).clock = s.clock ∧ (s.noteChange e).packing = s.packing ∧ (s.noteChange e).loans = s.loans ∧ (s.noteChange e).lane = s.lane := by
  simp only [State.noteChange]
  (repeat' split) <;> simp

@[simp] theorem State.settle_frame (b : Table Order) : (s.settle b).pending = s.pending ∧ (s.settle b).resetHeld = s.resetHeld ∧ (s.settle b).book = s.book ∧ (s.settle b).titles = s.titles ∧ (s.settle b).carts = s.carts ∧ (s.settle b).bays = s.bays ∧ (s.settle b).rack = s.rack ∧ (s.settle b).clock = s.clock ∧ (s.settle b).loans = s.loans ∧ (s.settle b).lane = s.lane := by
  simp only [State.settle]
  refine ⟨?_, ?_, ?_, ?_, ?_, ?_, ?_, ?_, ?_, ?_⟩
  · rw [foldl_keeps State.pending _ (fun s a => by simp), foldl_keeps State.pending _ (fun s a => by simp)]
  · rw [foldl_keeps State.resetHeld _ (fun s a => by simp), foldl_keeps State.resetHeld _ (fun s a => by simp)]
  · rw [foldl_keeps State.book _ (fun s a => by simp), foldl_keeps State.book _ (fun s a => by simp)]
  · rw [foldl_keeps State.titles _ (fun s a => by simp), foldl_keeps State.titles _ (fun s a => by simp)]
  · rw [foldl_keeps State.carts _ (fun s a => by simp), foldl_keeps State.carts _ (fun s a => by simp)]
  · rw [foldl_keeps State.bays _ (fun s a => by simp), foldl_keeps State.bays _ (fun s a => by simp)]
  · rw [foldl_keeps State.rack _ (fun s a => by simp), foldl_keeps State.rack _ (fun s a => by simp)]
  · rw [foldl_keeps State.clock _ (fun s a => by simp), foldl_keeps State.clock _ (fun s a => by simp)]
  · rw [foldl_keeps State.loans _ (fun s a => by simp), foldl_keeps State.loans _ (fun s a => by simp)]
  · rw [foldl_keeps State.lane _ (fun s a => by simp), foldl_keeps State.lane _ (fun s a => by simp)]

@[simp] theorem State.closeBag_frame (n : Nat) (c : Bool) : (s.closeBag n c).pending = s.pending ∧ (s.closeBag n c).resetHeld = s.resetHeld ∧ (s.closeBag n c).ports = s.ports ∧ (s.closeBag n c).patrons = s.patrons ∧ (s.closeBag n c).book = s.book ∧ (s.closeBag n c).titles = s.titles ∧ (s.closeBag n c).carts = s.carts ∧ (s.closeBag n c).bays = s.bays ∧ (s.closeBag n c).rack = s.rack ∧ (s.closeBag n c).clock = s.clock ∧ (s.closeBag n c).loans = s.loans ∧ (s.closeBag n c).lane = s.lane := by
  simp only [State.closeBag]
  split
  · simp
  · refine ⟨?_, ?_, ?_, ?_, ?_, ?_, ?_, ?_, ?_, ?_, ?_, ?_⟩
    · rw [foldl_keeps State.pending _ (fun s a => by simp)]; simp
    · rw [foldl_keeps State.resetHeld _ (fun s a => by simp)]; simp
    · rw [foldl_keeps State.ports _ (fun s a => by simp)]; simp
    · rw [foldl_keeps State.patrons _ (fun s a => by simp)]; simp
    · rw [foldl_keeps State.book _ (fun s a => by simp)]; simp
    · rw [foldl_keeps State.titles _ (fun s a => by simp)]; simp
    · rw [foldl_keeps State.carts _ (fun s a => by simp)]; simp
    · rw [foldl_keeps State.bays _ (fun s a => by simp)]; simp
    · rw [foldl_keeps State.rack _ (fun s a => by simp)]; simp
    · rw [foldl_keeps State.clock _ (fun s a => by simp)]; simp
    · rw [foldl_keeps State.loans _ (fun s a => by simp)]; simp
    · rw [foldl_keeps State.lane _ (fun s a => by simp)]; simp

@[simp] theorem State.bagNotice_frame (n : Nat) : (s.bagNotice n).pending = s.pending ∧ (s.bagNotice n).resetHeld = s.resetHeld ∧ (s.bagNotice n).patrons = s.patrons ∧ (s.bagNotice n).book = s.book ∧ (s.bagNotice n).titles = s.titles ∧ (s.bagNotice n).carts = s.carts ∧ (s.bagNotice n).bays = s.bays ∧ (s.bagNotice n).rack = s.rack ∧ (s.bagNotice n).clock = s.clock ∧ (s.bagNotice n).packing = s.packing ∧ (s.bagNotice n).loans = s.loans ∧ (s.bagNotice n).lane = s.lane := by
  simp only [State.bagNotice]
  (repeat' split) <;> simp

@[simp] theorem State.joinBag_frame (c b : Nat) : (s.joinBag c b).pending = s.pending ∧ (s.joinBag c b).resetHeld = s.resetHeld ∧ (s.joinBag c b).patrons = s.patrons ∧ (s.joinBag c b).book = s.book ∧ (s.joinBag c b).titles = s.titles ∧ (s.joinBag c b).carts = s.carts ∧ (s.joinBag c b).bays = s.bays ∧ (s.joinBag c b).rack = s.rack ∧ (s.joinBag c b).clock = s.clock ∧ (s.joinBag c b).loans = s.loans ∧ (s.joinBag c b).lane = s.lane := by
  simp only [State.joinBag]
  (repeat' split) <;> simp

@[simp] theorem State.newBag_frame (r : Nat) : ((s.newBag r).1).pending = s.pending ∧ ((s.newBag r).1).resetHeld = s.resetHeld ∧ ((s.newBag r).1).ports = s.ports ∧ ((s.newBag r).1).patrons = s.patrons ∧ ((s.newBag r).1).book = s.book ∧ ((s.newBag r).1).titles = s.titles ∧ ((s.newBag r).1).carts = s.carts ∧ ((s.newBag r).1).bays = s.bays ∧ ((s.newBag r).1).rack = s.rack ∧ ((s.newBag r).1).clock = s.clock ∧ ((s.newBag r).1).loans = s.loans ∧ ((s.newBag r).1).lane = s.lane := by
  simp only [State.newBag]
  (repeat' split) <;> simp

theorem State.bagContainer_frame {n g : Nat} {r : State × Nat} (h : s.bagContainer n g = some r) : r.1.pending = s.pending ∧ r.1.resetHeld = s.resetHeld ∧ r.1.patrons = s.patrons ∧ r.1.book = s.book ∧ r.1.titles = s.titles ∧ r.1.carts = s.carts ∧ r.1.bays = s.bays ∧ r.1.rack = s.rack ∧ r.1.clock = s.clock ∧ r.1.loans = s.loans ∧ r.1.lane = s.lane := by
  simp only [State.bagContainer] at h
  split at h
  · cases h; simp
  · split at h
    · cases h; simp
    · cases h

@[simp] theorem State.drainOne_frame (n : Nat) : (s.drainOne n).pending = s.pending ∧ (s.drainOne n).resetHeld = s.resetHeld ∧ (s.drainOne n).patrons = s.patrons ∧ (s.drainOne n).book = s.book ∧ (s.drainOne n).titles = s.titles ∧ (s.drainOne n).carts = s.carts ∧ (s.drainOne n).bays = s.bays ∧ (s.drainOne n).rack = s.rack ∧ (s.drainOne n).clock = s.clock ∧ (s.drainOne n).loans = s.loans ∧ (s.drainOne n).lane = s.lane := by
  simp only [State.drainOne]
  split
  · simp
  · split
    · simp
    · next h => simpa using s.bagContainer_frame h

@[simp] theorem State.drain_frame  : (s.drain).pending = s.pending ∧ (s.drain).resetHeld = s.resetHeld ∧ (s.drain).patrons = s.patrons ∧ (s.drain).book = s.book ∧ (s.drain).titles = s.titles ∧ (s.drain).carts = s.carts ∧ (s.drain).bays = s.bays ∧ (s.drain).rack = s.rack ∧ (s.drain).clock = s.clock ∧ (s.drain).loans = s.loans ∧ (s.drain).lane = s.lane := by
  exact ⟨foldl_keeps State.pending _ (fun s a => by simp) _ _,
    foldl_keeps State.resetHeld _ (fun s a => by simp) _ _,
    foldl_keeps State.patrons _ (fun s a => by simp) _ _,
    foldl_keeps State.book _ (fun s a => by simp) _ _,
    foldl_keeps State.titles _ (fun s a => by simp) _ _,
    foldl_keeps State.carts _ (fun s a => by simp) _ _,
    foldl_keeps State.bays _ (fun s a => by simp) _ _,
    foldl_keeps State.rack _ (fun s a => by simp) _ _,
    foldl_keeps State.clock _ (fun s a => by simp) _ _,
    foldl_keeps State.loans _ (fun s a => by simp) _ _,
    foldl_keeps State.lane _ (fun s a => by simp) _ _⟩

@[simp] theorem State.retire_frame (n : Nat) : (s.retire n).pending = s.pending ∧ (s.retire n).resetHeld = s.resetHeld ∧ (s.retire n).ports = s.ports ∧ (s.retire n).patrons = s.patrons ∧ (s.retire n).book = s.book ∧ (s.retire n).titles = s.titles ∧ (s.retire n).bays = s.bays ∧ (s.retire n).rack = s.rack ∧ (s.retire n).clock = s.clock ∧ (s.retire n).packing = s.packing ∧ (s.retire n).loans = s.loans ∧ (s.retire n).lane = s.lane := by
  simp only [State.retire]
  (repeat' split) <;> simp

@[simp] theorem State.startJob_frame (b : Nat) (k : JobKind) (n : Nat) : (s.startJob b k n).pending = s.pending ∧ (s.startJob b k n).resetHeld = s.resetHeld ∧ (s.startJob b k n).patrons = s.patrons ∧ (s.startJob b k n).book = s.book ∧ (s.startJob b k n).titles = s.titles ∧ (s.startJob b k n).carts = s.carts ∧ (s.startJob b k n).rack = s.rack ∧ (s.startJob b k n).clock = s.clock ∧ (s.startJob b k n).packing = s.packing ∧ (s.startJob b k n).loans = s.loans ∧ (s.startJob b k n).lane = s.lane := by
  simp [State.startJob]

@[simp] theorem State.abortJob_frame (b : Nat) (k : Bool) : (s.abortJob b k).pending = s.pending ∧ (s.abortJob b k).resetHeld = s.resetHeld ∧ (s.abortJob b k).ports = s.ports ∧ (s.abortJob b k).patrons = s.patrons ∧ (s.abortJob b k).book = s.book ∧ (s.abortJob b k).titles = s.titles ∧ (s.abortJob b k).clock = s.clock ∧ (s.abortJob b k).packing = s.packing ∧ (s.abortJob b k).loans = s.loans ∧ (s.abortJob b k).lane = s.lane := by
  simp only [State.abortJob]
  (repeat' split) <;> simp

@[simp] theorem State.blankInPlace_frame (b : Nat) : (s.blankInPlace b).pending = s.pending ∧ (s.blankInPlace b).resetHeld = s.resetHeld ∧ (s.blankInPlace b).patrons = s.patrons ∧ (s.blankInPlace b).book = s.book ∧ (s.blankInPlace b).titles = s.titles ∧ (s.blankInPlace b).clock = s.clock ∧ (s.blankInPlace b).packing = s.packing ∧ (s.blankInPlace b).loans = s.loans ∧ (s.blankInPlace b).lane = s.lane := by
  simp only [State.blankInPlace]
  (repeat' split) <;> simp

@[simp] theorem State.assign_frame (n b : Nat) : (s.assign n b).pending = s.pending ∧ (s.assign n b).resetHeld = s.resetHeld ∧ (s.assign n b).patrons = s.patrons ∧ (s.assign n b).titles = s.titles ∧ (s.assign n b).rack = s.rack ∧ (s.assign n b).clock = s.clock ∧ (s.assign n b).packing = s.packing ∧ (s.assign n b).loans = s.loans ∧ (s.assign n b).lane = s.lane := by
  simp only [State.assign]
  (repeat' split) <;> simp

@[simp] theorem State.arbiterLoop_frame (fuel : Nat) : (State.arbiterLoop fuel s).pending = s.pending ∧ (State.arbiterLoop fuel s).resetHeld = s.resetHeld ∧ (State.arbiterLoop fuel s).patrons = s.patrons ∧ (State.arbiterLoop fuel s).titles = s.titles ∧ (State.arbiterLoop fuel s).rack = s.rack ∧ (State.arbiterLoop fuel s).clock = s.clock ∧ (State.arbiterLoop fuel s).packing = s.packing ∧ (State.arbiterLoop fuel s).loans = s.loans ∧ (State.arbiterLoop fuel s).lane = s.lane := by
  induction fuel generalizing s with
  | zero => simp [State.arbiterLoop]
  | succ k ih =>
    simp only [State.arbiterLoop]
    split <;> simp [ih]

@[simp] theorem State.arbiter_frame  : (s.arbiter).pending = s.pending ∧ (s.arbiter).resetHeld = s.resetHeld ∧ (s.arbiter).patrons = s.patrons ∧ (s.arbiter).titles = s.titles ∧ (s.arbiter).rack = s.rack ∧ (s.arbiter).clock = s.clock ∧ (s.arbiter).packing = s.packing ∧ (s.arbiter).loans = s.loans ∧ (s.arbiter).lane = s.lane := by
  simp [State.arbiter]

@[simp] theorem State.rejoin_frame (n : Nat) : (s.rejoin n).pending = s.pending ∧ (s.rejoin n).resetHeld = s.resetHeld ∧ (s.rejoin n).patrons = s.patrons ∧ (s.rejoin n).titles = s.titles ∧ (s.rejoin n).rack = s.rack ∧ (s.rejoin n).clock = s.clock ∧ (s.rejoin n).packing = s.packing ∧ (s.rejoin n).loans = s.loans ∧ (s.rejoin n).lane = s.lane := by
  simp only [State.rejoin]
  (repeat' split) <;> simp

@[simp] theorem State.reexamineOf_frame (n : Nat) : (s.reexamineOf n).pending = s.pending ∧ (s.reexamineOf n).resetHeld = s.resetHeld ∧ (s.reexamineOf n).book = s.book ∧ (s.reexamineOf n).titles = s.titles ∧ (s.reexamineOf n).carts = s.carts ∧ (s.reexamineOf n).bays = s.bays ∧ (s.reexamineOf n).rack = s.rack ∧ (s.reexamineOf n).clock = s.clock ∧ (s.reexamineOf n).loans = s.loans ∧ (s.reexamineOf n).lane = s.lane := by
  simp only [State.reexamineOf]
  (repeat' split) <;> simp

@[simp] theorem State.reenter_frame (n : Nat) : (s.reenter n).pending = s.pending ∧ (s.reenter n).resetHeld = s.resetHeld ∧ (s.reenter n).titles = s.titles ∧ (s.reenter n).rack = s.rack ∧ (s.reenter n).clock = s.clock ∧ (s.reenter n).loans = s.loans ∧ (s.reenter n).lane = s.lane := by
  simp only [State.reenter]
  (repeat' split) <;> simp

@[simp] theorem State.faultBay_frame (b : Nat) (k : FaultKind) (c : Bool) : (s.faultBay b k c).pending = s.pending ∧ (s.faultBay b k c).resetHeld = s.resetHeld ∧ (s.faultBay b k c).titles = s.titles ∧ (s.faultBay b k c).clock = s.clock ∧ (s.faultBay b k c).loans = s.loans ∧ (s.faultBay b k c).lane = s.lane := by
  simp only [State.faultBay]
  (repeat' split) <;> simp

@[simp] theorem State.completeBlank_frame (b : Nat) : (s.completeBlank b).pending = s.pending ∧ (s.completeBlank b).resetHeld = s.resetHeld ∧ (s.completeBlank b).patrons = s.patrons ∧ (s.completeBlank b).titles = s.titles ∧ (s.completeBlank b).clock = s.clock ∧ (s.completeBlank b).packing = s.packing ∧ (s.completeBlank b).loans = s.loans ∧ (s.completeBlank b).lane = s.lane := by
  simp only [State.completeBlank]
  (repeat' split) <;> simp

@[simp] theorem State.completeWrite_frame (b n : Nat) : (s.completeWrite b n).pending = s.pending ∧ (s.completeWrite b n).resetHeld = s.resetHeld ∧ (s.completeWrite b n).ports = s.ports ∧ (s.completeWrite b n).patrons = s.patrons ∧ (s.completeWrite b n).titles = s.titles ∧ (s.completeWrite b n).carts = s.carts ∧ (s.completeWrite b n).clock = s.clock ∧ (s.completeWrite b n).packing = s.packing ∧ (s.completeWrite b n).loans = s.loans ∧ (s.completeWrite b n).lane = s.lane := by
  simp only [State.completeWrite]
  (repeat' split) <;> simp

@[simp] theorem State.completeJob_frame (b : Nat) : (s.completeJob b).pending = s.pending ∧ (s.completeJob b).resetHeld = s.resetHeld ∧ (s.completeJob b).patrons = s.patrons ∧ (s.completeJob b).titles = s.titles ∧ (s.completeJob b).clock = s.clock ∧ (s.completeJob b).packing = s.packing ∧ (s.completeJob b).loans = s.loans ∧ (s.completeJob b).lane = s.lane := by
  simp only [State.completeJob]
  (repeat' split) <;> simp

@[simp] theorem State.credit_frame (b n : Nat) : (s.credit b n).pending = s.pending ∧ (s.credit b n).resetHeld = s.resetHeld ∧ (s.credit b n).ports = s.ports ∧ (s.credit b n).patrons = s.patrons ∧ (s.credit b n).book = s.book ∧ (s.credit b n).titles = s.titles ∧ (s.credit b n).carts = s.carts ∧ (s.credit b n).rack = s.rack ∧ (s.credit b n).clock = s.clock ∧ (s.credit b n).packing = s.packing ∧ (s.credit b n).loans = s.loans ∧ (s.credit b n).lane = s.lane := by
  simp only [State.credit]
  (repeat' split) <;> simp

@[simp] theorem State.applySlice_frame (b : Nat) (g : Grant) (n : Nat) : (s.applySlice b g n).pending = s.pending ∧ (s.applySlice b g n).resetHeld = s.resetHeld ∧ (s.applySlice b g n).titles = s.titles ∧ (s.applySlice b g n).clock = s.clock ∧ (s.applySlice b g n).loans = s.loans ∧ (s.applySlice b g n).lane = s.lane := by
  simp only [State.applySlice]
  (repeat' split) <;> simp

@[simp] theorem State.recomputeWriting_frame (t : Nat) : (s.recomputeWriting t).pending = s.pending ∧ (s.recomputeWriting t).resetHeld = s.resetHeld ∧ (s.recomputeWriting t).ports = s.ports ∧ (s.recomputeWriting t).patrons = s.patrons ∧ (s.recomputeWriting t).titles = s.titles ∧ (s.recomputeWriting t).carts = s.carts ∧ (s.recomputeWriting t).bays = s.bays ∧ (s.recomputeWriting t).rack = s.rack ∧ (s.recomputeWriting t).clock = s.clock ∧ (s.recomputeWriting t).packing = s.packing ∧ (s.recomputeWriting t).loans = s.loans ∧ (s.recomputeWriting t).lane = s.lane := by
  simp only [State.recomputeWriting]
  (repeat' split) <;> simp

@[simp] theorem State.stopProjections_frame  : (s.stopProjections).pending = s.pending ∧ (s.stopProjections).resetHeld = s.resetHeld ∧ (s.stopProjections).ports = s.ports ∧ (s.stopProjections).patrons = s.patrons ∧ (s.stopProjections).titles = s.titles ∧ (s.stopProjections).carts = s.carts ∧ (s.stopProjections).bays = s.bays ∧ (s.stopProjections).rack = s.rack ∧ (s.stopProjections).clock = s.clock ∧ (s.stopProjections).packing = s.packing ∧ (s.stopProjections).loans = s.loans ∧ (s.stopProjections).lane = s.lane := by
  simp only [State.stopProjections]
  (repeat' split) <;> simp

@[simp] theorem State.dayRecompute_frame (d : Bool) : (s.dayRecompute d).pending = s.pending ∧ (s.dayRecompute d).resetHeld = s.resetHeld ∧ (s.dayRecompute d).ports = s.ports ∧ (s.dayRecompute d).patrons = s.patrons ∧ (s.dayRecompute d).titles = s.titles ∧ (s.dayRecompute d).carts = s.carts ∧ (s.dayRecompute d).bays = s.bays ∧ (s.dayRecompute d).rack = s.rack ∧ (s.dayRecompute d).clock = s.clock ∧ (s.dayRecompute d).packing = s.packing ∧ (s.dayRecompute d).loans = s.loans ∧ (s.dayRecompute d).lane = s.lane := by
  simp only [State.dayRecompute]
  (repeat' split) <;> simp

@[simp] theorem State.tagsLate_frame  : (s.tagsLate).pending = s.pending ∧ (s.tagsLate).resetHeld = s.resetHeld ∧ (s.tagsLate).ports = s.ports ∧ (s.tagsLate).patrons = s.patrons ∧ (s.tagsLate).titles = s.titles ∧ (s.tagsLate).carts = s.carts ∧ (s.tagsLate).bays = s.bays ∧ (s.tagsLate).rack = s.rack ∧ (s.tagsLate).clock = s.clock ∧ (s.tagsLate).packing = s.packing ∧ (s.tagsLate).loans = s.loans ∧ (s.tagsLate).lane = s.lane := by
  simp only [State.tagsLate]
  (repeat' split) <;> simp

@[simp] theorem State.expireSlot_frame  : (s.expireSlot).pending = s.pending ∧ (s.expireSlot).resetHeld = s.resetHeld ∧ (s.expireSlot).titles = s.titles ∧ (s.expireSlot).carts = s.carts ∧ (s.expireSlot).bays = s.bays ∧ (s.expireSlot).clock = s.clock ∧ (s.expireSlot).loans = s.loans ∧ (s.expireSlot).lane = s.lane := by
  simp only [State.expireSlot]
  (repeat' split) <;> simp

@[simp] theorem State.startRound_frame  : (s.startRound).pending = s.pending ∧ (s.startRound).resetHeld = s.resetHeld ∧ (s.startRound).ports = s.ports ∧ (s.startRound).patrons = s.patrons ∧ (s.startRound).titles = s.titles ∧ (s.startRound).carts = s.carts ∧ (s.startRound).bays = s.bays ∧ (s.startRound).clock = s.clock ∧ (s.startRound).packing = s.packing ∧ (s.startRound).loans = s.loans ∧ (s.startRound).lane = s.lane := by
  simp only [State.startRound]
  (repeat' split) <;> simp

@[simp] theorem State.joinPending_frame (n : Nat) : (s.joinPending n).pending = s.pending ∧ (s.joinPending n).resetHeld = s.resetHeld ∧ (s.joinPending n).patrons = s.patrons ∧ (s.joinPending n).titles = s.titles ∧ (s.joinPending n).rack = s.rack ∧ (s.joinPending n).clock = s.clock ∧ (s.joinPending n).packing = s.packing ∧ (s.joinPending n).loans = s.loans ∧ (s.joinPending n).lane = s.lane := by
  simp only [State.joinPending]
  (repeat' split) <;> simp

@[simp] theorem State.allocate_frame (t i n : Nat) : (s.allocate t i n).pending = s.pending ∧ (s.allocate t i n).resetHeld = s.resetHeld ∧ (s.allocate t i n).patrons = s.patrons ∧ (s.allocate t i n).carts = s.carts ∧ (s.allocate t i n).bays = s.bays ∧ (s.allocate t i n).rack = s.rack ∧ (s.allocate t i n).clock = s.clock ∧ (s.allocate t i n).packing = s.packing ∧ (s.allocate t i n).loans = s.loans ∧ (s.allocate t i n).lane = s.lane := by
  simp only [State.allocate]
  (repeat' split) <;> simp

@[simp] theorem State.shelve_frame (t i : Nat) : (s.shelve t i).pending = s.pending ∧ (s.shelve t i).resetHeld = s.resetHeld ∧ (s.shelve t i).patrons = s.patrons ∧ (s.shelve t i).carts = s.carts ∧ (s.shelve t i).bays = s.bays ∧ (s.shelve t i).rack = s.rack ∧ (s.shelve t i).clock = s.clock ∧ (s.shelve t i).packing = s.packing ∧ (s.shelve t i).loans = s.loans ∧ (s.shelve t i).lane = s.lane := by
  simp only [State.shelve]
  (repeat' split) <;> simp

@[simp] theorem State.enterOrder_frame (n p t : Nat) (f : Format) (r : Priority) : (s.enterOrder n p t f r).pending = s.pending ∧ (s.enterOrder n p t f r).resetHeld = s.resetHeld ∧ (s.enterOrder n p t f r).ports = s.ports ∧ (s.enterOrder n p t f r).titles = s.titles ∧ (s.enterOrder n p t f r).carts = s.carts ∧ (s.enterOrder n p t f r).bays = s.bays ∧ (s.enterOrder n p t f r).rack = s.rack ∧ (s.enterOrder n p t f r).clock = s.clock ∧ (s.enterOrder n p t f r).packing = s.packing ∧ (s.enterOrder n p t f r).loans = s.loans ∧ (s.enterOrder n p t f r).lane = s.lane := by
  simp only [State.enterOrder]
  (repeat' split) <;> simp

@[simp] theorem State.createOrder_frame (p t : Nat) (r : Priority) : (s.createOrder p t r).pending = s.pending ∧ (s.createOrder p t r).resetHeld = s.resetHeld ∧ (s.createOrder p t r).rack = s.rack ∧ (s.createOrder p t r).clock = s.clock ∧ (s.createOrder p t r).packing = s.packing ∧ (s.createOrder p t r).loans = s.loans ∧ (s.createOrder p t r).lane = s.lane := by
  simp only [State.createOrder]
  (repeat' split) <;> simp

@[simp] theorem State.releaseLoop_frame (p : Nat) (l : List Nat) (r : State × Nat) : (State.releaseLoop p l r).1.pending = r.1.pending ∧ (State.releaseLoop p l r).1.resetHeld = r.1.resetHeld ∧ (State.releaseLoop p l r).1.rack = r.1.rack ∧ (State.releaseLoop p l r).1.clock = r.1.clock ∧ (State.releaseLoop p l r).1.packing = r.1.packing ∧ (State.releaseLoop p l r).1.loans = r.1.loans ∧ (State.releaseLoop p l r).1.lane = r.1.lane := by
  induction l generalizing r with
  | nil => simp [State.releaseLoop]
  | cons i rest ih =>
    simp only [State.releaseLoop]
    (repeat' split) <;> simp [ih]

@[simp] theorem State.releasePass_frame (p : Nat) : ((s.releasePass p).1).pending = s.pending ∧ ((s.releasePass p).1).resetHeld = s.resetHeld ∧ ((s.releasePass p).1).rack = s.rack ∧ ((s.releasePass p).1).clock = s.clock ∧ ((s.releasePass p).1).packing = s.packing ∧ ((s.releasePass p).1).loans = s.loans ∧ ((s.releasePass p).1).lane = s.lane := by
  simp only [State.releasePass]
  (repeat' split) <;> simp

@[simp] theorem State.bringCopies_frame (t : Nat) (l : List Nat) (r : State × Nat × Nat) : (State.bringCopies t l r).1.pending = r.1.pending ∧ (State.bringCopies t l r).1.resetHeld = r.1.resetHeld ∧ (State.bringCopies t l r).1.patrons = r.1.patrons ∧ (State.bringCopies t l r).1.carts = r.1.carts ∧ (State.bringCopies t l r).1.bays = r.1.bays ∧ (State.bringCopies t l r).1.rack = r.1.rack ∧ (State.bringCopies t l r).1.clock = r.1.clock ∧ (State.bringCopies t l r).1.packing = r.1.packing ∧ (State.bringCopies t l r).1.loans = r.1.loans ∧ (State.bringCopies t l r).1.lane = r.1.lane := by
  induction l generalizing r with
  | nil => simp [State.bringCopies]
  | cons i rest ih =>
    obtain ⟨s, needed, done⟩ := r
    simp only [State.bringCopies]
    (repeat' split) <;> simp [ih]

@[simp] theorem State.stripDeferred_frame (t p : Nat) : (State.stripDeferred t s p).pending = s.pending ∧ (State.stripDeferred t s p).resetHeld = s.resetHeld ∧ (State.stripDeferred t s p).book = s.book ∧ (State.stripDeferred t s p).titles = s.titles ∧ (State.stripDeferred t s p).carts = s.carts ∧ (State.stripDeferred t s p).bays = s.bays ∧ (State.stripDeferred t s p).rack = s.rack ∧ (State.stripDeferred t s p).clock = s.clock ∧ (State.stripDeferred t s p).packing = s.packing ∧ (State.stripDeferred t s p).loans = s.loans ∧ (State.stripDeferred t s p).lane = s.lane := by
  simp only [State.stripDeferred]
  (repeat' split) <;> simp

@[simp] theorem State.lastCall_frame  : (s.lastCall).pending = s.pending ∧ (s.lastCall).resetHeld = s.resetHeld ∧ (s.lastCall).titles = s.titles ∧ (s.lastCall).carts = s.carts ∧ (s.lastCall).bays = s.bays ∧ (s.lastCall).rack = s.rack ∧ (s.lastCall).clock = s.clock ∧ (s.lastCall).loans = s.loans ∧ (s.lastCall).lane = s.lane := by
  simp only [State.lastCall]
  refine ⟨?_, ?_, ?_, ?_, ?_, ?_, ?_, ?_, ?_⟩
  · simp only [State.tagsLate_frame]; rw [foldl_keeps State.pending _ (fun s a => by simp)]; simp
  · simp only [State.tagsLate_frame]; rw [foldl_keeps State.resetHeld _ (fun s a => by simp)]; simp
  · simp only [State.tagsLate_frame]; rw [foldl_keeps State.titles _ (fun s a => by simp)]; simp
  · simp only [State.tagsLate_frame]; rw [foldl_keeps State.carts _ (fun s a => by simp)]; simp
  · simp only [State.tagsLate_frame]; rw [foldl_keeps State.bays _ (fun s a => by simp)]; simp
  · simp only [State.tagsLate_frame]; rw [foldl_keeps State.rack _ (fun s a => by simp)]; simp
  · simp only [State.tagsLate_frame]; rw [foldl_keeps State.clock _ (fun s a => by simp)]; simp
  · simp only [State.tagsLate_frame]; rw [foldl_keeps State.loans _ (fun s a => by simp)]; simp
  · simp only [State.tagsLate_frame]; rw [foldl_keeps State.lane _ (fun s a => by simp)]; simp

@[simp] theorem State.cutOff_frame  : (s.cutOff).pending = s.pending ∧ (s.cutOff).resetHeld = s.resetHeld ∧ (s.cutOff).patrons = s.patrons ∧ (s.cutOff).book = s.book ∧ (s.cutOff).titles = s.titles ∧ (s.cutOff).carts = s.carts ∧ (s.cutOff).bays = s.bays ∧ (s.cutOff).rack = s.rack ∧ (s.cutOff).clock = s.clock ∧ (s.cutOff).loans = s.loans ∧ (s.cutOff).lane = s.lane := by
  simp only [State.cutOff]
  refine ⟨?_, ?_, ?_, ?_, ?_, ?_, ?_, ?_, ?_, ?_, ?_⟩
  · rw [foldl_keeps State.pending _ (fun s a => by simp)]; simp
  · rw [foldl_keeps State.resetHeld _ (fun s a => by simp)]; simp
  · rw [foldl_keeps State.patrons _ (fun s a => by simp)]; simp
  · rw [foldl_keeps State.book _ (fun s a => by simp)]; simp
  · rw [foldl_keeps State.titles _ (fun s a => by simp)]; simp
  · rw [foldl_keeps State.carts _ (fun s a => by simp)]; simp
  · rw [foldl_keeps State.bays _ (fun s a => by simp)]; simp
  · rw [foldl_keeps State.rack _ (fun s a => by simp)]; simp
  · rw [foldl_keeps State.clock _ (fun s a => by simp)]; simp
  · rw [foldl_keeps State.loans _ (fun s a => by simp)]; simp
  · rw [foldl_keeps State.lane _ (fun s a => by simp)]; simp

@[simp] theorem State.enterMailDay_frame  : (s.enterMailDay).pending = s.pending ∧ (s.enterMailDay).resetHeld = s.resetHeld ∧ (s.enterMailDay).titles = s.titles ∧ (s.enterMailDay).carts = s.carts ∧ (s.enterMailDay).bays = s.bays ∧ (s.enterMailDay).rack = s.rack ∧ (s.enterMailDay).loans = s.loans ∧ (s.enterMailDay).lane = s.lane := by
  simp only [State.enterMailDay]
  (repeat' split) <;> simp

@[simp] theorem State.overdueNotice_frame (e : Nat × Nat) : (s.overdueNotice e).pending = s.pending ∧ (s.overdueNotice e).resetHeld = s.resetHeld ∧ (s.overdueNotice e).patrons = s.patrons ∧ (s.overdueNotice e).book = s.book ∧ (s.overdueNotice e).titles = s.titles ∧ (s.overdueNotice e).carts = s.carts ∧ (s.overdueNotice e).bays = s.bays ∧ (s.overdueNotice e).rack = s.rack ∧ (s.overdueNotice e).clock = s.clock ∧ (s.overdueNotice e).packing = s.packing ∧ (s.overdueNotice e).loans = s.loans ∧ (s.overdueNotice e).lane = s.lane := by
  simp only [State.overdueNotice]
  split <;> simp

@[simp] theorem State.sweep_frame  : (s.sweep).pending = s.pending ∧ (s.sweep).resetHeld = s.resetHeld ∧ (s.sweep).book = s.book ∧ (s.sweep).titles = s.titles ∧ (s.sweep).carts = s.carts ∧ (s.sweep).bays = s.bays ∧ (s.sweep).rack = s.rack ∧ (s.sweep).clock = s.clock ∧ (s.sweep).packing = s.packing ∧ (s.sweep).lane = s.lane := by
  simp only [State.sweep]
  refine ⟨?_, ?_, ?_, ?_, ?_, ?_, ?_, ?_, ?_, ?_⟩
  · rw [foldl_keeps State.pending _ (fun s a => by simp)]
  · rw [foldl_keeps State.resetHeld _ (fun s a => by simp)]
  · rw [foldl_keeps State.book _ (fun s a => by simp)]
  · rw [foldl_keeps State.titles _ (fun s a => by simp)]
  · rw [foldl_keeps State.carts _ (fun s a => by simp)]
  · rw [foldl_keeps State.bays _ (fun s a => by simp)]
  · rw [foldl_keeps State.rack _ (fun s a => by simp)]
  · rw [foldl_keeps State.clock _ (fun s a => by simp)]
  · rw [foldl_keeps State.packing _ (fun s a => by simp)]
  · rw [foldl_keeps State.lane _ (fun s a => by simp)]

@[simp] theorem State.clearLaneCounts_frame  : (s.clearLaneCounts).pending = s.pending ∧ (s.clearLaneCounts).resetHeld = s.resetHeld ∧ (s.clearLaneCounts).ports = s.ports ∧ (s.clearLaneCounts).patrons = s.patrons ∧ (s.clearLaneCounts).book = s.book ∧ (s.clearLaneCounts).titles = s.titles ∧ (s.clearLaneCounts).carts = s.carts ∧ (s.clearLaneCounts).bays = s.bays ∧ (s.clearLaneCounts).rack = s.rack ∧ (s.clearLaneCounts).clock = s.clock ∧ (s.clearLaneCounts).packing = s.packing ∧ (s.clearLaneCounts).loans = s.loans := by
  simp only [State.clearLaneCounts]
  (repeat' split) <;> simp

@[simp] theorem State.rollover_frame  : (s.rollover).pending = s.pending ∧ (s.rollover).resetHeld = s.resetHeld ∧ (s.rollover).titles = s.titles ∧ (s.rollover).carts = s.carts ∧ (s.rollover).bays = s.bays ∧ (s.rollover).rack = s.rack := by
  simp only [State.rollover]
  (repeat' split) <;> simp

@[simp] theorem State.idleSecond_frame  : (s.idleSecond).pending = s.pending ∧ (s.idleSecond).resetHeld = s.resetHeld ∧ (s.idleSecond).ports = s.ports ∧ (s.idleSecond).patrons = s.patrons ∧ (s.idleSecond).book = s.book ∧ (s.idleSecond).titles = s.titles ∧ (s.idleSecond).carts = s.carts ∧ (s.idleSecond).bays = s.bays ∧ (s.idleSecond).rack = s.rack ∧ (s.idleSecond).clock = s.clock ∧ (s.idleSecond).loans = s.loans ∧ (s.idleSecond).lane = s.lane := by
  simp only [State.idleSecond]
  (repeat' split) <;> simp

@[simp] theorem State.advanceSecond_frame  : (s.advanceSecond).pending = s.pending ∧ (s.advanceSecond).resetHeld = s.resetHeld ∧ (s.advanceSecond).titles = s.titles ∧ (s.advanceSecond).carts = s.carts ∧ (s.advanceSecond).bays = s.bays ∧ (s.advanceSecond).rack = s.rack := by
  simp only [State.advanceSecond]
  (repeat' split) <;> simp

end Sys2Proof.Machine
end

