-- ==== Sys2Proof/Laws/Numbers.lean ====
section
/-! SUPPORT. Assigned numbers (R7, R126, R145): the number reached belongs to no record of the table, and
lies from 1 to the last number. -/

namespace Sys2Proof.Machine

variable {α : Type}

/-- The number after one in range is in range. -/
theorem nextNumber_range {last n : Nat} (hl : 1 ≤ last) : 1 ≤ nextNumber last n ∧ nextNumber last n ≤ last := by
  unfold nextNumber; split <;> omega

/-- Stepping on stays in range. -/
theorem freeFrom_range {last : Nat} (hl : 1 ≤ last) (t : Table α) (fuel : Nat) {n : Nat} (h1 : 1 ≤ n) (h2 : n ≤ last) :
    1 ≤ freeFrom last t fuel n ∧ freeFrom last t fuel n ≤ last := by
  induction fuel generalizing n with
  | zero => exact ⟨h1, h2⟩
  | succ k ih =>
    simp only [freeFrom]
    split
    · exact ih (nextNumber_range hl).1 (nextNumber_range hl).2
    · exact ⟨h1, h2⟩

/-- The `j`-th candidate from `n`. -/
def candidate (last n : Nat) : Nat → Nat
  | 0 => n
  | j + 1 => nextNumber last (candidate last n j)

theorem candidate_succ (last n j : Nat) : candidate last n (j + 1) = candidate last (nextNumber last n) j := by
  induction j with
  | zero => rfl
  | succ k ih =>
    show nextNumber last (candidate last n (k + 1)) = _
    rw [ih]
    rfl

/-- Candidates from a number in range, as remainders. -/
theorem candidate_eq {last n : Nat} (hl : 1 ≤ last) (h1 : 1 ≤ n) (h2 : n ≤ last) (j : Nat) :
    candidate last n j = (n - 1 + j) % last + 1 := by
  induction j with
  | zero => simp only [candidate, Nat.add_zero]; rw [Nat.mod_eq_of_lt (by omega)]; omega
  | succ k ih =>
    have hlt : (n - 1 + k) % last < last := Nat.mod_lt _ (by omega)
    show nextNumber last (candidate last n k) = _
    have hstep : (n - 1 + (k + 1)) % last = ((n - 1 + k) % last + 1) % last := by
      rw [Nat.mod_add_mod]; rfl
    rw [ih, nextNumber, hstep]
    generalize (n - 1 + k) % last = r at hlt
    split
    · rw [show r + 1 = last by omega, Nat.mod_self]
    · rw [Nat.mod_eq_of_lt (by omega)]

/-- If stepping on ends at a number that has a record, every candidate on the way has one. -/
theorem freeFrom_taken {last : Nat} (t : Table α) (fuel n : Nat) (h : t.has (freeFrom last t fuel n) = true) :
    ∀ j ≤ fuel, t.has (candidate last n j) = true := by
  induction fuel generalizing n with
  | zero => intro j hj; rw [Nat.le_zero.1 hj]; exact h
  | succ k ih =>
    simp only [freeFrom] at h
    split at h
    · next h0 =>
      intro j hj
      cases j with
      | zero => exact h0
      | succ j => rw [candidate_succ]; exact ih _ h j (by omega)
    · next h0 => exact absurd h h0

/-- R7: a number is always found. With fewer records than numbers, the number assigned has no record. -/
theorem assignNumber_free {last : Nat} (t : Table α) {n : Nat} (h1 : 1 ≤ n) (h2 : n ≤ last) (hlen : t.length < last) :
    t.look (assignNumber last t n) = none := by
  by_contra hne
  have hhas : t.has (assignNumber last t n) = true := by
    cases h : t.look (assignNumber last t n) with
    | none => exact absurd h hne
    | some v => simp [Table.has, h]
  have hall := freeFrom_taken t _ _ hhas
  have hsub : (Finset.range (t.length + 1)).image (candidate last n) ⊆ (t.map Prod.fst).toFinset := by
    intro x hx
    obtain ⟨j, hj, rfl⟩ := Finset.mem_image.1 hx
    obtain ⟨v, hv⟩ := (Table.has_iff t _).1 (hall j (by have := Finset.mem_range.1 hj; omega))
    exact List.mem_toFinset.2 (List.mem_map.2 ⟨_, Table.mem_of_look t hv, rfl⟩)
  have hinj : Set.InjOn (candidate last n) (Finset.range (t.length + 1)) := by
    intro a ha b hb hab
    have ha := Finset.mem_range.1 (Finset.mem_coe.1 ha)
    have hb := Finset.mem_range.1 (Finset.mem_coe.1 hb)
    rw [candidate_eq (by omega) h1 h2, candidate_eq (by omega) h1 h2] at hab
    have hm : (n - 1 + a) ≡ (n - 1 + b) [MOD last] := by simpa [Nat.ModEq] using hab
    have := Nat.ModEq.add_left_cancel' (n - 1) hm
    exact Nat.ModEq.eq_of_lt_of_lt this (by omega) (by omega)
  have hcard := Finset.card_le_card hsub
  rw [Finset.card_image_of_injOn hinj, Finset.card_range] at hcard
  have := List.toFinset_card_le (t.map Prod.fst)
  simp at this
  omega

/-- The number assigned lies in range. -/
theorem assignNumber_range {last : Nat} (t : Table α) {n : Nat} (h1 : 1 ≤ n) (h2 : n ≤ last) :
    1 ≤ assignNumber last t n ∧ assignNumber last t n ≤ last :=
  freeFrom_range (by omega) t _ h1 h2

/-- A free counter value is the number assigned. -/
theorem assignNumber_of_free {last : Nat} (t : Table α) {n : Nat} (h : t.look n = none) :
    assignNumber last t n = n := by
  unfold assignNumber
  cases t with
  | nil => rfl
  | cons a rest =>
    have hn : Table.has (a :: rest) n = false := by simp [Table.has, h]
    simp [freeFrom, hn]

end Sys2Proof.Machine
end

