-- ==== Sys2Proof/Laws/Requests.lean ====
section
/-! SUPPORT. What a request comes to: the one lemma for each way a port unit deals with it (R165 to R168); and when
an idle timer has run out (R131). -/

namespace Sys2Proof.Machine

variable {s : State} {k : Kind} {h : Header} {act : State → Result}

/-- A slot that is free after a period is empty once the period's bytes are clocked. -/
theorem PortUnit.clockOut_empty_iff (u : PortUnit) (n : Nat) :
    (u.clockOut n).slot = .empty ↔ u.freeAfter n = true := by
  unfold PortUnit.clockOut PortUnit.freeAfter
  cases hu : u.slot with
  | empty => simp
  | awaiting r => simp
  | holding f => by_cases hn : f.length ≤ n <;> simp [hn]

theorem State.clocked_slot_empty_iff (s : State) (h : Header) :
    ((s.clocked h).unit h.port).slot = .empty ↔ (s.unit h.port).freeAfter h.clocked = true := by
  rw [State.clocked, State.unit_onUnit_same, PortUnit.clockOut_empty_iff]

/-- A request that is taken: the owning block carries it out on the state after the period, and the
slot awaits its answer. -/
theorem request_taken (ht : s.Takes k h) :
    request k h act s = (act (s.clocked h)).state.answered k h (act (s.clocked h)).code (act (s.clocked h)).body
      (act (s.clocked h)).orderState := by
  obtain ⟨hr, hs, hp, hl⟩ := ht
  have hs' := (s.clocked_slot_empty_iff h).2 hs
  have hnot : ¬ (k.port ≠ none ∧ k.port ≠ some h.port) := by
    rintro ⟨h1, h2⟩
    rcases hp with hp | hp
    · exact h1 hp
    · exact h2 hp
  simp [request, takeRequest, admission, hr, hs', hnot, hl, State.answered, PortUnit.await]

/-- A request answered with an outcome and a body. -/
theorem request_answer (ht : s.Takes k h) {t : State} {c : Code} {b : List Field}
    (ha : act (s.clocked h) = answer t c b) : request k h act s = t.answered k h c b := by
  rw [request_taken ht, ha]; rfl

/-- A request that the owning block refuses. -/
theorem request_refuse (ht : s.Takes k h) {c : Code} {f : Nat} (ha : act (s.clocked h) = refuse (s.clocked h) c f) :
    request k h act s = (s.clocked h).answered k h c [u1 f] := by
  rw [request_taken ht, ha]; rfl

/-- R166: a request that finds the slot not empty is discarded, and OVERRUN is set. -/
theorem request_overrun (hr : s.resetHeld = false) (hs : (s.unit h.port).freeAfter h.clocked = false) :
    request k h act s = (s.clocked h).onUnit h.port (fun u => { u with overrun := true }) := by
  have hs' : ((s.clocked h).unit h.port).slot ≠ .empty := by
    rw [Ne, State.clocked_slot_empty_iff, hs]; simp
  simp [request, takeRequest, hr, hs']

/-- R179: with the reset input asserted no request is taken. -/
theorem request_held (hr : s.resetHeld = true) : request k h act s = s.clocked h := by
  simp [request, takeRequest, hr]

/-- R166 test 2: a kind of another port is answered NOT_PERMITTED and reaches no block. -/
theorem request_not_permitted (hr : s.resetHeld = false) (hs : (s.unit h.port).freeAfter h.clocked = true)
    (hp : k.port ≠ none) (hq : k.port ≠ some h.port) :
    request k h act s = (s.clocked h).answered k h .notPermitted [u1 0] := by
  have hs' := (s.clocked_slot_empty_iff h).2 hs
  simp [request, takeRequest, admission, hr, hs', hp, hq, State.answered, PortUnit.await]

/-- R166 test 3: a length other than the kind's is answered BAD_LENGTH and reaches no block. -/
theorem request_bad_length (hr : s.resetHeld = false) (hs : (s.unit h.port).freeAfter h.clocked = true)
    (hp : k.port = none ∨ k.port = some h.port) (hl : h.length ≠ k.length) :
    request k h act s = (s.clocked h).answered k h .badLength [u1 0] := by
  have hs' := (s.clocked_slot_empty_iff h).2 hs
  have hnot : ¬ (k.port ≠ none ∧ k.port ≠ some h.port) := by
    rintro ⟨h1, h2⟩
    rcases hp with hp | hp
    · exact h1 hp
    · exact h2 hp
  simp [request, takeRequest, admission, hr, hs', hnot, hl, State.answered, PortUnit.await]

/-- R131: when an idle timer has run out. -/
theorem Container.idleDue_iff (c : Container) (t : Nat) :
    c.idleDue t = true ↔ c.state = .opened ∧ ∃ n ∈ c.idle, t ≤ n := by
  simp [Container.idleDue, Option.any_eq_true]

/-- R131: which containers an idle time in force closes or holds. -/
theorem State.mem_idleDue (s : State) (n : Nat) :
    n ∈ s.idleDue ↔ ∃ c, (n, c) ∈ s.packing.containers ∧ c.idleDue s.packing.idleTime = true := by
  simp [State.idleDue]

/-- R131, R143: an idle expiry either finds its container's timer run out, or leaves the state as it is. -/
theorem State.idleReached_cases (s : State) (n : Nat) : s.idleReached n = s ∨
    ∃ c, s.container n = some c ∧ c.idleDue s.packing.idleTime = true ∧ s.idleReached n = s.idleExpire n := by
  unfold State.idleReached
  split
  · exact .inl rfl
  · split
    · exact .inr ⟨_, ‹_›, ‹_›, rfl⟩
    · exact .inl rfl

end Sys2Proof.Machine
end

