-- ==== Sys2Proof/Laws/Settle.lean ====
section
/-! SUPPORT. Events that change no tag, and arbiters that find nothing to match. -/

namespace Sys2Proof.Machine

variable (s : State)

/-- R109: an order whose tag stands as it was is no changed order. -/
@[simp] theorem tagChanged_self (t : Tag) : tagChanged t t = false := by
  cases t <;> rfl

/-- R109: a book compared with itself has no changed order. -/
theorem changedTags_self (t : Table Order) (hw : t.wf = true) : changedTags t t = [] := by
  apply List.filter_eq_nil_iff.2
  rintro ⟨n, o⟩ he
  simp [Table.look_of_mem t hw he]

/-- R109: an event that changes no tag queues no notice and hands no patron on. -/
theorem State.settle_of_none {start : Table Order} (h : changedTags start s.book.orders = []) : s.settle start = s := by
  have hf : s.patrons.filter (fun _ => false) = [] := List.filter_eq_nil_iff.2 (by simp)
  simp [State.settle, h, hf]

/-- R109: an event that leaves the book as it was. -/
theorem State.settle_same {start : Table Order} (h : s.book.orders = start) (hw : start.wf = true) :
    s.settle start = s :=
  s.settle_of_none (by rw [h]; exact changedTags_self _ hw)

/-- R64: with no ARMED bay the arbiter assigns nothing. -/
theorem State.arbiter_of_no_bay (h : s.armedBays = []) : s.arbiter = s := by
  unfold State.arbiter State.arbiterLoop bayCount
  simp only [h]
  split
  · simp at *
  · rfl

/-- R64: with no order waiting the arbiter assigns nothing. -/
theorem State.arbiter_of_no_order (h : s.book.queue = []) : s.arbiter = s := by
  unfold State.arbiter State.arbiterLoop bayCount
  simp only [h]

/-- A bay is among the ARMED bays when it is one of the 32 and its state is ARMED. -/
theorem State.mem_armedBays (b : Nat) : b ∈ s.armedBays ↔ b < bayCount ∧ (s.bay b).state = .armed := by
  simp [State.armedBays]

/-- R64: no bay is ARMED. -/
theorem State.armedBays_eq_nil (h : ∀ b < bayCount, (s.bay b).state ≠ .armed) : s.armedBays = [] := by
  apply List.filter_eq_nil_iff.2
  intro b hb
  simpa using h b (List.mem_range.1 hb)

end Sys2Proof.Machine
end

