-- ==== Sys2Proof/Tests/Slice0.lean ====
section
/-! SUPPORT. The model's own tests: the checks of WellFormed, frames written out byte by byte, one step of
each command with results taken from the worked sequences of the spec (each test names its table), and for
every statement with hypotheses a state and operands that meet them. -/

namespace Sys2Proof.Tests

open Sys2Proof Sys2Proof.Machine

/-! ### Helpers -/

/-- The state a command leaves, if it leaves one. -/
def after (c : Instr) (s : State) : Option State :=
  match exec c s with
  | .next t => some t
  | _ => none

/-- The outcome and the values of the body that wait to be placed on a port. -/
def reply (p : Port) (c : Instr) (s : State) : Option (Code × List Nat) :=
  match after c s with
  | some t =>
    match (t.unit p).slot with
    | .awaiting r => some (r.code, r.body.map Field.value)
    | _ => none
  | none => none

/-- The answer on the circulation port. -/
def onCirculation (c : Instr) (s : State) : Option (Code × List Nat) := reply .circulation c s
/-- The answer on the rack port. -/
def onRackPort (c : Instr) (s : State) : Option (Code × List Nat) := reply .rack c s
/-- The answer on the mail port. -/
def onMail (c : Instr) (s : State) : Option (Code × List Nat) := reply .mail c s
/-- The answer on the returns port. -/
def onReturns (c : Instr) (s : State) : Option (Code × List Nat) := reply .returns c s

/-- The kinds and subjects of the notices that wait on a port. -/
def noticesOf (t : State) (p : Port) : List (NoticeKind × Nat) :=
  (t.unit p).notices.map (fun n => (n.kind, n.subject))

/-- A header of a request of a kind that its port takes. -/
def hdr (k : Kind) : Header := ⟨k.port.getD .circulation, 9, k.length, k.length⟩

/-- A cartridge order as it is created. -/
def pendingOrder (patron title : Nat) (pr : Priority := .standard) : Order :=
  ⟨patron, title, .cartridge, pr, 0, 0, .pending, 0, none, none, none, none, .noTag, none⟩

/-- An order being written in a bay. -/
def writingOrder (patron title bay serial : Nat) : Order :=
  { pendingOrder patron title with state := .writing, bay := some bay, serial := some serial }

/-- A patron with limits 6 and 3 and nothing else. -/
def plainPatron : Patron := ⟨1, 6, 3, 0, 0, ⟨false, false, false⟩, [], none⟩

/-- A bay writing `rem` of `total` blocks of an order. -/
def writingBay (serial order : Nat) (sel : Selector) (rem total : Nat) : Bay :=
  ⟨.writing, some serial, some ⟨.write order sel, total, rem⟩, none, none⟩

/-- A bay blanking a cartridge. -/
def blankingBay (serial rem total : Nat) : Bay :=
  ⟨.blanking, some serial, some ⟨.blank, total, rem⟩, none, none⟩

/-- A cartridge in a bay, bound to an order. -/
def boundCart (order bay extent : Nat) : Cartridge := ⟨.inBay, 1, 0, extent, .order order, some bay⟩

/-- A copy map whose first entries are given. -/
def copyMap (first : List Copy) : List Copy := first ++ List.replicate (64 - first.length) .absent

/-! ### WellFormed refuses an ill-formed term for each of its checks -/

theorem test_wellFormed_accepts : (Instr.orderPlace ⟨.circulation, 255, 12, 12⟩ 16777215 4294967295 255).wellFormed = true := by decide
theorem test_wellFormed_tag : (Instr.rackStart ⟨.rack, 256, 5, 5⟩).wellFormed = false := by decide
theorem test_wellFormed_short : (Instr.rackStart ⟨.rack, 0, 4, 5⟩).wellFormed = false := by decide
theorem test_wellFormed_long : (Instr.rackStart ⟨.rack, 0, 65, 70⟩).wellFormed = false := by decide
theorem test_wellFormed_clocked : (Instr.rackStart ⟨.rack, 0, 5, 4⟩).wellFormed = false := by decide
theorem test_wellFormed_field : (Instr.patronClose (hdr .patronClose) 16777216).wellFormed = false := by decide
theorem test_wellFormed_unknownKind : (Instr.unknownKind ⟨.rack, 0, 5, 5⟩ 0x30).wellFormed = false := by decide
theorem test_wellFormed_unknownCode : (Instr.unknownKind ⟨.rack, 0, 5, 5⟩ 256).wellFormed = false := by decide
theorem test_wellFormed_discard : (Instr.frameDiscard .rack 0).wellFormed = false := by decide
theorem test_wellFormed_read : (Instr.readPeriod .rack 0).wellFormed = false := by decide
theorem test_wellFormed_linkReset : (Instr.linkReset .rack 0).wellFormed = false := by decide
theorem test_wellFormed_idle : (Instr.idleExpiry 0).wellFormed = false := by decide
theorem test_rightLength : (Instr.rackStart ⟨.rack, 0, 6, 6⟩).rightLength = false := by decide

/-! ### Frames (R164, R165, Table 10-3) -/

/-- Table 10-2 and Table 10-3: N counts length, kind, tag and check bytes and the body; a body with no
fields is sent as one byte. -/
theorem test_lengths : ∀ k ∈ Kind.all, k.length = 4 + max 1 k.sizes.sum := by decide

/-- Table 10-3: no two kinds share a code. -/
theorem test_codes : ∀ k ∈ Kind.all, Kind.ofCode k.code = some k := by decide

/-- TITLE_LOAD of title 7700, BRAILLE, 2 copies: N 14, code 0x19. -/
theorem test_decode_titleLoad : decodePeriod .circulation
    [0x0E, 0x19, 0x21, 0x00, 0x00, 0x1E, 0x14, 0x01, 0x00, 0x00, 0x00, 0x00, 0x02, 0x83] =
    some (.titleLoad ⟨.circulation, 33, 14, 14⟩ 7700 1 0 0 2) := by decide

/-- RACK_SET 64, 16, B, VT 3, SINGLE: N 9, code 0x38. -/
theorem test_decode_rackSet : decodePeriod .rack [0x09, 0x38, 0x05, 0x40, 0x10, 0x01, 0x03, 0x00, 0x66] =
    some (.rackSet ⟨.rack, 5, 9, 9⟩ 64 16 1 3 0) := by decide

/-- R164: the check byte brings the sum to 0, so a frame with one bit wrong is discarded. -/
theorem test_decode_badSum : decodePeriod .rack [0x09, 0x38, 0x05, 0x40, 0x10, 0x01, 0x03, 0x00, 0x67] =
    some (.frameDiscard .rack 9) := by decide

/-- No table word spells a command (log entry 4). -/
theorem test_tableWord : decodeTableWord 64 0x1234 = none ∧ State.reset.withFetchWord 64 0x1234 = State.reset := by decide

/-! ### Patrons and orders (Table 1-6) -/

/-- Patron 31107 as Table 1-6 leaves it after step `n` for the given counts and lists. -/
def limitState (outstanding : Nat) (limit : Bool) (deferred : List Nat) (orders : Table Order) (counter : Nat)
    (queue : List Nat) (loans : Table Loan) : State :=
  { State.reset with
    patrons := [(31107, ⟨2, 4, 2, outstanding, 0, ⟨limit, false, false⟩, deferred, none⟩)]
    titles := [(5010, .cartridge 100 .a), (5020, .cartridge 100 .a), (5030, .cartridge 100 .a), (5040, .cartridge 100 .a),
      (5050, .cartridge 100 .a), (5060, .cartridge 100 .a)]
    book := ⟨orders, counter, queue⟩
    carts := ⟨[(9, ⟨.onLoan, 5, 0, 100, .loan 1, none⟩)], [], []⟩
    loans := { State.reset.loans with loans := loans } }

/-- The two loans of patron 31107. -/
def twoLoans : Table Loan := [(1, ⟨31107, 5010, .cartridge 9, 0, 42, .out⟩), (2, ⟨31107, 5011, .cartridge 10, 0, 42, .out⟩)]

/-- Step 0. -/
def limit0 : State := limitState 3 false [] [(118, pendingOrder 31107 5020)] 119 [118] twoLoans

/-- Step 5. -/
def limit5 : State := limitState 4 true [5040, 5050, 5060] [(118, pendingOrder 31107 5020), (119, pendingOrder 31107 5030)]
  120 [118, 119] twoLoans

/-- Step 6. -/
def limit6 : State := { limit5 with
  patrons := [(31107, ⟨2, 4, 2, 3, 0, ⟨true, false, false⟩, [5040, 5050, 5060], none⟩)]
  loans := { limit5.loans with loans := [(2, ⟨31107, 5011, .cartridge 10, 0, 42, .out⟩)] } }

/-- R20: a limit high of 0 takes the defaults 6 and 3. -/
theorem test_patronOpen : onCirculation (.patronOpen (hdr .patronOpen) 31107 2 0 0) State.reset = some (.accepted, [6, 3]) := by decide
/-- R20: 20 is stored as 15, and a restore not below it as 14. -/
theorem test_patronOpen_clamped :
    onCirculation (.patronOpen (hdr .patronOpen) 31107 2 20 20) State.reset = some (.clamped, [15, 14]) := by decide
/-- R21: a limit high below the outstanding count is refused. -/
theorem test_patronSet : onCirculation (.patronSet (hdr .patronSet) 31107 2 2 1 0) limit0 = some (.wrongState, [0]) := by decide
/-- R21, R3: high 3 equals the outstanding count 3, so LIMIT is set. -/
theorem test_patronSet_limit :
    onCirculation (.patronSet (hdr .patronSet) 31107 2 3 1 0) limit0 = some (.accepted, [3, 1, 1, 0, 0]) := by decide
/-- R22: a patron with orders or loans stays. -/
theorem test_patronClose : onCirculation (.patronClose (hdr .patronClose) 31107) limit0 = some (.wrongState, [0]) := by decide
/-- R23: the record after step 5. -/
theorem test_patronQuery : onCirculation (.patronQuery (hdr .patronQuery) 31107) limit5 =
    some (.accepted, [2, 4, 2, 4, 0, 1, 0, 0, 3, 5040, 5050, 5060, 0]) := by decide
/-- Step 1: order 119, outstanding 4, LIMIT. Step 4: a title already deferred. -/
theorem test_orderPlace :
    ((after (.orderPlace (hdr .orderPlace) 31107 5030 0) limit0).map (fun t => (t.patrons, t.book.queue)) =
    some ([(31107, ⟨2, 4, 2, 4, 0, ⟨true, false, false⟩, [], none⟩)], [118, 119])) ∧
    ((onCirculation (.orderPlace (hdr .orderPlace) 31107 5040 0) limit5).map Prod.fst =
    some .duplicate) := by decide
/-- Step 7: the response reports 4, not the 2 left by the cancel itself. Step 7, Table 1-7: orders 120 and 121 created at STANDARD, 5060 left, LIMIT set. -/
theorem test_orderCancel :
    (onCirculation (.orderCancel (hdr .orderCancel) 118) limit6 = some (.accepted, [31107, 4])) ∧
    ((after (.orderCancel (hdr .orderCancel) 118) limit6).map (fun t => (t.patrons, t.book.queue)) =
    some ([(31107, ⟨2, 4, 2, 4, 0, ⟨true, false, false⟩, [5060], none⟩)], [119, 120, 121])) := by decide
/-- R24: order 118 found by patron and title, at place 1 of the queue. -/
theorem test_orderQuery : onCirculation (.orderQuery (hdr .orderQuery) 1 0 31107 5020) limit5 =
    some (.accepted, [118, 31107, 5020, 0, 0, 0, 0, 0, 0, 0, 0, 0, 0, 0, 0, 1]) := by decide
/-- R24: a loan found by number. -/
theorem test_loanQuery : (onCirculation (.loanQuery (hdr .loanQuery) 0 1 0 0) limit5).map (fun r => r.2.take 7) =
    some [1, 31107, 5010, 9, 0, 42, 0] := by decide

/-! ### Titles and braille copies (Tables 2-4 and 2-6) -/

/-- A braille order of title 7700. -/
def brailleOrder (patron : Nat) (state : OrderState) (copy : Option Nat) (pr : Priority := .standard) : Order :=
  ⟨patron, 7700, .braille, pr, 0, 0, state, 0, none, none, copy, none, .noTag, none⟩

/-- The book of Table 2-4 after step 7, with the copies and the hold queue given. -/
def brailleState (copies : List Copy) (hold : List Nat) : State :=
  { State.reset with
    patrons := [(52002, plainPatron), (52003, plainPatron), (52004, plainPatron), (52005, plainPatron), (52006, plainPatron)]
    titles := [(7700, .braille (copyMap copies) hold)]
    book := ⟨[(401, brailleOrder 52002 .ready (some 1)), (402, brailleOrder 52003 .waitingCopy none),
      (403, brailleOrder 52004 .ready (some 0) .rush), (404, brailleOrder 52005 .waitingCopy none)], 405, []⟩ }

/-- Steps 7 and 8. -/
def braille7 : State := brailleState [.allocated 403, .allocated 401] [402, 404]

/-- Step 1. -/
theorem test_titleLoad : (after (.titleLoad (hdr .titleLoad) 7700 1 0 0 2) State.reset).map State.titles =
    some [(7700, .braille (copyMap [.onShelf, .onShelf]) [])] := by decide
/-- R34: an image size of 0 is stored as 1. -/
theorem test_titleLoad_clamped : onCirculation (.titleLoad (hdr .titleLoad) 5010 0 0 1 0) State.reset = some (.clamped, [1, 1]) := by decide
/-- Step 8. -/
theorem test_titleSet_refused : onCirculation (.titleSet (hdr .titleSet) 7700 0 0 1) braille7 = some (.wrongState, [0]) := by decide
/-- Step 9: copy 2 to order 402 and copy 3 to order 404, with two PICK notices in that order. -/
theorem test_titleSet_raises : (after (.titleSet (hdr .titleSet) 7700 0 0 4) braille7).map (fun t => (t.titles, noticesOf t .mail)) =
    some ([(7700, .braille (copyMap [.allocated 403, .allocated 401, .allocated 402, .allocated 404]) [])],
      [(.pick, 402), (.pick, 404)]) := by decide
/-- Step 14 and R29: the order waits behind those that wait. -/
theorem test_orderPlace_waits : (after (.orderPlace (hdr .orderPlace) 52006 7700 0) braille7).map State.titles =
    some [(7700, .braille (copyMap [.allocated 403, .allocated 401]) [402, 404, 405])] := by decide
/-- R40: the counts, the hold queue's ends and the entry of copy 0. -/
theorem test_titleQuery : onCirculation (.titleQuery (hdr .titleQuery) 7700 0) braille7 =
    some (.accepted, [2, 0, 2, 0, 2, 402, 404, 2, 403]) := by decide

/-- Table 2-6 before the drop. -/
def dropState : State :=
  { State.reset with
    patrons := [(60011, { plainPatron with causes := ⟨true, false, false⟩, deferred := [8120] }),
      (60410, { plainPatron with causes := ⟨false, true, false⟩, deferred := [8100, 8120, 8133] }),
      (61900, { plainPatron with deferred := [8133] })]
    titles := [(8100, .cartridge 9 .a), (8120, .cartridge 9 .a), (8133, .cartridge 9 .a)] }

/-- Table 2-6. -/
theorem test_titleDrop : (after (.titleDrop (hdr .titleDrop) 8120) dropState).map
      (fun t => (t.patrons.map (fun e => e.2.deferred), noticesOf t .circulation)) =
    some ([[], [8100, 8133], [8133]], [(.deferredDropped, 60011), (.deferredDropped, 60410)]) := by decide
/-- R39: the response reports two patrons changed. -/
theorem test_titleDrop_reply : onCirculation (.titleDrop (hdr .titleDrop) 8120) dropState = some (.accepted, [2]) := by decide

/-! ### Cartridges and bays (Tables 3-6 and 4-6) -/

/-- Table 3-5, step 0. -/
def feed0 : State :=
  { State.reset with
    titles := [(1, .cartridge 12000 .a), (2, .cartridge 8000 .a), (3, .cartridge 5000 .a)]
    patrons := [(7, plainPatron)]
    book := ⟨[(610, pendingOrder 7 1), (611, pendingOrder 7 2), (612, pendingOrder 7 3)], 613, [610, 611, 612]⟩
    carts := ⟨[(9001, ⟨.blank, 12, 0, 0, .unbound, none⟩), (9002, ⟨.blank, 640, 1, 0, .unbound, none⟩),
      (9101, ⟨.needsBlank, 1000, 0, 30000, .unbound, none⟩), (9102, ⟨.needsBlank, 40, 0, 3000, .unbound, none⟩)],
      [9001, 9002], [9101, 9102]⟩
    loans := { State.reset.loans with poolReserve := 2 } }

/-- Step 2: bay 4 is WRITING, the pool has lost 9001 and the queue 610. -/
def feed2 : State :=
  { feed0 with
    book := ⟨[(610, writingOrder 7 1 4 9001), (611, pendingOrder 7 2), (612, pendingOrder 7 3)], 613, [611, 612]⟩
    bays := State.reset.bays.set 4 (writingBay 9001 610 .a 12000 12000)
    carts := ⟨[(9001, ⟨.inBay, 13, 0, 12000, .order 610, some 4⟩), (9002, ⟨.blank, 640, 1, 0, .unbound, none⟩),
      (9101, ⟨.needsBlank, 1000, 0, 30000, .unbound, none⟩), (9102, ⟨.needsBlank, 40, 0, 3000, .unbound, none⟩)],
      [9002], [9101, 9102]⟩ }

/-- Step 1: case 2, 9001 from the pool. -/
theorem test_nextInsert : onRackPort (.nextInsert (hdr .nextInsert)) feed0 =
    some (.accepted, [2, 9001, 0, 12, 0, 2, 2, 3, 0]) := by decide
/-- Step 3: case 1, 9101 from the backlog. -/
theorem test_nextInsert_low : onRackPort (.nextInsert (hdr .nextInsert)) feed2 =
    some (.accepted, [1, 9101, 1, 1000, 30000, 1, 2, 2, 0]) := by decide
/-- Step 2 and R44: write count 13, dirty extent 12000, the bay WRITING. -/
theorem test_bayInsert : (after (.bayInsert (hdr .bayInsert) 4 9001) feed0).map (fun t => (t.bays, t.carts, t.book.queue)) =
    some (feed2.bays, feed2.carts, [611, 612]) := by decide
/-- Step 6: 3000 blocks make a BLANK job of 3008. Step 4: WORN, and the cartridge retired out of the backlog. -/
theorem test_bayInsert_blanks :
    ((after (.bayInsert (hdr .bayInsert) 5 9102) feed2).map (fun t => t.bay 5) =
    some (blankingBay 9102 3008 3008)) ∧
    (onRackPort (.bayInsert (hdr .bayInsert) 5 9101) feed2 = some (.worn, [1000, 1000])) := by decide
/-- Step 9. -/
theorem test_cartridgeAdd : onCirculation (.cartridgeAdd (hdr .cartridgeAdd) 9300) feed2 = some (.accepted, [2]) := by decide
/-- Step 13: an IN_BAY cartridge stays. -/
theorem test_cartridgeDrop : onCirculation (.cartridgeDrop (hdr .cartridgeDrop) 9001) feed2 = some (.wrongState, [0]) := by decide
/-- R55, R43: a cartridge in the backlog at place 2. -/
theorem test_cartridgeQuery : onCirculation (.cartridgeQuery (hdr .cartridgeQuery) 9102) feed2 =
    some (.accepted, [9102, 1, 40, 0, 3000, 0, 0, 0, 1, 2, 0]) := by decide

/-- Table 4-6, step 4, with the states of bay 6's cartridge and order given. -/
def pair3 (failures retry writes : Nat) : State :=
  { State.reset with
    titles := [(3300, .cartridge 2000 .a), (3310, .cartridge 700 .b)]
    patrons := [(7, { plainPatron with outstanding := 2 })]
    book := ⟨[(720, writingOrder 7 3300 7 9401),
      (721, { pendingOrder 7 3310 .rush with state := .verifying, retry := retry, bay := some 6, serial := some 9400 })], 722, []⟩
    bays := (State.reset.bays.set 6 ⟨.verifying, some 9400, some ⟨.write 721 .b, 700, 0⟩, none, none⟩).set 7
      (writingBay 9401 720 .a 2000 2000)
    carts := ⟨[(9400, ⟨.inBay, writes, failures, 700, .order 721, some 6⟩), (9401, ⟨.inBay, 201, 1, 2000, .order 720, some 7⟩)],
      [], []⟩ }

/-- Step 6: bay 7 FAULTED, order 720 behind the RUSH order 721 in the queue. -/
def pair3faulted : State :=
  { pair3 1 1 56 with
    book := ⟨[(720, pendingOrder 7 3300), (721, { pendingOrder 7 3310 .rush with retry := 1 })], 722, [721, 720]⟩
    bays := (State.reset.bays.set 6 (blankingBay 9400 704 704)).set 7
      ⟨.faulted, some 9401, none, some .drive, some ⟨.write 720 .a, 2000, 2000⟩⟩
    carts := ⟨[(9400, ⟨.needsBlank, 56, 1, 700, .unbound, some 6⟩), (9401, ⟨.needsBlank, 201, 1, 2000, .unbound, some 7⟩)],
      [], []⟩ }

/-- Step 5: the bay BLANKING 704 of 704, one failure, the order PENDING with retry 1. -/
theorem test_verifyDone_fail : (after (.verifyDone (hdr .verifyDone) 6 1) (pair3 0 0 56)).map
      (fun t => (t.bay 6, t.cart 9400, t.order 721)) =
    some (blankingBay 9400 704 704, some ⟨.needsBlank, 56, 1, 700, .unbound, some 6⟩,
      some { pendingOrder 7 3310 .rush with retry := 1 }) := by decide
/-- Step 11: EJECT, RETIRED and STALLED in one event, and the notice. -/
theorem test_verifyDone_stalls : (after (.verifyDone (hdr .verifyDone) 6 1) (pair3 1 1 57)).map
      (fun t => ((t.bay 6).state, t.cart 9400, noticesOf t .circulation)) =
    some (BayState.eject, some ⟨.retired, 57, 2, 700, .unbound, some 6⟩, [(.orderStalled, 721)]) := by decide
/-- Step 6: the order back at the head of the STANDARD class behind 721. -/
theorem test_bayFault : (after (.bayFault (hdr .bayFault) 7 1)
      { pair3 0 0 56 with book := { (pair3 0 0 56).book with
          orders := [(720, writingOrder 7 3300 7 9401), (721, pendingOrder 7 3310 .rush)], queue := [721] } }).map
      (fun t => (t.bay 7, t.book.queue, t.cart 9401)) =
    some (⟨.faulted, some 9401, none, some .drive, some ⟨.write 720 .a, 2000, 2000⟩⟩, [721, 720],
      some ⟨.needsBlank, 201, 1, 2000, .unbound, some 7⟩) := by decide
/-- Step 7: the cartridge to the backlog (destination 3), the bay still FAULTED. -/
theorem test_bayRemove : onRackPort (.bayRemove (hdr .bayRemove) 7) pair3faulted = some (.accepted, [9401, 3]) := by decide
/-- Step 8: a FAULTED bay with its cartridge out is EMPTY again. -/
theorem test_bayClear : (after (.bayClear (hdr .bayClear) 7) { pair3faulted with
      bays := pair3faulted.bays.set 7 ⟨.faulted, none, none, some .drive, some ⟨.write 720 .a, 2000, 2000⟩⟩ }).map (fun t => t.bay 7) =
    some ⟨.empty, none, none, none, none⟩ := by decide
/-- R81: bay 7 after the fault. -/
theorem test_bayQuery : onCirculation (.bayQuery (hdr .bayQuery) 7) pair3faulted =
    some (.accepted, [7, 9401, 0, 0, 0, 0, 0, 0, 1, 0, 1, 720, 2000, 2000, 0]) := by decide
/-- 4.13, last paragraph: ORDER_RETRY puts 721 at the tail of the RUSH class with retry count 0. -/
theorem test_orderRetry : (after (.orderRetry (hdr .orderRetry) 721) { pair3faulted with
      book := ⟨[(720, pendingOrder 7 3300), (721, { pendingOrder 7 3310 .rush with state := .stalled, retry := 1 })], 722, [720]⟩ }).map
      (fun t => t.book.queue) = some [721, 720] := by decide

/-! ### The rack (Tables 5-4 and 6-4) -/

/-- Table 5-3: six bays, round 41 the last. -/
def rounds0 : State :=
  { State.reset with
    titles := [(1, .cartridge 100 .a), (2, .cartridge 40 .b), (3, .cartridge 200 .a), (4, .cartridge 64 .a)]
    patrons := [(7, { plainPatron with outstanding := 4 })]
    book := ⟨[(830, writingOrder 7 1 2 20), (831, writingOrder 7 2 8 22), (832, writingOrder 7 3 14 23),
      (833, writingOrder 7 4 15 24)], 834, []⟩
    carts := ⟨[(20, boundCart 830 2 100), (21, ⟨.needsBlank, 1, 0, 64, .unbound, some 3⟩), (22, boundCart 831 8 40),
      (23, boundCart 832 14 200), (24, boundCart 833 15 64)], [], []⟩
    bays := ((((State.reset.bays.set 2 (writingBay 20 830 .a 100 100)).set 3 (blankingBay 21 48 64)).set 8
      (writingBay 22 831 .b 40 40)).set 14 (writingBay 23 832 .a 200 200)).set 15 (writingBay 24 833 .a 64 64)
    rack := { State.reset.rack with state := .running, roundNumber := 41 } }

/-- Round 42's list (step 1). -/
def entries42 : List Entry := [⟨1, true, true⟩, ⟨4, true, false⟩, ⟨7, true, true⟩]

/-- Step 3: pair 4 granted 16 and 0. -/
def rounds3 : State :=
  { rounds0 with
    rack := { rounds0.rack with
      roundNumber := 42, round := some ⟨42, 159, entries42, 1, 1⟩
      slot := some ⟨4, ⟨16, some (.write 831 .b), false⟩, ⟨0, none, false⟩, 0, 282⟩ } }

/-- Step 8: round 43, pair 1 granted 36 and 16. -/
def rounds8 : State :=
  { rounds0 with
    bays := (rounds0.bays.set 2 (writingBay 20 830 .a 36 100)).set 3 (blankingBay 21 32 64)
    rack := { rounds0.rack with
      roundNumber := 43, round := some ⟨43, 131, [⟨1, true, true⟩, ⟨4, true, false⟩, ⟨7, true, false⟩], 0, 0⟩
      slot := some ⟨1, ⟨36, some (.write 830 .a), false⟩, ⟨16, some .blank, false⟩, 0, 322⟩ } }

/-- Step 1: round 42, pair 1, 64 and 16, deadline 378 ct. Step 1: the round time is 159 ct and the list has the three pairs. -/
theorem test_sliceNext :
    (onRackPort (.sliceNext (hdr .sliceNext)) rounds0 =
    some (.accepted, [42, 1, 1, 3, 64, 1, 100, 16, 2, 48, 378])) ∧
    ((after (.sliceNext (hdr .sliceNext)) rounds0).map (fun t => t.rack.round) =
    some (some ⟨42, 159, entries42, 0, 0⟩)) := by decide
/-- Step 4: the cancelled job's grant is lost, the bay leaves the round and blanks 64 of 64. -/
theorem test_cancel_loses_grant : (after (.orderCancel (hdr .orderCancel) 831) rounds3).map
      (fun t => (t.bay 8, t.rack.slot.map (fun sl => sl.even.lost), t.rack.round.map Round.entries)) =
    some (blankingBay 22 64 64, some true, some [⟨1, true, true⟩, ⟨4, false, false⟩, ⟨7, true, true⟩]) := by decide
/-- Step 9: bay 2 VERIFYING, bay 3 FAULTED with 21 of 64 on record, the next entry past pair 1. -/
theorem test_sliceDone : (after (.sliceDone (hdr .sliceDone) 36 11) rounds8).map
      (fun t => ((t.bay 2).state, t.bay 3, t.rack.round.map Round.next)) =
    some (.verifying, ⟨.faulted, some 21, none, some .shortWrite, some ⟨.blank, 64, 21⟩⟩, some 1) := by decide
/-- Step 12: a report with no slot outstanding. -/
theorem test_sliceDone_late : onRackPort (.sliceDone (hdr .sliceDone) 16 0) rounds0 = some (.tooLate, [0]) := by decide
/-- Step 11: STALLED, the round kept, a SLOT_TIMEOUT for the pair. -/
theorem test_slotExpiry : (after .slotExpiry rounds3).map
      (fun t => (t.rack.state, t.rack.round.map Round.number, (t.unit .rack).notices.map Notice.subject)) =
    some (.stalled, some 42, [4]) := by decide
/-- R86: RACK_STOP drops the slot and reports its pair and grants. -/
theorem test_rackStop : onRackPort (.rackStop (hdr .rackStop)) rounds3 = some (.accepted, [1, 1, 4, 16, 0]) := by decide
/-- Step 13: RACK_START of a STALLED rack keeps its round. -/
theorem test_rackStart : onRackPort (.rackStart (hdr .rackStart))
    { rounds3 with rack := { rounds3.rack with state := .stalled, slot := none } } = some (.accepted, [1, 1, 42, 1]) := by decide
/-- R87: widths of 0 are stored as 1; the mode of a STOPPED rack changes. -/
theorem test_rackSet : onRackPort (.rackSet (hdr .rackSet) 0 0 0 255 0) State.reset = some (.clamped, [1, 1, 0, 255, 0]) := by decide
/-- R99: the record with its round and its slot, 282 ticks before the deadline. -/
theorem test_rackQuery : onCirculation (.rackQuery (hdr .rackQuery)) rounds3 =
    some (.accepted, [1, 1, 64, 16, 1, 3, 1, 42, 1, 159, 3, 2, 1, 1, 1, 4, 1, 0, 7, 1, 1, 4, 16, 0, 1, 0, 0, 0, 282]) := by decide

/-- Table 6-3: the jobs at a round start at second 50000. -/
def project0 : State :=
  { State.reset with
    clock := { State.reset.clock with second := 50000 }
    titles := [(1, .cartridge 12000 .a), (2, .cartridge 2560 .a), (3, .cartridge 30000 .b), (4, .cartridge 9000 .a)]
    patrons := [(7, { plainPatron with outstanding := 4 })]
    book := ⟨[(901, writingOrder 7 1 0 20), (902, writingOrder 7 2 6 21), (903, writingOrder 7 3 10 22),
      (904, writingOrder 7 4 11 23)], 905, []⟩
    bays := ((((State.reset.bays.set 0 (writingBay 20 901 .a 1000 12000)).set 1 (blankingBay 24 320 320)).set 6
      (writingBay 21 902 .a 40 2560)).set 10 (writingBay 22 903 .b 5000 30000)).set 11 (writingBay 23 904 .a 200 9000)
    rack := { State.reset.rack with state := .running } }

/-- Table 6-4. -/
theorem test_projection : (after (.sliceNext (hdr .sliceNext)) project0).map (fun t => t.book.orders.map (fun e => (e.2.ready, e.2.tag))) =
    some [(some 50608, .onTime), (some 50601, .onTime), (some 50719, .onTime), (some 50603, .onTime)] := by decide
/-- R111: order 903 before the round: WRITING in bay 10 with 5000 blocks left; L is 59400. -/
theorem test_projectionQuery : onCirculation (.projectionQuery (hdr .projectionQuery) 903) project0 =
    some (.accepted, [2, 0, 1, 0, 7, 10, 5000, 50000, 0, 59400]) := by decide

/-! ### The day clock and the mail line (Tables 7-2, 7-3, 8-4 and 8-5) -/

/-- Table 7-2: the four rows. -/
theorem test_mailDay :
    (deriveMailDay 59399 (lastCallSecond 61200 1800) 61200, deriveMailDay 59400 (lastCallSecond 61200 1800) 61200,
      deriveMailDay 61199 (lastCallSecond 61200 0) 61200, deriveMailDay 0 (lastCallSecond 1800 1800) 1800) =
      (.day, .lastCall, .day, .lastCall) ∧ deriveMailDay 0 (lastCallSecond 0 0) 0 = .afterCutoff := by decide

/-- Table 7-3, step 0, at second 59399 of day 300. -/
def day0 : State :=
  { State.reset with
    clock := { State.reset.clock with second := 59399, day := 300 }
    patrons := [(40021, { plainPatron with region := 2, openContainer := some 5120 }),
      (40877, { plainPatron with region := 5, openContainer := some 5121 })]
    titles := [(1, .braille (copyMap [.allocated 990]) [])]
    book := ⟨[(990, { pendingOrder 40021 1 with format := .braille, copy := some 0, state := .ready, ready := some 59000, tag := .onTime })], 991, []⟩
    packing := { State.reset.packing with
      containers := [(5120, ⟨40021, 2, .opened, [], false, 58000, none, true, none⟩),
        (5121, ⟨40877, 5, .opened, [], false, 59000, some 399, false, none⟩)]
      bags := [(7, ⟨2, .filling, [5119], false⟩), (9, ⟨5, .filling, [5118], false⟩)] } }

/-- Table 7-3, before step 3. -/
def day3 : State :=
  { day0 with
    clock := { day0.clock with second := 60299, cutoff := 60300, mailDay := .lastCall }
    packing := { day0.packing with containers := [] } }

/-- Step 1: the notices of the last call, in their order. -/
theorem test_secondAdvance : (after .secondAdvance day0).map (fun t => (t.clock.mailDay, noticesOf t .mail)) =
    some (.lastCall, [(.lastCall, 300), (.containerClosed, 5120), (.containerClosed, 5121), (.projectionChanged, 990)]) := by decide
/-- Step 8: second 61000 of day 301 with C 62000 is LAST_CALL; the day does not change. -/
theorem test_clockSet : onCirculation (.clockSet (hdr .clockSet) 301 61000)
    { day0 with clock := { day0.clock with day := 301, second := 0, cutoff := 62000 } } =
    some (.accepted, [301, 0, 0, 301, 61000, 1, 1, 0, 0]) := by decide
/-- Step 4: the new cut-off lies ahead of the second, so the state moves back. -/
theorem test_mailSet : onMail (.mailSet (hdr .mailSet) 62000 1800 900 600)
    { day3 with clock := { day3.clock with second := 61000, mailDay := .afterCutoff } } =
    some (.accepted, [62000, 1800, 900, 600, 60200, 2, 1, 0, 0]) := by decide
/-- R148: each value at its nearer end. -/
theorem test_circSet : onCirculation (.circSet (hdr .circSet) 366 61 0 1025) State.reset = some (.clamped, [365, 60, 1, 1024]) := by decide

/-- Table 8-4, before step 1: second 40000 of day 220. -/
def packState : State :=
  { State.reset with
    clock := { State.reset.clock with second := 40000, day := 220 }
    patrons := [(45310, { plainPatron with region := 4, outstanding := 4 })]
    titles := [(1, .cartridge 500 .a), (7710, .braille (copyMap [.absent, .absent, .absent, .absent, .absent, .allocated 1203]) [])]
    book := ⟨[(1201, { pendingOrder 45310 1 with state := .ready, serial := some 9510, ready := some 39000, tag := .onTime }),
      (1203, { pendingOrder 45310 7710 with format := .braille, copy := some 5, state := .ready, ready := some 39000, tag := .onTime })],
      1205, []⟩
    carts := ⟨[(9510, ⟨.written, 3, 0, 500, .order 1201, none⟩)], [], []⟩
    packing := { State.reset.packing with containerCounter := 300, bagCounter := 12 }
    loans := { State.reset.loans with counter := 510 } }

/-- Table 8-4 after step 2, the second idle second of container 300 set to `idle`. -/
def packState2 (idle : Nat) (orders : Table Order) : State :=
  { packState with
    patrons := [(45310, { plainPatron with region := 4, outstanding := 4, openContainer := some 300 })]
    book := { packState.book with orders := orders }
    packing := { packState.packing with
      containers := [(300, ⟨45310, 4, .opened, [1201], false, 40000, some idle, false, none⟩),
        (301, ⟨45310, 4, .closed, [1203], true, 40120, none, false, none⟩)] } }

/-- The two orders PACKED, and order 1202 WRITING and ON_TIME or gone. -/
def packedOrders (waiting : Bool) : Table Order :=
  [(1201, { pendingOrder 45310 1 with state := .packed, serial := some 9510, container := some 300 })] ++
  (if waiting then [(1202, { writingOrder 45310 2 12 9511 with tag := .onTime, ready := some 42000 })] else []) ++
  [(1203, { pendingOrder 45310 7710 with format := .braille, copy := some 5, state := .packed, container := some 301 })]

/-- Step 12: bag 12 CLOSED at the cut-off with containers 301 and 300. -/
def bagState : State :=
  { packState2 0 (packedOrders false) with
    carts := ⟨[(9510, ⟨.packed, 3, 0, 500, .order 1201, none⟩)], [], []⟩
    packing := { packState.packing with
      containers := [(300, ⟨45310, 4, .bagged, [1201], false, 40000, none, false, some 12⟩),
        (301, ⟨45310, 4, .bagged, [1203], true, 40120, none, false, some 12⟩)]
      bags := [(12, ⟨4, .closed, [301, 300], true⟩)] } }

/-- Step 1: container 300, new, OPEN. -/
theorem test_packItem : onMail (.packItem (hdr .packItem) 0 9510 0) packState =
    some (.accepted, [300, 45310, 4, 1201, 1, 1, 0]) := by decide
/-- Step 2 (for a first container): a braille copy's container closes at once. R18, R127: a copy that a cancel gave
to the order at the head of the hold queue is packed for that order (log entry 29). -/
theorem test_packItem_braille :
    (onMail (.packItem (hdr .packItem) 1 7710 5) packState = some (.accepted, [300, 45310, 4, 1203, 1, 1, 1])) ∧
    (((after (.orderCancel (hdr .orderCancel) 403) braille7).bind (onMail (.packItem (hdr .packItem) 1 7700 0))) =
      some (.accepted, [1, 52003, 1, 402, 1, 1, 1])) := by decide

/-- 8.9: 16 bags, bag 40 CLOSED for region 6, and four containers waiting. -/
def drainState : State :=
  { State.reset with
    packing := { State.reset.packing with
      bagCounter := 42
      bags := [(20, ⟨3, .filling, [1], false⟩), (21, ⟨3, .closed, [1], false⟩), (22, ⟨3, .closed, [1], false⟩),
        (23, ⟨3, .closed, [1], false⟩), (24, ⟨3, .closed, [1], false⟩), (25, ⟨3, .closed, [1], false⟩),
        (26, ⟨3, .closed, [1], false⟩), (27, ⟨3, .closed, [1], false⟩), (28, ⟨3, .closed, [1], false⟩),
        (29, ⟨3, .closed, [1], false⟩), (30, ⟨3, .closed, [1], false⟩), (31, ⟨3, .closed, [1], false⟩),
        (32, ⟨3, .closed, [1], false⟩), (33, ⟨3, .closed, [1], false⟩), (34, ⟨3, .closed, [1], false⟩),
        (40, ⟨6, .closed, [600], false⟩)]
      unbagged := [710, 711, 712, 713]
      containers := [(600, ⟨7, 6, .bagged, [], false, 0, none, false, some 40⟩),
        (710, ⟨7, 1, .waitingBag, [], false, 0, none, false, none⟩), (711, ⟨7, 2, .waitingBag, [], false, 0, none, false, none⟩),
        (712, ⟨7, 1, .waitingBag, [], false, 0, none, false, none⟩), (713, ⟨7, 1, .waitingBag, [], false, 0, none, false, none⟩)] } }

/-- Table 8-5: bag 42 with 710, 712 and 713, and 711 left; three drained and one that waits, in one and two bytes. -/
theorem test_bagHanded_drains :
    ((after (.bagHanded (hdr .bagHanded) 40) drainState).map (fun t => (t.bag 42, t.packing.unbagged)) =
      some (some ⟨1, .filling, [710, 712, 713], false⟩, [711])) ∧
    ((after (.bagHanded (hdr .bagHanded) 40) drainState).map (fun t => match (t.unit .mail).slot with
      | .awaiting r => r.body
      | _ => []) = some [u1 1, u1 0, u1 3, u2 1]) := by decide

/-! ### The returns lane (Tables 9-5, 9-6 and 11-1) -/

/-- Table 9-4 after the sweep of day 382. -/
def laneState : State :=
  { State.reset with
    clock := { State.reset.clock with day := 382 }
    patrons := [(47120, ⟨1, 5, 2, 5, 2, ⟨true, true, false⟩, [3500, 3510, 7730], none⟩)]
    titles := [(3400, .cartridge 9 .a), (3500, .cartridge 9 .a), (3510, .cartridge 9 .a),
      (7730, .braille (copyMap [.onShelf]) [])]
    carts := ⟨[(9620, ⟨.onLoan, 212, 0, 9, .loan 601, none⟩), (9622, ⟨.onLoan, 5, 0, 9, .loan 604, none⟩)], [], []⟩
    book := ⟨[], 1510, []⟩
    loans := { State.reset.loans with
      loans := [(601, ⟨47120, 3400, .cartridge 9620, 324, 366, .overdue⟩), (604, ⟨47120, 3420, .cartridge 9622, 325, 367, .overdue⟩)] } }

/-- Step 7: the counts at 3 and 1, LIMIT and OVERDUE held. -/
def laneState7 : State :=
  { laneState with patrons := [(47120, ⟨1, 5, 2, 3, 1, ⟨true, true, false⟩, [3500, 3510, 7730], none⟩)] }

/-- The lane after step 2: stopped with the captured error. -/
def stoppedState : State :=
  { laneState with lane := ⟨.stopped, some ⟨.unreadable, .unreadable, none, 382, 700⟩, false, ⟨false, false, false⟩, 1, 1⟩ }

/-- Step 3: a STOPPED lane refuses the next item. Step 2: the lane stops, with RETURN_ERROR and LANE_STOPPED on the returns port. Step 6: between restore and high, LIMIT keeps its value and no pass runs. -/
theorem test_returnItem_stopped :
    (onReturns (.returnItem (hdr .returnItem) 0 9620 0 0) stoppedState = some (.laneStopped, [0])) ∧
    ((after (.returnItem (hdr .returnItem) 2 0 0 0) laneState).map
      (fun t => (t.lane.state, (t.unit .returns).notices.map Notice.kind, (t.unit .circulation).notices.map Notice.kind)) =
    some (.stopped, [.returnError, .laneStopped], [.returnError])) ∧
    ((after (.returnItem (hdr .returnItem) 0 9 0 0) limit5).map State.patrons = some limit6.patrons) := by decide
/-- Step 5: the captured error in the response, and the lane RUNNING. -/
theorem test_laneClear : onReturns (.laneClear (hdr .laneClear)) stoppedState = some (.accepted, [1, 0, 1, 2, 0, 382, 700, 0]) := by decide
/-- Step 4: the mask is stored while the lane stays STOPPED. -/
theorem test_laneMask : onReturns (.laneMask (hdr .laneMask) 1 0 0) stoppedState = some (.accepted, [1, 0, 0, 1]) := by decide
/-- R159: the lane with no capture. -/
theorem test_laneQuery : onCirculation (.laneQuery (hdr .laneQuery)) laneState = some (.accepted, [0, 1, 0, 0, 0, 0, 0, 0, 2, 2]) := by decide
/-- Step 3: both bags CLOSED with the flag, and the notices of the cut-off. Table 9-5, the rollover into day 382: loan 604 made OVERDUE (367 + 14 is below 382). -/
theorem test_secondAdvance_cutoff :
    ((after .secondAdvance day3).map (fun t => (t.packing.bags.map (fun e => (e.2.state, e.2.atCutoff)),
      noticesOf t .mail)) =
    some ([(.closed, true), (.closed, true)], [(.cutoff, 300), (.bagClosed, 7), (.bagClosed, 9)])) ∧
    ((after .secondAdvance { laneState with
      clock := { laneState.clock with day := 381, second := 86399, mailDay := .afterCutoff }
      loans := { laneState.loans with loans := [(602, ⟨47120, 7720, .copy 2, 338, 380, .out⟩), (604, ⟨47120, 3420, .cartridge 9622, 325, 367, .out⟩)] } }).map
      (fun t => t.loans.loans.map (fun e => (e.1, e.2.state))) = some [(602, .out), (604, .overdue)]) := by decide

/-- Table 11-1, before step 2: second 29000 of day 500, bay 0 ARMED. -/
def serviceDay : State :=
  { State.reset with
    clock := { State.reset.clock with day := 500, second := 29000 }
    patrons := [(50200, ⟨3, 6, 3, 1, 1, ⟨false, true, false⟩, [2100], none⟩)]
    titles := [(2100, .cartridge 3000 .a)]
    book := ⟨[], 2000, []⟩
    carts := ⟨[(9650, ⟨.onLoan, 8, 0, 50, .loan 650, none⟩), (9700, ⟨.blank, 40, 0, 0, .unbound, some 0⟩)], [], []⟩
    bays := State.reset.bays.set 0 ⟨.armed, some 9700, none, none, none⟩
    rack := { State.reset.rack with state := .running }
    loans := { State.reset.loans with loans := [(650, ⟨50200, 2101, .cartridge 9650, 438, 480, .overdue⟩)] } }

/-- Step 1: the cartridge to the backlog, outstanding 4, overdue 1, OVERDUE still held, LIMIT kept. Step 7 and Table 9-7: RETIRED, three orders created, the list empty and LIMIT set again. Step 2: order 2000 WRITING in bay 0, projected for 29607, ON_TIME. -/
theorem test_returnItem :
    ((after (.returnItem (hdr .returnItem) 0 9620 0 0) laneState).map (fun t => (t.patrons, t.carts.backlog)) =
    some ([(47120, ⟨1, 5, 2, 4, 1, ⟨true, true, false⟩, [3500, 3510, 7730], none⟩)], [9620])) ∧
    ((after (.returnItem (hdr .returnItem) 0 9622 0 1) laneState7).map
      (fun t => (t.patrons, t.book.queue, noticesOf t .mail)) =
    some ([(47120, ⟨1, 5, 2, 5, 0, ⟨true, false, false⟩, [], none⟩)], [1510, 1511], [(.pick, 1512)])) ∧
    ((after (.returnItem (hdr .returnItem) 0 9650 0 0) serviceDay).map
      (fun t => (t.order 2000).map (fun o => (o.ready, o.tag, o.bay))) =
    some (some (some 29607, .onTime, some 0))) := by decide

/-! ### Ports (Chapter 10) -/

/-- A rack port in PULSE mode whose slot awaits an answer, with OVERRUN set. -/
def awaitState : State :=
  State.reset.onUnit .rack (fun u => { u with slot := .awaiting ⟨0x36, 9, .wrongState, [u1 0], none⟩, overrun := true, mode := .pulse })

/-- Table 10-2: N 7, kind, tag, WRONG_STATE 0x17, OVERRUN, body 0, check byte; the marks cleared, one pulse. -/
theorem test_responsePlaced : (after (.responsePlaced .rack) awaitState).map (fun t => t.unit .rack) =
    some { PortUnit.reset with slot := .holding [0x07, 0x36, 0x09, 0x17, 0x01, 0x00, 0xA2], mode := .pulse, pulses := 1 } := by decide
/-- R167: a period that reads every byte empties the slot. -/
theorem test_readPeriod : (after (.readPeriod .rack 8) (State.reset.onUnit .rack (fun u => { u with slot := .holding [1, 2, 3] }))).map
    (fun t => ((t.unit .rack).slot, (t.unit .rack).shifted)) = some (.empty, [1, 2, 3]) := by decide
/-- R165: a discarded frame sets BAD_FRAME. -/
theorem test_frameDiscard : (after (.frameDiscard .mail 3) State.reset).map (fun t => (t.unit .mail).badFrame) = some true := by decide
/-- R166: an occupied slot sets OVERRUN and the request is not taken. -/
theorem test_overrun : (after (.rackStart (hdr .rackStart)) awaitState).map (fun t => ((t.unit .rack).overrun, t.rack.state)) =
    some (true, .stopped) := by decide
/-- R166: a rack kind on the mail port. -/
theorem test_notPermitted : reply .mail (.rackStart ⟨.mail, 1, 5, 5⟩) State.reset = some (.notPermitted, [0]) := by decide
/-- R166: a length other than the kind's. -/
theorem test_badLength : onRackPort (.rackStart ⟨.rack, 1, 6, 6⟩) State.reset = some (.badLength, [0]) := by decide
/-- R166: a kind code outside Table 10-3. -/
theorem test_unknownKind : onRackPort (.unknownKind ⟨.rack, 1, 5, 5⟩ 0xAB) State.reset = some (.unknownKind, [0]) := by decide
/-- R171: a link reset empties the port unit and leaves the blocks. -/
theorem test_linkReset : (after (.linkReset .rack 1) awaitState).map (fun t => ((t.unit .rack).slot, (t.unit .rack).overrun)) =
    some (.empty, false) := by decide
/-- R174: two of the three notices of Table 7-3, step 3, 20 bytes each. -/
theorem test_fetchNotices : ((after .secondAdvance day3).bind (onMail (.fetchNotices ⟨.mail, 0, 5, 5⟩ 2))).map
    (fun r => (r.1, r.2.take 4)) = some (.accepted, [2, 1, 14, 300]) := by decide
/-- R175: bit 15 is not kept. -/
theorem test_noticeMask : reply .rack (.noticeMask ⟨.rack, 0, 7, 7⟩ 0xFFFF 1) State.reset = some (.accepted, [0x7FFF, 1, 0]) := by decide
/-- R177: the first nine fields of STATUS after power-on reset. -/
theorem test_status : (onCirculation (.status (hdr .status)) State.reset).map (fun r => r.2.take 9) =
    some [0, 0, 0, 0, 1, 0, 0, 0, 0] := by decide
/-- R179: with the reset input asserted no request is taken. -/
theorem test_resetAssert : ((after .resetAssert laneState).bind (after (.laneMask (hdr .laneMask) 1 1 1))).map
    (fun t => (t.lane.mask, (t.unit .returns).slot, t.patrons.length)) = some (⟨false, false, false⟩, .empty, 0) := by decide
/-- R180: the release. -/
theorem test_resetRelease : (after .resetRelease { State.reset with resetHeld := true }) = some State.reset := by decide

/-! ### Every statement with hypotheses has a state and operands that meet them -/

theorem witness_StepTakesTheFrontCommand :
    (State.reset.inFront [.resetAssert, .secondAdvance]).pending = .resetAssert :: [.secondAdvance] := by decide

/-- The time base at tick `tick`, one running container at idle count `idle`, a slot with deadline 499. -/
def tickState (tick idle : Nat) : State :=
  { State.reset with
    clock := { State.reset.clock with tick := tick }
    packing := { State.reset.packing with containers := [(5, ⟨7, 1, .opened, [3], false, 0, some idle, false, none⟩)] }
    rack := { State.reset.rack with
      state := .running, round := some ⟨1, 69, [⟨1, true, false⟩], 0, 0⟩
      slot := some ⟨1, ⟨64, some .blank, false⟩, ⟨0, none, false⟩, 121, 499⟩ } }

/-- The idle expiries, the slot's expiry and the advance of the second that are due. -/
def dueIn (s : State) : List Instr × List Instr × List Instr :=
  ((s.packing.containers.filter (fun e => decide (e.2.state = .opened) &&
      e.2.idle.any (fun n => decide (s.packing.idleTime ≤ n)))).map (fun e => Instr.idleExpiry e.1),
    if s.rack.slot.any (fun sl => decide (sl.deadline < s.clock.tick)) then [Instr.slotExpiry] else [],
    if (s.clock.seconds + 1) * 500 ≤ s.clock.tick then [Instr.secondAdvance] else [])

/-- Held; nothing due at the last tick before each event; and each event due at its first tick or count. -/
theorem witness_IdleStepMovesTheTimeBase :
    ({ State.reset with resetHeld := true }.pending = [] ∧ { State.reset with resetHeld := true }.resetHeld = true) ∧
    ((tickState 499 899).pending = [] ∧ (tickState 499 899).resetHeld = false ∧
      dueIn (tickState 499 899) = ([], [], [])) ∧
    ((tickState 500 900).pending = [] ∧ (tickState 500 900).resetHeld = false ∧
      dueIn (tickState 500 900) = ([.idleExpiry 5], [.slotExpiry], [.secondAdvance])) := by decide

/-- A request of each kind with every field at the value `f` gives its size. -/
def sizedRequest (tag clocked : Nat) (f : Nat → Nat) (k : Kind) : Instr :=
  k.build ⟨k.port.getD .mail, tag, k.length, k.length + clocked⟩ (k.sizes.map f)

/-- Every kind, with every field at its greatest value and at 0, and bytes clocked after the frame. -/
theorem witness_RequestFramesRoundTrip : ∀ k ∈ Kind.all,
    ((sizedRequest 255 0 (fun n => 256 ^ n - 1) k).request =
        some (k, ⟨k.port.getD .mail, 255, k.length, k.length⟩, k.sizes.map (fun n => 256 ^ n - 1)) ∧
      (sizedRequest 255 0 (fun n => 256 ^ n - 1) k).wellFormed = true ∧
      (sizedRequest 255 0 (fun n => 256 ^ n - 1) k).rightLength = true) ∧
    ((sizedRequest 0 60 (fun _ => 0) k).wellFormed = true ∧ (sizedRequest 0 60 (fun _ => 0) k).rightLength = true) := by decide

theorem witness_StepsKeepTheTablesAndCapacities : ∃ t, (feed0.inFront [.bayInsert (hdr .bayInsert) 4 9001]).TableLaw ∧
    (feed0.inFront [.bayInsert (hdr .bayInsert) 4 9001]).CapacityLaw ∧
    step (feed0.inFront [.bayInsert (hdr .bayInsert) 4 9001]) = .next t :=
  ⟨_, by decide, by decide, rfl⟩

theorem witness_StepsKeepThePatronLaw : ∃ t, (limit5.inFront [.returnItem (hdr .returnItem) 0 9 0 0]).PatronLaw ∧
    step (limit5.inFront [.returnItem (hdr .returnItem) 0 9 0 0]) = .next t :=
  ⟨_, by decide, rfl⟩

theorem witness_StepsKeepTheProjectionLaw : ∃ t, (day0.inFront [.secondAdvance]).ProjectionLaw ∧
    step (day0.inFront [.secondAdvance]) = .next t :=
  ⟨_, by decide, rfl⟩

/-- A slot that is reported at its deadline, on a rack within a round, with the lane STOPPED. -/
theorem witness_StepsKeepThePortRackClockAndLaneLaws : ∃ t,
    ({ rounds3 with lane := stoppedState.lane }.inFront [.sliceDone (hdr .sliceDone) 16 0]).PortLaw ∧
    ({ rounds3 with lane := stoppedState.lane }.inFront [.sliceDone (hdr .sliceDone) 16 0]).rack.Lawful ∧
    ({ rounds3 with lane := stoppedState.lane }.inFront [.sliceDone (hdr .sliceDone) 16 0]).clock.Lawful ∧
    ({ rounds3 with lane := stoppedState.lane }.inFront [.sliceDone (hdr .sliceDone) 16 0]).lane.Lawful ∧
    ({ rounds3 with lane := stoppedState.lane }.inFront [.sliceDone (hdr .sliceDone) 16 0]).SettingLaw ∧
    (∀ c ∈ ({ rounds3 with lane := stoppedState.lane }.inFront [.sliceDone (hdr .sliceDone) 16 0]).pending.head?,
      c.wellFormed = true) ∧
    step ({ rounds3 with lane := stoppedState.lane }.inFront [.sliceDone (hdr .sliceDone) 16 0]) = .next t :=
  ⟨_, fun p => by cases p <;> decide, by decide, by decide, by decide, by decide, by decide, rfl⟩

/-- A part with two patrons, an order in every state of Table 1-3, two loans, a cartridge in every state of
Table 3-2, four bays at work within a round with a slot outstanding, an OPEN and a BAGGED container, and a CLOSED
bag. -/
def richState : State :=
  { State.reset with
    clock := { State.reset.clock with second := 40000, day := 100 }
    patrons := [(7, ⟨2, 6, 3, 6, 0, ⟨true, false, false⟩, [], some 300⟩), (8, ⟨3, 6, 2, 4, 0, ⟨false, false, false⟩, [], none⟩)]
    titles := [(10, .cartridge 100 .a), (11, .cartridge 100 .a), (12, .cartridge 100 .a), (13, .cartridge 100 .a),
      (70, .braille (copyMap [.absent, .allocated 6, .onLoan 2, .onShelf]) []), (71, .braille (copyMap []) [7])]
    book := ⟨[(1, pendingOrder 7 10), (2, { writingOrder 7 11 0 21 with ready := some 40700, tag := .onTime }),
      (3, { writingOrder 8 10 2 22 with state := .verifying, ready := some 40600, tag := .onTime }),
      (4, { writingOrder 8 11 3 23 with state := .ready, ready := some 39000, tag := .onTime }),
      (5, { pendingOrder 7 12 with state := .packed, serial := some 24, ready := some 39000, tag := .onTime, container := some 300 }),
      (6, { pendingOrder 7 70 with
        format := .braille, state := .packed, copy := some 1, ready := some 39000, tag := .onTime, container := some 301 }),
      (7, { pendingOrder 7 71 with format := .braille, state := .waitingCopy }),
      (8, { pendingOrder 8 12 with state := .stalled, retry := 1 })], 9, [1]⟩
    carts := ⟨[(20, ⟨.blank, 1, 0, 0, .unbound, none⟩), (21, ⟨.inBay, 1, 0, 100, .order 2, some 0⟩),
      (22, ⟨.inBay, 1, 0, 100, .order 3, some 2⟩), (23, ⟨.inBay, 1, 0, 100, .order 4, some 3⟩),
      (24, ⟨.packed, 1, 0, 100, .order 5, none⟩), (25, ⟨.onLoan, 1, 0, 100, .loan 1, none⟩),
      (26, ⟨.needsBlank, 1, 0, 100, .unbound, none⟩), (27, ⟨.needsBlank, 1, 0, 128, .unbound, some 1⟩),
      (28, ⟨.retired, 1000, 0, 100, .unbound, none⟩)], [20], [26]⟩
    bays := (((State.reset.bays.set 0 (writingBay 21 2 .a 40 100)).set 1 (blankingBay 27 128 128)).set 2
      ⟨.verifying, some 22, some ⟨.write 3 .a, 100, 0⟩, none, none⟩).set 3 ⟨.done, some 23, none, none, none⟩
    rack := { State.reset.rack with
      state := .running, roundNumber := 5, round := some ⟨5, 69, [⟨0, true, true⟩], 0, 0⟩
      slot := some ⟨0, ⟨40, some (.write 2 .a), false⟩, ⟨16, some .blank, false⟩, 0, 330⟩ }
    packing := { State.reset.packing with
      containers := [(300, ⟨7, 2, .opened, [5], false, 39900, some 100, false, none⟩),
        (301, ⟨7, 2, .bagged, [6], true, 39000, none, false, some 12⟩)]
      bags := [(12, ⟨2, .closed, [301], false⟩)]
      containerCounter := 302
      bagCounter := 13 }
    loans := { State.reset.loans with
      loans := [(1, ⟨7, 13, .cartridge 25, 58, 100, .out⟩), (2, ⟨8, 70, .copy 2, 58, 100, .out⟩)]
      counter := 3 } }

theorem richState_copies : richState.CopyLaw := by decide

set_option synthInstance.maxSize 2000 in
theorem richState_cartridges : richState.CartridgeLaw := by decide

set_option synthInstance.maxSize 2000 in
theorem richState_jobs : richState.JobLaw := by decide

set_option synthInstance.maxSize 2000 in
theorem richState_orders : richState.OrderLaw := by decide

/-- The state meets every law of the device. -/
theorem richState_consistent : richState.Consistent :=
  ⟨by decide, by decide, by decide, richState_copies, by decide, richState_cartridges, richState_jobs, richState_orders,
    by decide, by decide⟩

/-- The laws say nothing of the commands that wait. -/
theorem consistent_inFront (s : State) (l : List Instr) (h : s.Consistent) : (s.inFront l).Consistent :=
  ⟨h.tables, h.capacities, h.patrons, h.copies, h.holds, h.cartridges, h.jobs, h.orders, h.containers, h.bags⟩

/-- A bag handed over (order 6 becomes a loan), and a slot reported (order 2 is VERIFYING). -/
theorem witness_StepsKeepTheFirstLaw : ∃ t, (richState.inFront [.bagHanded (hdr .bagHanded) 12]).FirstLaw ∧
    step (richState.inFront [.bagHanded (hdr .bagHanded) 12]) = .next t :=
  ⟨_, (consistent_inFront _ _ richState_consistent).patrons, rfl⟩

theorem witness_StepsKeepTheBagLaw : ∃ t, (richState.inFront [.bagHanded (hdr .bagHanded) 12]).BagLaw ∧
    step (richState.inFront [.bagHanded (hdr .bagHanded) 12]) = .next t :=
  ⟨_, (consistent_inFront _ _ richState_consistent).bags, rfl⟩

theorem witness_StepsKeepTheCopyLaws : ∃ t, (richState.inFront [.bagHanded (hdr .bagHanded) 12]).HoldLaw ∧
    (richState.inFront [.bagHanded (hdr .bagHanded) 12]).Consistent ∧
    step (richState.inFront [.bagHanded (hdr .bagHanded) 12]) = .next t :=
  ⟨_, (consistent_inFront _ _ richState_consistent).holds, consistent_inFront _ _ richState_consistent, rfl⟩

theorem witness_StepsKeepTheCartridgeLaw : ∃ t, (richState.inFront [.bayRemove (hdr .bayRemove) 3]).Consistent ∧
    step (richState.inFront [.bayRemove (hdr .bayRemove) 3]) = .next t :=
  ⟨_, consistent_inFront _ _ richState_consistent, rfl⟩

theorem witness_StepsKeepTheJobLaw : ∃ t, (richState.inFront [.sliceDone (hdr .sliceDone) 40 16]).Consistent ∧
    step (richState.inFront [.sliceDone (hdr .sliceDone) 40 16]) = .next t :=
  ⟨_, consistent_inFront _ _ richState_consistent, rfl⟩

theorem witness_StepsKeepTheOrderLaws : ∃ t, (richState.inFront [.orderCancel (hdr .orderCancel) 2]).Consistent ∧
    step (richState.inFront [.orderCancel (hdr .orderCancel) 2]) = .next t :=
  ⟨_, consistent_inFront _ _ richState_consistent, rfl⟩

/-- The two functions of a state, for the round of Table 5-3; and a unit in LEVEL mode with room and a full one. -/
theorem witness_TheComputationsAreSpelledOut :
    (∃ (active : Nat → Bool) (slice : Nat → Nat),
      (∀ b, active b = decide ((rounds0.bay b).state = .blanking ∨ (rounds0.bay b).state = .writing)) ∧
      (∀ b, active b = false → slice b = 0) ∧ (∀ b, active b = true → (rounds0.bay b).job = none → slice b = 0) ∧
      (∀ b j, active b = true → (rounds0.bay b).job = some j → slice b = min (match j.kind with
        | .write _ .a => rounds0.rack.widthA
        | .write _ .b => rounds0.rack.widthB
        | .blank => if rounds0.rack.blankSel = .a then rounds0.rack.widthA else rounds0.rack.widthB) j.remaining) ∧
      active 2 = true ∧ slice 2 = 64 ∧ active 3 = true ∧ slice 3 = 16) ∧
    (PortUnit.reset.notices.length < 32 ∧ PortUnit.reset.mode = .level) ∧
    (∀ n : Notice, 32 ≤ { PortUnit.reset with notices := List.replicate 32 n }.notices.length) := by
  refine ⟨⟨fun b => decide ((rounds0.bay b).state = .blanking ∨ (rounds0.bay b).state = .writing),
    fun b => if (rounds0.bay b).state = .blanking ∨ (rounds0.bay b).state = .writing then
      (match (rounds0.bay b).job with
        | none => 0
        | some j => min (match j.kind with
          | .write _ .a => rounds0.rack.widthA
          | .write _ .b => rounds0.rack.widthB
          | .blank => if rounds0.rack.blankSel = .a then rounds0.rack.widthA else rounds0.rack.widthB) j.remaining)
      else 0, fun _ => rfl, fun b h => if_neg (of_decide_eq_false h), fun b h e => ?_, fun b j h e => ?_, by decide,
    by decide, by decide, by decide⟩, by decide, fun n => by simp⟩
  · simp only [if_pos (of_decide_eq_true h), e]
  · simp only [if_pos (of_decide_eq_true h), e]

/-- Each kind is taken on its own port after reset. -/
theorem witness_Takes : ∀ k ∈ Kind.all, State.reset.Takes k (hdr k) := by decide

/-- A SLICE_DONE at its deadline, and a TITLE_DROP of an unknown title, which is refused. -/
theorem witness_RefusalsLeaveEveryRecord :
    ((Instr.sliceDone (hdr .sliceDone) 17 0).request = some (.sliceDone, hdr .sliceDone, [17, 0]) ∧
      { rounds3 with clock := { rounds3.clock with tick := 282 } }.Takes .sliceDone (hdr .sliceDone) ∧
      (∀ sl ∈ rounds3.rack.slot, 282 ≤ sl.deadline)) ∧
    (onRackPort (.sliceDone (hdr .sliceDone) 17 0) rounds3).map (fun r => r.1.refuses) = some true ∧
    State.reset.Takes .titleDrop (hdr .titleDrop) := by decide

/-- Held, occupied, a kind of another port, another length, and a free slot (also by a wholly read response). -/
theorem witness_PortUnitsAnswerThemselves :
    (Instr.rackStart (hdr .rackStart)).request = some (.rackStart, hdr .rackStart, []) ∧
    { State.reset with resetHeld := true }.resetHeld = true ∧
    (awaitState.resetHeld = false ∧ (awaitState.unit .rack).freeAfter 5 = false) ∧
    ((State.reset.unit .mail).freeAfter 5 = true ∧ Kind.rackStart.port ≠ none ∧ Kind.rackStart.port ≠ some .mail) ∧
    (Kind.rackStart.port = some .rack ∧ 6 ≠ Kind.rackStart.length ∧ Kind.status.port = none) ∧
    { PortUnit.reset with slot := .holding [0, 0, 0, 0, 0] }.freeAfter 5 = true ∧
    { PortUnit.reset with slot := .holding [0, 0, 0, 0, 0, 0] }.freeAfter 5 = false := by decide

/-- A rack port whose slot holds a response of three bytes. -/
def holdState : State := State.reset.onUnit .rack (fun u => { u with slot := .holding [1, 2, 3] })

theorem witness_PeriodsWithoutARequest :
    ((holdState.unit .rack).slot = .holding [1, 2, 3] ∧ [(1 : Byte), 2, 3].length ≤ 3 ∧ 2 < [(1 : Byte), 2, 3].length) ∧
    (∀ f, (State.reset.unit .rack).slot ≠ .holding f) ∧ holdState.resetHeld = false ∧
    ∃ t, exec (.readPeriod .rack 3) holdState = .next t :=
  ⟨by decide, fun _ h => ResponseSlot.noConfusion ((show ResponseSlot.empty = _ from h)), rfl, _, rfl⟩

/-- A response with no order named, and one that names an order of the book. -/
theorem witness_ResponsesArePlaced :
    ((awaitState.unit .rack).slot = .awaiting ⟨0x36, 9, .wrongState, [u1 0], none⟩) ∧
    (((limit0.onUnit .circulation (fun u => { u with slot := .awaiting ⟨0x14, 9, .accepted, [u2 118], some 118⟩ })).unit
      .circulation).slot = .awaiting ⟨0x14, 9, .accepted, [u2 118], some 118⟩ ∧
      limit0.order 118 = some (pendingOrder 31107 5020)) := by decide

theorem witness_NoticesAreFetchedAndMasked :
    (State.reset.Takes .fetchNotices (hdr .fetchNotices) ∧ State.reset.Takes .noticeMask (hdr .noticeMask)) ∧
    (1 ≤ 1 ∧ 1 ≤ 8) ∧ (1 ≤ 8 ∧ 8 ≤ 8) ∧ (8 < 9) ∧ (0 ≤ 1 ∧ 1 ≤ 1 ∧ 1 < 2) := by decide

theorem witness_TheResetInput : { State.reset with resetHeld := true }.resetHeld = true := by decide

/-- The last second of the day that is no rollover, and the last second of DAY. -/
theorem witness_TheSecondAdvancesWithinAState :
    (∀ s ∈ [{ day0 with clock := { day0.clock with second := 86398, mailDay := .afterCutoff } },
        { day0 with clock := { day0.clock with second := 59398 } }],
      s.resetHeld = false ∧ s.book.orders.wf = true ∧ s.clock.second + 1 < 86400 ∧
      deriveMailDay (s.clock.second + 1) (s.clock.cutoff - s.clock.margin) s.clock.cutoff = s.clock.mailDay) := by decide

/-- Table 7-3 at step 1, with a third container that is CLOSED. -/
def day1 : State :=
  { day0 with packing := { day0.packing with
      containers := day0.packing.containers ++ [(5122, ⟨40021, 3, .closed, [], false, 0, none, false, none⟩)] } }

/-- A FILLING and a CLOSED bag at the second before the cut-off. -/
def cutState : State :=
  { day3 with packing := { day3.packing with bags := [(7, ⟨2, .filling, [5119], false⟩), (9, ⟨5, .closed, [5118], false⟩)] } }

theorem witness_TheLastCallAndTheCutOff :
    (day1.resetHeld = false ∧ day1.TableLaw ∧ day1.clock.mailDay = .day ∧
      day1.clock.second + 1 = day1.clock.cutoff - day1.clock.margin ∧ day1.clock.second + 1 < day1.clock.cutoff ∧
      day1.clock.cutoff < 86400 ∧ (∀ e ∈ day1.packing.containers, e.2.held = true → e.2.state = .opened) ∧
      (day1.container 5120).map Container.state = some .opened ∧ (day1.container 5122).map Container.state = some .closed ∧
      (day1.patron 40021).map Patron.openContainer = some (some 5120)) ∧
    (cutState.resetHeld = false ∧ cutState.TableLaw ∧ cutState.clock.mailDay = .lastCall ∧
      cutState.clock.second + 1 = cutState.clock.cutoff ∧ cutState.clock.cutoff < 86400 ∧
      (cutState.bag 7).map Bag.state = some .filling ∧ (cutState.bag 9).map Bag.state = some .closed) := by decide

/-- A patron with a newly overdue loan and one with none, and a READY order, at the last second of the last day
number. -/
def rollState : State :=
  { laneState with
    clock := { laneState.clock with day := 65535, second := 86399, mailDay := .afterCutoff }
    patrons := laneState.patrons ++ [(47121, plainPatron)]
    book := ⟨[(1, { pendingOrder 47121 3400 with state := .ready, ready := some 50000, tag := .late })], 2, []⟩
    loans := { laneState.loans with loans := [(604, ⟨47120, 3420, .cartridge 9622, 325, 367, .out⟩)] } }

theorem witness_TheRolloverSweepsLoans :
    rollState.resetHeld = false ∧ rollState.clock.second = 86399 ∧ 0 < rollState.clock.cutoff - rollState.clock.margin ∧
    0 < rollState.clock.cutoff ∧ (rollState.patron 47120).isSome = true ∧ (rollState.patron 47121).isSome = true ∧
    rollState.patrons.wf = true ∧
    (∀ p ∈ [(47120, 1), (47121, 0)], rollState.loans.loans.countP (fun e => decide (e.2.patron = p.1 ∧ e.2.state = .out ∧
      e.2.dueDay + rollState.loans.grace < 65535)) = p.2) ∧
    (after .secondAdvance rollState).map (fun t => (t.order 1).map Order.state) = some (some .ready) := by decide

/-- Step 11 of Table 5-4 with an ON_TIME order, whose patron has a held container. -/
def expireState : State :=
  { rounds3 with
    book := { rounds3.book with orders := [(830, { writingOrder 7 1 2 20 with ready := some 500, tag := .onTime }),
      (831, writingOrder 7 2 8 22)] }
    patrons := [(7, { plainPatron with outstanding := 4, openContainer := some 300 })]
    packing := { rounds3.packing with containers := [(300, ⟨7, 1, .opened, [9], false, 0, none, true, none⟩)] } }

theorem witness_SlotsExpire :
    expireState.rack.slot = some ⟨4, ⟨16, some (.write 831 .b), false⟩, ⟨0, none, false⟩, 0, 282⟩ ∧ expireState.BagLaw ∧
    expireState.book.orders.wf = true ∧
    (expireState.book.orders.filter (fun e => decide (e.2.state = .writing ∧ e.2.tag = .onTime))).map Prod.fst = [830] ∧
    (expireState.container 300).map Container.held = some true ∧
    (expireState.patron 7).map Patron.openContainer = some (some 300) ∧
    (after .slotExpiry expireState).map (fun t => t.book.orders.any (fun x => x.2.waitedFor)) = some false := by decide

/-- A count at the idle time, with and without a waited-for order; a count below it, a stopped count and a
container that is not OPEN. -/
theorem witness_IdleTimersExpire :
    (∀ w ∈ [true, false], (packState2 900 (packedOrders w)).container 300 =
        some ⟨45310, 4, .opened, [1201], false, 40000, some 900, false, none⟩ ∧
      (packState2 900 (packedOrders w)).packing.idleTime ≤ 900 ∧
      ((packState2 900 (packedOrders w)).book.orders.any (fun e => decide (e.2.patron = 45310 ∧
        (((e.2.state = .writing ∨ e.2.state = .verifying) ∧ e.2.tag = .onTime) ∨
          (e.2.state = .ready ∧ e.2.format = .cartridge))))) = w) ∧
    (((packState2 899 (packedOrders true)).container 300).bind Container.idle = some 899 ∧
      899 < (packState2 899 (packedOrders true)).packing.idleTime) ∧
    ((day0.container 5120).map Container.idle = some none ∧
      ((packState2 7 (packedOrders true)).container 301).map Container.state = some .closed) := by decide

/-- A full patron table: the number 5000 is free and the length 2048. -/
def fullPatrons : State := { State.reset with patrons := (List.range 2048).map (fun n => (n + 1, plainPatron)) }

theorem witness_PatronsAreOpenedAndClosed :
    State.reset.Takes .patronOpen (hdr .patronOpen) ∧ (7 < 8) ∧ limit0.patrons.has 31107 = true ∧
    (fullPatrons.patrons.has 5000 = false ∧ 2048 ≤ fullPatrons.patrons.length) ∧
    (limit0.patrons.has 1 = false ∧ limit0.patrons.length < 2048 ∧ 7 ≤ 7) ∧
    State.reset.Takes .patronClose (hdr .patronClose) ∧ State.reset.patron 1 = none ∧
    (limit0.patron 31107).map Patron.outstanding = some 3 ∧ (day0.patron 40021).map Patron.outstanding = some 0 := by
  decide +kernel

/-- A number in no record; a refused limit; each of the four ways in which no pass creates an order; a pass that
discards the one entry of its list (an order, a loan); and one that creates an order and empties the list, or sets
LIMIT with an entry left, the counter at its greatest value. -/
theorem witness_PatronSetStoresTheLimits :
    State.reset.Takes .patronSet (hdr .patronSet) ∧ State.reset.patron 1 = none ∧
    (limit5.patron 31107).map (fun p => (p.outstanding, p.deferred, p.causes)) =
      some (4, [5040, 5050, 5060], ⟨true, false, false⟩) ∧ limit5.book.orders.wf = true ∧
    (min (max 3 1) 15 < 4) ∧ (4 ≤ min (max 4 1) 15) ∧ (4 = min (max 4 1) 15) ∧
    ((dropState.patron 60410).map (fun p => p.causes.overdue) = some true) ∧
    ((limit0.patron 31107).map Patron.deferred = some []) ∧
    (∀ s ∈ [limitState 3 true [5010] [(118, pendingOrder 31107 5020)] 119 [118] twoLoans,
        limitState 3 true [5020] [(118, pendingOrder 31107 5020)] 119 [118] twoLoans,
        limitState 3 true [5040] [(118, pendingOrder 31107 5020)] 119 [118] twoLoans,
        limitState 3 true [5040, 5050] [(118, pendingOrder 31107 5020)] 65535 [118] twoLoans],
      s.Takes .patronSet (hdr .patronSet) ∧ s.book.orders.wf = true ∧ s.patrons.wf = true ∧
      (s.patron 31107).map Patron.outstanding = some 3 ∧ (3 < min (max 4 1) 15) ∧ (3 ≤ 3 ∧ 3 < 4) ∧
      s.book.orders.length + s.loans.loans.length < 4096 ∧ s.book.orders.length < 512 ∧
      1 ≤ s.book.counter ∧ s.book.counter ≤ 65535 ∧ (∀ b < 32, (s.bay b).state ≠ .armed) ∧
      s.title 5040 = some (.cartridge 100 .a) ∧ s.holdsTitle 31107 5040 = false ∧ s.holdsTitle 31107 5010 = true ∧
      s.holdsTitle 31107 5020 = true) := by decide

/-- A full order book: 512 orders. -/
def fullBook : State :=
  { limit0 with book := { limit0.book with orders := (List.range 512).map (fun n => (n + 1, pendingOrder 9 9)) } }

/-- Range, unknown patron, unknown title, each duplicate, a full book, a full list of 6, and a list of 5. -/
theorem witness_OrdersAreTestedAndDeferred :
    State.reset.Takes .orderPlace (hdr .orderPlace) ∧ State.reset.patron 1 = none ∧ limit0.title 9999 = none ∧
    (∃ e ∈ limit5.book.orders, e.2.patron = 31107 ∧ e.2.title = 5030) ∧
    (∃ e ∈ limit5.loans.loans, e.2.patron = 31107 ∧ e.2.title = 5010) ∧
    ((limit5.patron 31107).map (fun p => decide (5040 ∈ p.deferred)) = some true) ∧
    ((∀ e ∈ fullBook.book.orders, ¬ (e.2.patron = 31107 ∧ e.2.title = 5060)) ∧
      (∀ e ∈ fullBook.loans.loans, ¬ (e.2.patron = 31107 ∧ e.2.title = 5060)) ∧ 512 ≤ fullBook.book.orders.length ∧
      (fullBook.patron 31107).map Patron.deferred = some [] ∧ fullBook.title 5060 ≠ none) ∧
    (∀ n ∈ [5, 6], ∀ s ∈ [limitState 4 true (List.replicate n 5040) [] 1 [] []],
      s.holdsTitle 31107 5060 = false ∧ s.title 5060 ≠ none ∧ s.book.orders.length + s.loans.loans.length < 4096 ∧
      s.book.orders.length < 512 ∧ s.book.orders.wf = true ∧
      (s.patron 31107).map (fun p => (decide (5060 ∈ p.deferred), p.causes.limit, p.deferred.length)) = some (false, true, n)) := by
  decide +kernel

/-- Table 11-1, before step 2: bay 0 ARMED, for a patron with no cause and no deferred entry. -/
def armedState : State :=
  { serviceDay with patrons := [(50200, plainPatron)], loans := State.reset.loans }

/-- Order 119 of Table 1-6, with the counter at its own and at its greatest value, and order 2000 with a bay ARMED. -/
theorem witness_CartridgeOrdersJoinTheQueue :
    (∀ s ∈ [limit0, { limit0 with book := { limit0.book with counter := 65535 } }],
      s.Takes .orderPlace (hdr .orderPlace) ∧
      s.patron 31107 = some ⟨2, 4, 2, 3, 0, ⟨false, false, false⟩, [], none⟩ ∧ s.title 5030 = some (.cartridge 100 .a) ∧
      s.holdsTitle 31107 5030 = false ∧ s.book.orders.length + s.loans.loans.length < 4096 ∧
      s.book.orders.length < 512 ∧ s.book.orders.wf = true ∧ 1 ≤ s.book.counter ∧ s.book.counter ≤ 65535 ∧
      (∀ b < 32, (s.bay b).state ≠ .armed)) ∧
    (armedState.Takes .orderPlace (hdr .orderPlace) ∧ armedState.patron 50200 = some plainPatron ∧
      armedState.title 2100 = some (.cartridge 3000 .a) ∧ armedState.holdsTitle 50200 2100 = false ∧
      armedState.book.orders.length + armedState.loans.loans.length < 4096 ∧ armedState.book.orders.wf = true ∧
      armedState.book.queue = [] ∧ armedState.bays.length = 32 ∧
      armedState.bay 0 = ⟨.armed, some 9700, none, none, none⟩ ∧
      armedState.cart 9700 = some ⟨.blank, 40, 0, 0, .unbound, some 0⟩) := by decide

/-- Table 2-4 at steps 2 (copy 0 on the shelf) and 14 (none). -/
theorem witness_BrailleOrdersTakeACopyOrWait :
    (∀ s ∈ [brailleState [.onShelf] [], braille7],
      s.Takes .orderPlace (hdr .orderPlace) ∧ s.patron 52006 = some plainPatron ∧ s.titles.wf = true ∧
      s.holdsTitle 52006 7700 = false ∧ plainPatron.deferred = [] ∧ plainPatron.causes = ⟨false, false, false⟩ ∧
      s.book.orders.length + s.loans.loans.length < 4096 ∧ s.book.orders.length < 512 ∧ s.book.orders.wf = true ∧
      1 ≤ s.book.counter ∧ s.book.counter ≤ 65535) ∧
    (brailleState [.onShelf] []).title 7700 = some (.braille (copyMap [.onShelf]) []) ∧
    (copyMap [.onShelf]).getD 0 .absent = .onShelf ∧
    braille7.title 7700 = some (.braille (copyMap [.allocated 403, .allocated 401]) [402, 404]) ∧
    (∀ c ∈ copyMap [.allocated 403, .allocated 401], c ≠ .onShelf) := by decide

/-- One order in each of the states of the statement. -/
def cancelState : State :=
  { State.reset with
    patrons := [(7, { plainPatron with outstanding := 5 })]
    titles := [(1, .cartridge 9 .a), (7700, .braille (copyMap []) [3]), (7701, .braille (copyMap [.allocated 4]) [])]
    carts := ⟨[(20, ⟨.written, 1, 0, 9, .order 5, none⟩)], [], []⟩
    book := ⟨[(1, pendingOrder 7 1), (2, { pendingOrder 7 1 with state := .stalled }), (3, brailleOrder 7 .waitingCopy none),
      (4, { brailleOrder 7 .ready (some 0) with title := 7701 }),
      (5, { pendingOrder 7 1 with state := .ready, serial := some 20, ready := some 9, tag := .onTime }),
      (6, { pendingOrder 7 1 with state := .packed, container := some 1 })], 7, [1]⟩ }

theorem witness_CancelsReleaseTheItem :
    cancelState.Takes .orderCancel (hdr .orderCancel) ∧ cancelState.book.orders.wf = true ∧ cancelState.titles.wf = true ∧
    cancelState.patron 7 = some { plainPatron with outstanding := 5 } ∧ plainPatron.openContainer = none ∧
    (∀ n ∈ [1, 2, 3, 4, 5, 6], (cancelState.order n).map Order.patron = some 7) ∧
    (cancelState.order 1).map Order.state = some .pending ∧ (cancelState.order 2).map Order.state = some .stalled ∧
    ((cancelState.order 3).map (fun o => (o.state, o.title)) = some (.waitingCopy, 7700) ∧
      cancelState.title 7700 = some (.braille (copyMap []) [3])) ∧
    ((cancelState.order 4).map (fun o => (o.state, o.title, o.copy)) = some (.ready, 7701, some 0) ∧
      cancelState.title 7701 = some (.braille (copyMap [.allocated 4]) [])) ∧
    (cancelState.order 5).map (fun o => (o.state, o.copy, o.bay, o.serial)) = some (.ready, none, none, some 20) ∧
    (cancelState.order 6).map Order.state = some .packed := by decide

/-- Order 721 of Table 4-6 READY, with its cartridge still in bay 6. -/
def doneState : State :=
  { pair3 0 0 56 with
    book := { (pair3 0 0 56).book with
      orders := [(721, { pendingOrder 7 3310 with state := .ready, bay := some 6, serial := some 9400, ready := some 9, tag := .onTime })] }
    bays := State.reset.bays.set 6 ⟨.done, some 9400, none, none, none⟩ }

/-- Step 4 of Table 5-4 (WRITING), Table 4-6 at step 4 (VERIFYING), and a READY order in a DONE bay. -/
theorem witness_CancelsBlankInPlace :
    (rounds3.Takes .orderCancel (hdr .orderCancel) ∧ rounds3.order 831 = some (writingOrder 7 2 8 22) ∧ (8 < 32) ∧
      rounds3.bays.length = 32 ∧ rounds3.bay 8 = writingBay 22 831 .b 40 40 ∧ rounds3.cart 22 = some (boundCart 831 8 40) ∧
      rounds3.patron 7 = some { plainPatron with outstanding := 4 } ∧ plainPatron.deferred = [] ∧
      plainPatron.openContainer = none ∧ rounds3.book.orders.wf = true) ∧
    (∀ s ∈ [pair3 0 0 56, doneState], s.Takes .orderCancel (hdr .orderCancel) ∧ s.bays.length = 32 ∧
      (s.order 721).map (fun o => (o.patron, o.bay, o.copy)) = some (7, some 6, none) ∧ (s.bay 6).cartridge = some 9400 ∧
      s.cart 9400 = some ⟨.inBay, 56, 0, 700, .order 721, some 6⟩ ∧ s.book.orders.wf = true ∧
      s.patron 7 = some { plainPatron with outstanding := 2 }) ∧
    ((pair3 0 0 56).order 721).map Order.state = some .verifying ∧
    ((pair3 0 0 56).bay 6).job = some ⟨.write 721 .b, 700, 0⟩ ∧
    (doneState.order 721).map Order.state = some .ready ∧ (doneState.bay 6).job = none := by decide

theorem witness_RetriesRejoinTheQueue :
    cancelState.Takes .orderRetry (hdr .orderRetry) ∧ (cancelState.order 1).map Order.state = some .pending ∧
    (cancelState.order 2).map (fun o => (o.state, o.tag)) = some (.stalled, .noTag) ∧ cancelState.book.orders.wf = true ∧
    (∀ b < 32, (cancelState.bay b).state ≠ .armed) := by decide

/-- A full title catalogue: the number 5000 is free and the length 1024. -/
def fullTitles : State := { State.reset with titles := (List.range 1024).map (fun n => (n + 1, .cartridge 1 .a)) }

theorem witness_TitleLoadCreatesARecord :
    State.reset.Takes .titleLoad (hdr .titleLoad) ∧ (1 < 2) ∧ limit0.titles.has 5010 = true ∧
    (fullTitles.titles.has 5000 = false ∧ 1024 ≤ fullTitles.titles.length) ∧
    (limit0.titles.has 5000 = false ∧ limit0.titles.length < 1024) := by decide +kernel

/-- A title with an order WRITING (size kept or changed) and one without. -/
theorem witness_TitleSetStoresSizeAndSelector :
    rounds0.Takes .titleSet (hdr .titleSet) ∧ rounds0.title 2 = some (.cartridge 40 .b) ∧
    (∃ e ∈ rounds0.book.orders, e.2.title = 2 ∧ (e.2.state = .writing ∨ e.2.state = .verifying)) ∧
    limit0.title 5020 = some (.cartridge 100 .a) ∧
    (∀ e ∈ limit0.book.orders, e.2.title = 5020 → e.2.state ≠ .writing ∧ e.2.state ≠ .verifying) ∧
    (if 65537 = 0 then 1 else if 65536 < 65537 then 65536 else 65537) ≠ 40 := by decide

/-- Table 2-4 at steps 8 (refused) and 12 (one withdrawn), an increase to 64 with no order waiting, and one copy
more at step 7, where orders 402 and 404 wait. -/
theorem witness_TitleSetChangesTheCopyMap :
    (∀ s ∈ [braille7, brailleState [.allocated 403, .allocated 401, .onShelf, .allocated 404] []],
      s.Takes .titleSet (hdr .titleSet) ∧ s.titles.wf = true ∧ s.book.orders.wf = true) ∧
    (braille7.title 7700 = some (.braille (copyMap [.allocated 403, .allocated 401]) [402, 404]) ∧
      (copyMap [.allocated 403, .allocated 401]).countP (fun c => decide (c = Copy.onShelf)) < 2 - 1) ∧
    ((copyMap [.allocated 403, .allocated 401, .onShelf, .allocated 404]).countP (fun c => decide (c ≠ Copy.absent)) = 4 ∧
      4 - 3 ≤ (copyMap [.allocated 403, .allocated 401, .onShelf, .allocated 404]).countP (fun c => decide (c = Copy.onShelf)) ∧
      (brailleState [.allocated 403, .allocated 401, .onShelf, .allocated 404] []).title 7700 =
        some (.braille (copyMap [.allocated 403, .allocated 401, .onShelf, .allocated 404]) [])) ∧
    (4 < 64 ∧ 64 ≤ 64 ∧ (copyMap [.allocated 403, .allocated 401, .onShelf, .allocated 404]).length = 64) ∧
    (3 = (copyMap [.allocated 403, .allocated 401]).countP (fun c => decide (c ≠ Copy.absent)) + 1 ∧ 402 ∉ [404] ∧
      braille7.order 402 = some (brailleOrder 52003 .waitingCopy none) ∧
      (copyMap [.allocated 403, .allocated 401]).length = 64 ∧
      (copyMap [.allocated 403, .allocated 401]).getD 2 .onShelf = .absent ∧
      (∀ j < 2, (copyMap [.allocated 403, .allocated 401]).getD j .absent ≠ .absent)) := by decide

/-- An order in the way, a loan in the way, a promised copy in the way, and nothing in the way. -/
theorem witness_TitleDropStripsDeferredLists :
    State.reset.Takes .titleDrop (hdr .titleDrop) ∧ (∃ e ∈ limit0.book.orders, e.2.title = 5020) ∧
    (∃ e ∈ limit0.loans.loans, e.2.title = 5010) ∧
    (cancelState.title 7701 = some (.braille (copyMap [.allocated 4]) []) ∧
      ∃ c ∈ copyMap [.allocated 4], c ≠ .onShelf ∧ c ≠ .absent) ∧
    (dropState.title 8120 = some (.cartridge 9 .a) ∧ (∀ e ∈ dropState.book.orders, e.2.title ≠ 8120) ∧
      (∀ e ∈ dropState.loans.loans, e.2.title ≠ 8120) ∧ dropState.patrons.wf = true) := by decide

/-- A full cartridge table: the serial 5000 is free and the length 4096. -/
def fullCarts : State :=
  { State.reset with carts := ⟨(List.range 4096).map (fun n => (n + 1, ⟨.onLoan, 1, 0, 1, .unbound, none⟩)), [], []⟩ }

theorem witness_CartridgesAreAddedAndDropped :
    State.reset.Takes .cartridgeAdd (hdr .cartridgeAdd) ∧ State.reset.Takes .cartridgeDrop (hdr .cartridgeDrop) ∧
    feed0.carts.table.has 9001 = true ∧ feed0.carts.table.has 9300 = false ∧ feed0.carts.table.length < 4096 ∧
    (fullCarts.carts.table.has 5000 = false ∧ 4096 ≤ fullCarts.carts.table.length) ∧
    feed0.cart 9300 = none ∧
    (feed0.cart 9001 = some ⟨.blank, 12, 0, 0, .unbound, none⟩ ∧ 9001 ∈ feed0.carts.pool) ∧
    ({ feed0 with carts := ⟨[(9101, ⟨.retired, 1000, 0, 30000, .unbound, none⟩)], [], []⟩ }.cart 9101 =
      some ⟨.retired, 1000, 0, 30000, .unbound, none⟩) ∧
    feed2.cart 9001 = some ⟨.inBay, 13, 0, 12000, .order 610, some 4⟩ := by decide +kernel

/-- Second 86400 is refused and 86399 stored; the day kept and changed. -/
theorem witness_TheClockAndTheCirculationSettingsAreSet :
    day0.Takes .clockSet (hdr .clockSet) ∧ (86399 < 86400) ∧ (86399 ≤ 86399) ∧ (300 = day0.clock.day) ∧
    (65535 ≠ day0.clock.day) ∧ State.reset.Takes .circSet (hdr .circSet) := by decide

theorem witness_CirculationQueriesReport :
    (∀ k ∈ [Kind.patronQuery, .orderQuery, .loanQuery, .titleQuery], limit5.Takes k (hdr k)) ∧
    (limit5.patron 31107).isSome = true ∧ limit5.order 118 = some (pendingOrder 31107 5020) ∧
    (∀ e ∈ limit5.book.orders, e.2.patron = 31107 → e.2.title = 5020 → e.1 = 118) ∧
    limit5.loan 1 = some ⟨31107, 5010, .cartridge 9, 0, 42, .out⟩ ∧
    (∀ e ∈ limit5.loans.loans, e.2.patron = 31107 → e.2.title = 5010 → e.1 = 1) ∧
    limit5.title 5010 = some (.cartridge 100 .a) ∧
    braille7.title 7700 = some (.braille (copyMap [.allocated 403, .allocated 401]) [402, 404]) := by decide

theorem witness_MailSetStoresTheSettings : day3.Takes .mailSet (hdr .mailSet) := by decide

/-- Steps 1 (case 2) and 3 (case 1) of Table 3-6, case 3 with an empty pool, and nothing to insert. -/
theorem witness_NextInsertNamesACartridge :
    feed0.Takes .nextInsert (hdr .nextInsert) ∧
    ((List.range 32).filter (fun b => decide ((feed0.bay b).state = .armed))).length = 0 ∧
    (feed2.carts.backlog = 9101 :: [9102] ∧ feed2.cart 9101 = some ⟨.needsBlank, 1000, 0, 30000, .unbound, none⟩ ∧
      feed2.carts.pool.length < feed2.loans.poolReserve) ∧
    (feed0.carts.pool = 9001 :: [9002] ∧ feed0.cart 9001 = some ⟨.blank, 12, 0, 0, .unbound, none⟩ ∧
      ¬ (feed0.carts.pool.length < feed0.loans.poolReserve ∨ feed0.book.queue.length ≤ 0) ∧ 0 < feed0.book.queue.length) ∧
    (∀ s ∈ [{ feed0 with carts := { feed0.carts with pool := [] }, loans := { feed0.loans with poolReserve := 0 } }],
      s.carts.backlog = 9101 :: [9102] ∧ ¬ (s.carts.pool.length < s.loans.poolReserve ∨ s.book.queue.length ≤ 0) ∧
      s.carts.pool = []) ∧
    (State.reset.carts.backlog = [] ∧ State.reset.book.queue.length ≤ 0 ∧ State.reset.cart 0 = none) := by decide

/-- Steps 2, 4 and 6 of Table 3-6, a bay that is not EMPTY, an unknown serial, a cartridge that is IN_BAY, and
a BLANK cartridge with no order waiting. -/
theorem witness_InsertedCartridgesArmBlankOrWrite :
    feed0.Takes .bayInsert (hdr .bayInsert) ∧ (31 < 32) ∧ feed0.bays.length = 32 ∧ feed0.book.orders.wf = true ∧
    (feed2.bay 4).state ≠ .empty ∧ ((feed2.bay 31).state = .empty ∧ feed2.cart 9999 = none) ∧
    feed2.cart 9001 = some ⟨.inBay, 13, 0, 12000, .order 610, some 4⟩ ∧
    (feed0.cart 9101 = some ⟨.needsBlank, 1000, 0, 30000, .unbound, none⟩ ∧ feed0.loans.wearLimit ≤ 1000) ∧
    ({ feed0 with book := { feed0.book with queue := [] } }.book.queue = []) ∧
    (feed0.cart 9001 = some ⟨.blank, 12, 0, 0, .unbound, none⟩ ∧ 12 < feed0.loans.wearLimit ∧
      feed0.book.queue = 610 :: [611, 612] ∧ 610 ∉ [611, 612] ∧ feed0.order 610 = some (pendingOrder 7 1) ∧
      feed0.title 1 = some (.cartridge 12000 .a) ∧ (∀ a < 32, (feed0.bay a).state ≠ .armed)) ∧
    feed0.cart 9102 = some ⟨.needsBlank, 40, 0, 3000, .unbound, none⟩ := by decide

/-- A state with one bay in a given condition. -/
def oneBay (r : Bay) (k : Cartridge) : State :=
  { State.reset with bays := State.reset.bays.set 31 r, carts := ⟨[(20, k)], [], []⟩, book := ⟨[(5, pendingOrder 7 1)], 6, []⟩ }

theorem witness_BaysAreEmptiedAndCleared :
    State.reset.Takes .bayRemove (hdr .bayRemove) ∧ State.reset.Takes .bayClear (hdr .bayClear) ∧ (31 < 32) ∧
    State.reset.bays.length = 32 ∧ (State.reset.bay 31).state = .empty ∧
    (∀ r ∈ [(⟨.armed, some 20, none, none, none⟩ : Bay), ⟨.done, some 20, none, none, none⟩, ⟨.eject, some 20, none, none, none⟩,
        ⟨.faulted, some 20, none, some .drive, some ⟨.blank, 32, 32⟩⟩, ⟨.faulted, none, none, some .drive, some ⟨.blank, 32, 32⟩⟩],
      (oneBay r ⟨.inBay, 1, 0, 9, .order 5, some 31⟩).bay 31 = r ∧
      (oneBay r ⟨.inBay, 1, 0, 9, .order 5, some 31⟩).bays.length = 32 ∧
      (oneBay r ⟨.inBay, 1, 0, 9, .order 5, some 31⟩).cart 20 = some ⟨.inBay, 1, 0, 9, .order 5, some 31⟩) := by decide

/-- A WRITE job of bay 8 within round 42 (the premise on its order), and the BLANK job of bay 3. -/
theorem witness_FaultsAndRemovalsAbortTheJob :
    (rounds3.bays.length = 32 ∧ rounds3.bay 8 = writingBay 22 831 .b 40 40 ∧ rounds3.cart 22 = some (boundCart 831 8 40) ∧
      rounds3.book.orders.wf = true ∧ (∀ a < 32, (rounds3.bay a).state ≠ .armed) ∧
      rounds3.bay 3 = blankingBay 21 48 64 ∧ rounds3.cart 21 = some ⟨.needsBlank, 1, 0, 64, .unbound, some 3⟩ ∧
      rounds3.Takes .bayFault (hdr .bayFault) ∧ rounds3.Takes .bayRemove (hdr .bayRemove)) ∧
    (∀ n sel, JobKind.write 831 .b = .write n sel →
      ∃ o p, rounds3.order n = some o ∧ rounds3.patron o.patron = some p ∧ p.openContainer = none) ∧
    (∀ n sel, JobKind.blank = .write n sel →
      ∃ o p, rounds3.order n = some o ∧ rounds3.patron o.patron = some p ∧ p.openContainer = none) := by
  refine ⟨by decide, ?_, ?_⟩
  · intro n sel h
    cases h
    exact ⟨_, _, rfl, rfl, rfl⟩
  · intro n sel h
    cases h

/-- A bay that is not VERIFYING; and Table 4-6 at step 4 with the cartridge's and the order's first and second
failures (steps 5 and 11 are two of the four). -/
theorem witness_VerificationsPassOrFail :
    (pair3 0 0 56).Takes .verifyDone (hdr .verifyDone) ∧ ((pair3 0 0 56).bay 7).state ≠ .verifying ∧
    (∀ f ∈ [0, 1], ∀ r ∈ [0, 1], (pair3 f r 56).bays.length = 32 ∧
      (pair3 f r 56).bay 6 = ⟨.verifying, some 9400, some ⟨.write 721 .b, 700, 0⟩, none, none⟩ ∧
      (pair3 f r 56).cart 9400 = some ⟨.inBay, 56, f, 700, .order 721, some 6⟩ ∧
      ((pair3 f r 56).order 721).map Order.retry = some r ∧ (∀ a < 32, ((pair3 f r 56).bay a).state ≠ .armed)) := by decide

theorem witness_TheRackStartsStopsAndIsSet :
    (∀ k ∈ [Kind.rackStart, .rackStop, .rackSet], rounds3.Takes k (hdr k)) ∧ rounds3.rack.state = .running ∧
    State.reset.rack.state ≠ .running ∧ (State.reset.rack.state = .stopped ∧ State.reset.rack.slot = none) ∧
    rounds3.rack.state ≠ .stopped ∧ (project0.order 903 = some (writingOrder 7 3 10 22) ∧
      (project0.bay 10).job = some ⟨.write 903 .b, 30000, 5000⟩) ∧ Mode.single ≠ rounds3.rack.mode := by decide

/-- Steps 1 and 6 of Table 5-4, an entry passed over, its end of round in SINGLE mode and, with no active job, in
CONTINUOUS mode, a slot outstanding, and nothing to do. -/
theorem witness_SlicesAreGranted :
    (rounds0.Takes .sliceNext (hdr .sliceNext) ∧ rounds0.book.orders.wf = true) ∧ rounds3.rack.slot ≠ none ∧
    (∀ s ∈ [{ State.reset with rack := rounds0.rack }], s.rack.state = .running ∧ s.rack.slot = none ∧
      s.rack.round = none ∧ (∀ b < 32, (s.bay b).active = false)) ∧
    (∀ s ∈ [{ State.reset with rack := { rounds0.rack with round := some ⟨42, 159, entries42, 3, 3⟩ } }],
      s.rack.state = .running ∧ s.rack.slot = none ∧ s.rack.mode = .continuous ∧ (∀ b < 32, (s.bay b).active = false) ∧
      (∀ x ∈ entries42.drop 3, x.even = false ∧ x.odd = false)) ∧
    (∀ s ∈ [{ rounds0 with rack := { rounds0.rack with round := some ⟨42, 159, entries42, 2, 2⟩ } }],
      s.rack.state = .running ∧ s.rack.slot = none ∧ entries42[2]? = some ⟨7, true, true⟩ ∧
      (s.bay 14).job = some ⟨.write 832 .a, 200, 200⟩ ∧ 1 ≤ s.rack.jobWidth (.write 832 .a) ∧
      (s.bay 15).job = some ⟨.write 833 .a, 64, 64⟩ ∧ 1 ≤ s.rack.jobWidth (.write 833 .a)) ∧
    (∀ l ∈ [[(⟨1, false, false⟩ : Entry), ⟨4, true, false⟩]], l[1]? = some ⟨4, true, false⟩ ∧
      (∀ j < 1, ∀ x ∈ l[j]?, x.even = false ∧ x.odd = false) ∧
      (rounds0.bay 8).job = some ⟨.write 831 .b, 40, 40⟩ ∧ 1 ≤ rounds0.rack.jobWidth (.write 831 .b)) ∧
    ((List.range 16).filterMap (fun k =>
      if (rounds0.bay (2 * k)).active = true ∨ (rounds0.bay (2 * k + 1)).active = true then
        some (⟨k, (rounds0.bay (2 * k)).active, (rounds0.bay (2 * k + 1)).active⟩ : Entry) else none) =
      ⟨1, true, true⟩ :: [⟨4, true, false⟩, ⟨7, true, true⟩]) ∧
    (∀ s ∈ [{ rounds0 with rack := { rounds0.rack with mode := .single, round := some ⟨42, 159, entries42, 3, 3⟩ } }],
      s.rack.state = .running ∧ s.rack.slot = none ∧
      (∀ x ∈ entries42.drop 3, x.even = false ∧ x.odd = false)) := by decide

/-- Step 2 of Table 5-4: both bays of pair 1 credited, at the deadline. -/
def creditState : State :=
  { rounds0 with
    clock := { rounds0.clock with tick := 378 }
    rack := { rounds0.rack with
      roundNumber := 42, round := some ⟨42, 159, entries42, 0, 0⟩
      slot := some ⟨1, ⟨64, some (.write 830 .a), false⟩, ⟨16, some .blank, false⟩, 0, 378⟩ } }

theorem witness_ReportsAreCredited :
    creditState.Takes .sliceDone (hdr .sliceDone) ∧ rounds0.rack.slot = none ∧
    (creditState.rack.slot = some ⟨1, ⟨64, some (.write 830 .a), false⟩, ⟨16, some .blank, false⟩, 0, 378⟩ ∧
      creditState.clock.tick ≤ 378 ∧ creditState.book.orders.wf = true ∧ (64 < 65) ∧ (16 < 17) ∧
      64 < (creditState.bay 2).remaining ∧ 16 < (creditState.bay 3).remaining) := by decide

/-- A slot that grants one bay of a pair its whole remaining count. -/
def endState (r : Bay) (g : Grant) : State :=
  { rounds0 with
    bays := rounds0.bays.set 2 r
    carts := { rounds0.carts with table := [(20, ⟨.needsBlank, 1, 0, 64, .unbound, some 2⟩)] }
    rack := { rounds0.rack with
      roundNumber := 42, round := some ⟨42, 69, [⟨1, true, false⟩], 0, 0⟩
      slot := some ⟨1, g, ⟨0, none, false⟩, 0, 378⟩ } }

/-- A WRITE job that completes or reports one block short, a BLANK job that completes with no order waiting, and
a short slice of one. -/
theorem witness_ReportsEndJobs :
    (endState (writingBay 20 830 .a 64 100) ⟨64, some (.write 830 .a), false⟩).Takes .sliceDone (hdr .sliceDone) ∧
    (∀ s ∈ [endState (writingBay 20 830 .a 64 100) ⟨64, some (.write 830 .a), false⟩],
      s.bays.length = 32 ∧ s.bay 2 = writingBay 20 830 .a 64 100 ∧ s.clock.tick ≤ 378 ∧
      s.rack.slot = some ⟨2 / 2, ⟨64, some (.write 830 .a), false⟩, ⟨0, none, false⟩, 0, 378⟩ ∧
      s.book.orders.wf = true ∧ s.order 830 = some (writingOrder 7 1 2 20) ∧ (63 < 64) ∧
      (s.patron 7).map Patron.openContainer = some none ∧
      s.cart 20 = some ⟨.needsBlank, 1, 0, 64, .unbound, some 2⟩ ∧ (∀ a < 32, (s.bay a).state ≠ .armed)) ∧
    (∀ s ∈ [endState (blankingBay 20 16 64) ⟨16, some .blank, false⟩],
      (s.bay 2).job = some ⟨.blank, 64, 16⟩ ∧ (s.bay 2).cartridge = some 20 ∧
      s.cart 20 = some ⟨.needsBlank, 1, 0, 64, .unbound, some 2⟩ ∧ s.book.queue = [] ∧ (15 < 16)) := by decide

/-- Step 1 of Table 8-4 (a new container), a container with room, the braille copy of step 2, and 256 containers. -/
def fullContainers : State :=
  { packState with packing := { packState.packing with
      containers := (List.range 256).map (fun n => (n + 1, ⟨7, 1, .sealed, [], false, 0, none, false, none⟩)) } }

theorem witness_ItemsArePacked :
    (packState.Takes .packItem (hdr .packItem) ∧ packState.packing.idleTime ≠ 0 ∧
      packState.patron 45310 = some { plainPatron with region := 4, outstanding := 4 }) ∧
    ((packState.order 1201).map (fun o => (o.state, o.format, o.serial)) = some (.ready, .cartridge, some 9510) ∧
      packState.cart 9510 = some ⟨.written, 3, 0, 500, .order 1201, none⟩) ∧
    ((packState.order 1203).map (fun o => (o.state, o.format, o.serial)) = some (.ready, .braille, none) ∧
      packState.title 7710 = some (.braille (copyMap [.absent, .absent, .absent, .absent, .absent, .allocated 1203]) []) ∧
      (copyMap [.absent, .absent, .absent, .absent, .absent, .allocated 1203]).getD 5 .absent = .allocated 1203) ∧
    (packState.packing.containers.length < 256 ∧ packState.packing.containers.wf = true ∧
      1 ≤ packState.packing.containerCounter ∧ packState.packing.containerCounter ≤ 65535) ∧
    256 ≤ fullContainers.packing.containers.length ∧
    (∀ s ∈ [{ packState with
        patrons := [(45310, { plainPatron with region := 4, outstanding := 4, openContainer := some 300 })]
        packing := { packState.packing with
          containers := [(300, ⟨45310, 4, .opened, [1, 2], false, 0, some 899, false, none⟩)] } }],
      (s.patron 45310).map Patron.openContainer = some (some 300) ∧
      s.container 300 = some ⟨45310, 4, .opened, [1, 2], false, 0, some 899, false, none⟩) := by decide +kernel

theorem witness_ContainersAreClosedByRequest :
    day0.Takes .containerClose (hdr .containerClose) ∧ day0.container 1 = none ∧
    (day1.container 5122).map Container.state = some .closed ∧
    (day0.container 5120).map Container.state = some .opened := by decide

/-- A CLOSED container of region `region`, one bag of region 2 with 23 containers. -/
def sealState (region : Nat) : State :=
  { day0 with packing := { day0.packing with
      containers := [(300, ⟨40021, region, .closed, [990], true, 0, none, false, none⟩)]
      bags := [(7, ⟨2, .filling, (List.range 23).map (· + 1), false⟩)] } }

/-- The 24th container of a bag, a new bag, no bag and no room, a container that is not CLOSED, and the two
bag states. -/
theorem witness_SealedContainersJoinBags :
    ((sealState 2).Takes .containerSealed (hdr .containerSealed) ∧
      (sealState 2).bag 7 = some ⟨2, .filling, (List.range 23).map (· + 1), false⟩ ∧
      300 ∉ (List.range 23).map (· + 1) ∧ (sealState 2).packing.BagLaw ∧
      (sealState 2).container 300 = some ⟨40021, 2, .closed, [990], true, 0, none, false, none⟩) ∧
    ((∀ e ∈ (sealState 3).packing.bags, ¬ (e.2.region = 3 ∧ e.2.state = .filling)) ∧
      (sealState 3).packing.bags.length < 16 ∧ 1 ≤ (sealState 3).packing.bagCounter ∧
      (sealState 3).packing.bagCounter ≤ 255) ∧
    (∀ s ∈ [{ drainState with packing := { drainState.packing with
        containers := [(300, ⟨7, 1, .closed, [], false, 0, none, false, none⟩)] } }],
      (s.container 300).map Container.state = some .closed ∧
      (∀ e ∈ s.packing.bags, ¬ (e.2.region = 1 ∧ e.2.state = .filling)) ∧ 16 ≤ s.packing.bags.length ∧ s.bag 0 = none) ∧
    (day0.container 5120).map Container.state = some .opened ∧
    (day0.Takes .bagClose (hdr .bagClose) ∧ (cutState.bag 7).map Bag.state = some .filling ∧
      (cutState.bag 9).map Bag.state = some .closed) := by decide

/-- A CLOSED bag with one container of one item: a cartridge (order 1201) or a copy (order 1203). -/
def handState (n : Nat) : State :=
  { bagState with packing := { bagState.packing with
      containers := [(300, ⟨45310, 4, .bagged, [n], false, 0, none, false, some 12⟩)]
      bags := [(12, ⟨4, .closed, [300], true⟩)] } }

/-- 8.9 with two containers waiting, of regions 1 and `region`. -/
def drainTwo (region : Nat) : State :=
  { drainState with packing := { drainState.packing with
      unbagged := [710, 711]
      containers := [(600, ⟨7, 6, .bagged, [], false, 0, none, false, some 40⟩),
        (710, ⟨7, 1, .waitingBag, [], false, 0, none, false, none⟩), (711, ⟨7, region, .waitingBag, [], false, 0, none, false, none⟩)] } }

set_option synthInstance.maxSize 2000 in
/-- One item (a cartridge, a copy); the two containers of Table 8-4; and two containers that wait, of one region
and of two. -/
theorem witness_HandedBagsBecomeLoans :
    day0.Takes .bagHanded (hdr .bagHanded) ∧ (day0.bag 7).map Bag.state = some .filling ∧
    (∀ n ∈ [1201, 1203], (handState n).bag 12 = some ⟨4, .closed, [300], true⟩ ∧ (handState n).packing.unbagged = [] ∧
      ([300].map (fun k => (((handState n).container k).map Container.items).getD [])).flatten = [n] ∧
      (handState n).loans.loans.length < 65535 ∧ 1 ≤ (handState n).loans.counter ∧ (handState n).loans.counter ≤ 65535) ∧
    (((handState 1201).order 1201).map (fun o => (o.format, o.serial)) = some (.cartridge, some 9510) ∧
      (handState 1201).cart 9510 = some ⟨.packed, 3, 0, 500, .order 1201, none⟩) ∧
    (((handState 1203).order 1203).map (fun o => (o.format, o.title, o.copy)) = some (.braille, 7710, some 5) ∧
      (handState 1203).title 7710 =
        some (.braille (copyMap [.absent, .absent, .absent, .absent, .absent, .allocated 1203]) [])) ∧
    (bagState.Takes .bagHanded (hdr .bagHanded) ∧ bagState.packing.unbagged = [] ∧
      bagState.bag 12 = some ⟨4, .closed, [301, 300], true⟩ ∧
      ([301, 300].map (fun k => ((bagState.container k).map Container.items).getD [])).flatten = [1203, 1201] ∧
      [1203, 1201].Nodup ∧ (∀ m ∈ [1203, 1201], (bagState.order m).isSome = true) ∧ 1 ≤ bagState.loans.counter ∧
      bagState.loans.counter + 2 ≤ 65535 ∧ (∀ j < 2, bagState.loan (bagState.loans.counter + j) = none)) ∧
    (∀ r ∈ [1, 2], (drainTwo r).Takes .bagHanded (hdr .bagHanded) ∧ (drainTwo r).bag 40 = some ⟨6, .closed, [600], false⟩ ∧
      (drainTwo r).packing.unbagged = [710, 711] ∧ (drainTwo r).container 710 = some ⟨7, 1, .waitingBag, [], false, 0, none, false, none⟩ ∧
      (drainTwo r).container 711 = some ⟨7, r, .waitingBag, [], false, 0, none, false, none⟩ ∧
      (drainTwo r).packing.bags.wf = true ∧ (drainTwo r).packing.bags.length = 16 ∧
      (∀ e ∈ (drainTwo r).packing.bags, e.2.state = .filling → e.2.region ≠ 1 ∧ e.2.region ≠ r) ∧
      (drainTwo r).packing.bagCounter = (42 - 1 + 0) % 255 + 1 ∧ ((drainTwo r).packing.bags.drop 40).look 42 = none) := by decide

/-- A patron with two loans, a cartridge and a copy, and no deferred entry; the wear count given. -/
def closeState (writes : Nat) : State :=
  { State.reset with
    patrons := [(7, { plainPatron with outstanding := 2, overdue := 1, causes := ⟨false, true, false⟩ })]
    titles := [(1, .cartridge 9 .a), (7700, .braille (copyMap [.onLoan 2]) [])]
    carts := ⟨[(20, ⟨.onLoan, writes, 0, 9, .loan 1, none⟩)], [], []⟩
    loans := { State.reset.loans with
      loans := [(1, ⟨7, 1, .cartridge 20, 0, 42, .overdue⟩), (2, ⟨7, 7700, .copy 0, 0, 42, .out⟩)] } }

/-- A cartridge below and at the wear limit, and a copy. -/
theorem witness_ReturnsCloseLoans :
    (∀ w ∈ [999, 1000], ∀ s ∈ [closeState w], s.Takes .returnItem (hdr .returnItem) ∧ s.lane.state = .running ∧
      s.loan 1 = some ⟨7, 1, .cartridge 20, 0, 42, .overdue⟩ ∧ s.loan 2 = some ⟨7, 7700, .copy 0, 0, 42, .out⟩ ∧
      (s.patron 7).map Patron.deferred = some [] ∧ s.book.orders.wf = true ∧ s.titles.wf = true ∧ s.patrons.wf = true ∧
      s.cart 20 = some ⟨.onLoan, w, 0, 9, .loan 1, none⟩ ∧ s.title 7700 = some (.braille (copyMap [.onLoan 2]) []) ∧
      (copyMap [.onLoan 2]).getD 0 .absent = .onLoan 2) ∧
    (999 < (closeState 999).loans.wearLimit ∧ (closeState 1000).loans.wearLimit ≤ 1000) := by decide

/-- Each of the kinds of error, on a RUNNING lane, and a STOPPED lane. -/
theorem witness_ReturnErrorsStopTheLane :
    laneState.Takes .returnItem (hdr .returnItem) ∧ laneState.lane.state = .running ∧ stoppedState.lane.state = .stopped ∧
    laneState.cart 1 = none ∧ (feed0.cart 9001).map Cartridge.state = some .blank ∧
    (laneState.title 1 = none ∧ laneState.title 3400 = some (.cartridge 9 .a) ∧
      laneState.title 7730 = some (.braille (copyMap [.onShelf]) []) ∧ (copyMap [.onShelf]).getD 63 .absent = .absent) ∧
    (copyMap [.onShelf]).getD 0 .absent = .onShelf := by decide

theorem witness_TheLaneIsClearedAndMasked :
    stoppedState.Takes .laneClear (hdr .laneClear) ∧ stoppedState.Takes .laneMask (hdr .laneMask) ∧
    laneState.lane.capture = none ∧
    stoppedState.lane.capture = some ⟨.unreadable, .unreadable, none, 382, 700⟩ := by decide

theorem witness_QueriesReportTheRecords :
    (∀ k ∈ [Kind.status, .cartridgeQuery, .bayQuery, .rackQuery, .projectionQuery, .containerQuery, .bagQuery, .laneQuery],
      rounds3.Takes k (hdr k)) ∧
    (feed0.cart 9102 = some ⟨.needsBlank, 40, 0, 3000, .unbound, none⟩ ∧ feed0.carts.backlog[1]? = some 9102 ∧
      9102 ∉ feed0.carts.pool) ∧
    (feed0.carts.pool[0]? = some 9001 ∧ 9001 ∉ feed0.carts.backlog ∧ 9001 ∉ feed2.carts.pool ∧ 9001 ∉ feed2.carts.backlog) ∧
    ((rounds3.bay 31).job = none ∧ (rounds3.bay 8).job = some ⟨.write 831 .b, 40, 40⟩ ∧
      (rounds3.bay 3).job = some ⟨.blank, 64, 48⟩) ∧
    (rounds3.rack.round.isSome = true ∧ rounds3.rack.slot.isSome = true ∧ State.reset.rack.round = none) ∧
    (project0.order 903 = some (writingOrder 7 3 10 22) ∧ (project0.bay 10).job = some ⟨.write 903 .b, 30000, 5000⟩) ∧
    (drainState.container 711 = some ⟨7, 2, .waitingBag, [], false, 0, none, false, none⟩ ∧
      drainState.packing.unbagged[1]? = some 711 ∧ drainState.packing.unbagged[0]? ≠ some 711) ∧
    ((packState2 7 (packedOrders true)).container 300 = some ⟨45310, 4, .opened, [1201], false, 40000, some 7, false, none⟩ ∧
      (packState2 7 (packedOrders true)).container 301 = some ⟨45310, 4, .closed, [1203], true, 40120, none, false, none⟩) ∧
    bagState.bag 12 = some ⟨4, .closed, [301, 300], true⟩ ∧ laneState.lane.capture = none ∧
    ((pair3faulted.bay 7).aborted = some ⟨.write 720 .a, 2000, 2000⟩ ∧ (pair3faulted.bay 6).aborted = none ∧
      (oneBay ⟨.faulted, none, none, some .drive, some ⟨.blank, 32, 32⟩⟩ ⟨.inBay, 1, 0, 9, .order 5, some 31⟩).bay 31 =
        ⟨.faulted, none, none, some .drive, some ⟨.blank, 32, 32⟩⟩) ∧
    stoppedState.lane.capture = some ⟨.unreadable, .unreadable, none, 382, 700⟩ := by decide

end Sys2Proof.Tests
end

/-! ### The shape of a state

Which numbers stand in each table, whose each order and loan is, and the patron records. Almost every act of
the part leaves the shape as it is; the laws of Chapter 1 on counts and capacities are laws of the shape. -/

namespace Sys2Proof.Machine

/-- A patron record without its open container field, which the packing unit writes (R128, R130). -/
def Patron.account (p : Patron) : Patron :=
  { p with openContainer := none }

/-- The numbers of every table, the owners of orders and loans, the number counters and the patron records. -/
structure Shape where
  patrons : Table Patron
  owners : Table Nat
  orderCounter : Nat
  borrowers : Table Nat
  loanCounter : Nat
  titles : List Nat
  carts : List Nat
  containers : List Nat
  bags : List Nat
  bays : Nat

/-- The shape of a state. -/
def State.shape (s : State) : Shape where
  patrons := s.patrons.mapRecords (fun _ p => p.account)
  owners := s.book.orders.map (fun e => (e.1, e.2.patron))
  orderCounter := s.book.counter
  borrowers := s.loans.loans.map (fun e => (e.1, e.2.patron))
  loanCounter := s.loans.counter
  titles := s.titles.map Prod.fst
  carts := s.carts.table.map Prod.fst
  containers := s.packing.containers.map Prod.fst
  bags := s.packing.bags.map Prod.fst
  bays := s.bays.length

/-! ### Record updates that change no number -/

@[simp] theorem Table.keys_mapRecords {α : Type} (t : Table α) (f : Nat → α → α) :
    (t.mapRecords f).map Prod.fst = t.map Prod.fst := by
  simp [Table.mapRecords]

@[simp] theorem Table.keys_alter {α : Type} (t : Table α) (n : Nat) (f : α → α) :
    (t.alter n f).map Prod.fst = t.map Prod.fst :=
  t.keys_mapRecords _

/-- A change of records that keeps a value of each keeps the table of these values. -/
theorem Table.map_mapRecords_of_eq {α β : Type} (t : Table α) {f : Nat → α → α} {g : α → β}
    (hf : ∀ n a, g (f n a) = g a) :
    (t.mapRecords f).map (fun e => (e.1, g e.2)) = t.map (fun e => (e.1, g e.2)) := by
  simp [Table.mapRecords, hf]

theorem Table.map_alter_of_eq {α β : Type} (t : Table α) (n : Nat) {f : α → α} {g : α → β}
    (hf : ∀ a, g (f a) = g a) :
    (t.alter n f).map (fun e => (e.1, g e.2)) = t.map (fun e => (e.1, g e.2)) :=
  t.map_mapRecords_of_eq (fun k a => by split <;> simp [hf])

variable (s : State)

/-! ### The primitive updates -/

@[simp] theorem State.shape_onUnit (p : Port) (f : PortUnit → PortUnit) : (s.onUnit p f).shape = s.shape := rfl
@[simp] theorem State.shape_raise (p : Port) (k : NoticeKind) (n : Nat) (d : List Field) :
    (s.raise p k n d).shape = s.shape := rfl
@[simp] theorem State.shape_clocked (h : Header) : (s.clocked h).shape = s.shape := rfl
@[simp] theorem State.shape_setQueue (q : List Nat) : (s.setQueue q).shape = s.shape := rfl
@[simp] theorem State.shape_joinPool (n : Nat) : (s.joinPool n).shape = s.shape := rfl
@[simp] theorem State.shape_joinBacklog (n : Nat) : (s.joinBacklog n).shape = s.shape := rfl
@[simp] theorem State.shape_leaveQueues (n : Nat) : (s.leaveQueues n).shape = s.shape := rfl
@[simp] theorem State.shape_onRack (f : Scheduler → Scheduler) : (s.onRack f).shape = s.shape := rfl

@[simp] theorem State.shape_setBay (b : Nat) (r : Bay) : (s.setBay b r).shape = s.shape := by
  simp [State.shape]

@[simp] theorem State.shape_onTitle (n : Nat) (f : Title → Title) : (s.onTitle n f).shape = s.shape := by
  simp [State.shape]

@[simp] theorem State.shape_onCart (n : Nat) (f : Cartridge → Cartridge) : (s.onCart n f).shape = s.shape := by
  simp [State.shape]

@[simp] theorem State.shape_onContainer (n : Nat) (f : Container → Container) :
    (s.onContainer n f).shape = s.shape := by
  simp [State.shape]

@[simp] theorem State.shape_onBag (n : Nat) (f : Bag → Bag) : (s.onBag n f).shape = s.shape := by
  simp [State.shape]

/-- A change of an order that leaves it with its patron. -/
@[simp] theorem State.shape_onOrder (n : Nat) {f : Order → Order} (hf : ∀ o, (f o).patron = o.patron) :
    (s.onOrder n f).shape = s.shape := by
  simp [State.shape, Table.map_alter_of_eq _ _ hf]

@[simp] theorem State.shape_onOrders {f : Nat → Order → Order} (hf : ∀ n o, (f n o).patron = o.patron) :
    (s.onOrders f).shape = s.shape := by
  simp [State.shape, Table.map_mapRecords_of_eq _ hf]

/-- A change of a patron record in its open container field alone. -/
theorem State.shape_onPatron (n : Nat) {f : Patron → Patron} (hf : ∀ p, (f p).account = p.account) :
    (s.onPatron n f).shape = s.shape := by
  simpa [State.shape, Table.mapRecords] using Table.map_alter_of_eq s.patrons n hf

/-! ### Projections (Chapter 6) -/

@[simp] theorem State.project_patron (o : Order) (r : Nat) : (s.project o r).patron = o.patron := rfl
@[simp] theorem Order.stoppedForm_patron (o : Order) : o.stoppedForm.patron = o.patron := rfl
@[simp] theorem Order.unseat_patron (o : Order) (st : OrderState) : (o.unseat st).patron = o.patron := rfl
@[simp] theorem State.readyForm_patron (o : Order) : (s.readyForm o).patron = o.patron := rfl
@[simp] theorem State.verifyForm_patron (o : Order) : (s.verifyForm o).patron = o.patron := rfl

@[simp] theorem State.writingForm_patron (t : Nat) (o : Order) : (s.writingForm t o).patron = o.patron := by
  unfold State.writingForm State.runningForm
  split
  · split <;> rfl
  · rfl

@[simp] theorem State.dayForm_patron (d : Bool) (o : Order) : (s.dayForm d o).patron = o.patron := by
  unfold State.dayForm
  split <;> simp

@[simp] theorem State.shape_recomputeWriting (t : Nat) : (s.recomputeWriting t).shape = s.shape :=
  s.shape_onOrders (fun _ o => by split <;> simp)

@[simp] theorem State.shape_stopProjections : s.stopProjections.shape = s.shape :=
  s.shape_onOrders (fun _ o => by split <;> simp)

@[simp] theorem State.shape_dayRecompute (d : Bool) : (s.dayRecompute d).shape = s.shape :=
  s.shape_onOrders (fun _ o => by simp)

@[simp] theorem State.shape_tagsLate : s.tagsLate.shape = s.shape :=
  s.shape_onOrders (fun _ o => by split <;> rfl)

/-! ### The packing unit (Chapter 8) -/

@[simp] theorem State.shape_closeContainer (n : Nat) : (s.closeContainer n).shape = s.shape := by
  unfold State.closeContainer
  split
  · rfl
  · rw [State.shape_onPatron _ _ (fun p => by split <;> rfl), State.shape_onContainer]

@[simp] theorem State.shape_closeWithNotice (n : Nat) (c : CloseCause) : (s.closeWithNotice n c).shape = s.shape := by
  unfold State.closeWithNotice
  split <;> simp

@[simp] theorem State.shape_hold (n : Nat) : (s.hold n).shape = s.shape := by
  simp [State.hold]

@[simp] theorem State.shape_idleExpire (n : Nat) : (s.idleExpire n).shape = s.shape := by
  unfold State.idleExpire
  (repeat' split) <;> simp

@[simp] theorem State.shape_reexamine (n : Nat) : (s.reexamine n).shape = s.shape := by
  unfold State.reexamine
  (repeat' split) <;> simp

@[simp] theorem State.shape_settle (b : Table Order) : (s.settle b).shape = s.shape := by
  unfold State.settle
  rw [foldl_keeps State.shape _ (fun s e => by simp), foldl_keeps State.shape _ (fun s e => by simp [State.noteChange])]

@[simp] theorem State.shape_closeBag (n : Nat) (c : Bool) : (s.closeBag n c).shape = s.shape := by
  unfold State.closeBag
  split
  · rfl
  · rw [foldl_keeps State.shape _ (fun s e => by simp), State.shape_onBag]

@[simp] theorem State.shape_bagNotice (n : Nat) : (s.bagNotice n).shape = s.shape := by
  unfold State.bagNotice
  split <;> simp

@[simp] theorem State.shape_joinBag (c b : Nat) : (s.joinBag c b).shape = s.shape := by
  simp only [State.joinBag]
  (repeat' split) <;> simp

/-! ### The rack (Chapters 3, 4 and 5) -/

@[simp] theorem State.shape_retire (n : Nat) : (s.retire n).shape = s.shape := by
  simp [State.retire]

@[simp] theorem State.shape_startJob (b : Nat) (k : JobKind) (n : Nat) : (s.startJob b k n).shape = s.shape := by
  simp [State.startJob]

@[simp] theorem State.shape_abortJob (b : Nat) (k : Bool) : (s.abortJob b k).shape = s.shape := by
  simp only [State.abortJob]
  (repeat' split) <;> simp

@[simp] theorem State.shape_blankInPlace (b : Nat) : (s.blankInPlace b).shape = s.shape := by
  unfold State.blankInPlace
  split <;> simp

@[simp] theorem State.shape_assign (n b : Nat) : (s.assign n b).shape = s.shape := by
  simp only [State.assign]
  (repeat' split) <;> simp

@[simp] theorem State.shape_arbiterLoop (fuel : Nat) : (State.arbiterLoop fuel s).shape = s.shape := by
  induction fuel generalizing s with
  | zero => rfl
  | succ k ih =>
    unfold State.arbiterLoop
    split <;> simp [ih]

@[simp] theorem State.shape_arbiter : s.arbiter.shape = s.shape :=
  s.shape_arbiterLoop _

@[simp] theorem State.shape_rejoin (n : Nat) : (s.rejoin n).shape = s.shape := by
  simp only [State.rejoin, State.shape_arbiter, State.shape_setQueue]
  exact s.shape_onOrder n (fun o => rfl)

@[simp] theorem State.shape_reexamineOf (n : Nat) : (s.reexamineOf n).shape = s.shape := by
  unfold State.reexamineOf
  split <;> simp

@[simp] theorem State.shape_reenter (n : Nat) : (s.reenter n).shape = s.shape := by
  simp [State.reenter]

@[simp] theorem State.shape_faultBay (b : Nat) (k : FaultKind) (c : Bool) : (s.faultBay b k c).shape = s.shape := by
  simp only [State.faultBay]
  (repeat' split) <;> simp

@[simp] theorem State.shape_completeBlank (b : Nat) : (s.completeBlank b).shape = s.shape := by
  simp only [State.completeBlank]
  (repeat' split) <;> simp

@[simp] theorem State.shape_completeWrite (b n : Nat) : (s.completeWrite b n).shape = s.shape := by
  simp only [State.completeWrite]
  rw [State.shape_onOrder]
  · simp
  · exact fun _ => rfl

@[simp] theorem State.shape_completeJob (b : Nat) : (s.completeJob b).shape = s.shape := by
  unfold State.completeJob
  split <;> simp

@[simp] theorem State.shape_credit (b n : Nat) : (s.credit b n).shape = s.shape := by
  simp [State.credit]

@[simp] theorem State.shape_applySlice (b : Nat) (g : Grant) (n : Nat) : (s.applySlice b g n).shape = s.shape := by
  unfold State.applySlice
  split <;> simp

@[simp] theorem State.shape_expireSlot : s.expireSlot.shape = s.shape := by
  unfold State.expireSlot
  split <;> simp

@[simp] theorem State.shape_startRound : s.startRound.shape = s.shape := by
  simp [State.startRound]

@[simp] theorem State.shape_stopRack : s.stopRack.shape = s.shape := by
  simp [State.stopRack]

@[simp] theorem State.shape_beginRound : s.beginRound.state.shape = s.shape := by
  simp only [State.beginRound]
  (repeat' split) <;> simp [answer, State.grantSlot]

@[simp] theorem State.shape_nextSlice : s.nextSlice.state.shape = s.shape := by
  unfold State.nextSlice
  (repeat' split) <;> simp [answer, State.grantSlot, State.roundDone]

@[simp] theorem State.shape_takeReport (sl : Slot) (m n : Nat) : (s.takeReport sl m n).shape = s.shape := by
  simp [State.takeReport]

/-! ### The order book (Chapters 1 and 2) -/

@[simp] theorem State.shape_joinPending (n : Nat) : (s.joinPending n).shape = s.shape := by
  simp [State.joinPending]

@[simp] theorem State.shape_allocate (t i n : Nat) : (s.allocate t i n).shape = s.shape := by
  simp only [State.allocate, State.shape_raise]
  rw [State.shape_onOrder]
  · simp
  · exact fun _ => rfl

@[simp] theorem State.shape_shelve (t i : Nat) : (s.shelve t i).shape = s.shape := by
  simp only [State.shelve]
  split <;> simp

@[simp] theorem State.shape_bringCopies (t : Nat) (l : List Nat) (r : State × Nat × Nat) :
    (State.bringCopies t l r).1.shape = r.1.shape := by
  induction l generalizing r with
  | nil => rfl
  | cons i rest ih =>
    obtain ⟨s, needed, done⟩ := r
    unfold State.bringCopies
    (repeat' split) <;> simp [ih]

@[simp] theorem State.shape_releaseItem (n : Nat) (o : Order) : (s.releaseItem n o).shape = s.shape := by
  unfold State.releaseItem
  (repeat' split) <;> simp

/-- R13: what follows the entry of an order in the book, whatever its format, leaves the shape. -/
theorem State.shape_createOrder {title : Nat} {t : Title} (ht : s.title title = some t) (patron : Nat) (pr : Priority) :
    (s.createOrder patron title pr).shape =
      (s.enterOrder (assignNumber maxNumber s.book.orders s.book.counter) patron title t.format pr).shape := by
  unfold State.createOrder
  rw [ht]
  cases t with
  | cartridge size sel => simp [Title.format]
  | braille copies hold =>
    dsimp only
    split <;> simp [Title.format]

/-! ### The day clock (Chapters 7 and 9) -/

@[simp] theorem State.shape_lastCall : s.lastCall.shape = s.shape := by
  unfold State.lastCall
  rw [State.shape_tagsLate, foldl_keeps State.shape _ (fun s e => by simp), State.shape_raise]

@[simp] theorem State.shape_cutOff : s.cutOff.shape = s.shape := by
  unfold State.cutOff
  rw [foldl_keeps State.shape _ (fun s e => by simp), State.shape_raise]

@[simp] theorem State.shape_withClock (c : Clock) : ({ s with clock := c } : State).shape = s.shape := rfl

@[simp] theorem State.shape_enterMailDay : s.enterMailDay.shape = s.shape := by
  simp only [State.enterMailDay]
  (repeat' split) <;> simp

@[simp] theorem State.shape_clearLaneCounts : s.clearLaneCounts.shape = s.shape := rfl

@[simp] theorem State.shape_idleSecond : s.idleSecond.shape = s.shape := by
  simp [State.idleSecond, State.shape]

end Sys2Proof.Machine

/-! ### Requests that leave the shape -/

namespace Sys2Proof.Machine

@[simp] theorem refuse_state (s : State) (c : Code) (f : Nat) : (refuse s c f).state = s := rfl
@[simp] theorem answer_state (s : State) (c : Code) (b : List Field) : (answer s c b).state = s := rfl

variable (s : State)

@[simp] theorem shape_patronQuery (n : Nat) : (patronQuery n s).state.shape = s.shape := by
  unfold patronQuery
  (repeat' split) <;> simp

@[simp] theorem shape_orderRetry (n : Nat) : (orderRetry n s).state.shape = s.shape := by
  unfold orderRetry
  split
  · rfl
  split
  · rfl
  split
  · rfl
  · simp only [State.shape_settle, State.shape_joinPending]
    exact s.shape_onOrder n (fun _ => rfl)

@[simp] theorem shape_orderQuery (f n p t : Nat) : (orderQuery f n p t s).state.shape = s.shape := by
  simp only [orderQuery]
  split
  · simp
  split <;> (try split) <;> simp

@[simp] theorem shape_loanQuery (f n p t : Nat) : (loanQuery f n p t s).state.shape = s.shape := by
  simp only [loanQuery]
  split
  · simp
  split <;> (try split) <;> simp

@[simp] theorem shape_titleSet (n size sel copies : Nat) : (titleSet n size sel copies s).state.shape = s.shape := by
  unfold titleSet setCartridgeTitle
  simp only [setBrailleTitle]
  (repeat' split) <;> simp

@[simp] theorem shape_titleQuery (n c : Nat) : (titleQuery n c s).state.shape = s.shape := by
  unfold titleQuery
  (repeat' split) <;> simp

@[simp] theorem shape_circSet (p g w r : Nat) : (circSet p g w r s).state.shape = s.shape := rfl

@[simp] theorem shape_nextInsert : (nextInsert s).state.shape = s.shape := rfl

@[simp] theorem shape_bayInsert (b c : Nat) : (bayInsert b c s).state.shape = s.shape := by
  unfold bayInsert
  (repeat' split) <;> simp [State.insertBlank, State.insertDirty]

@[simp] theorem State.shape_removeInJob (b c : Nat) : (s.removeInJob b c).shape = s.shape := by
  simp [State.removeInJob]

@[simp] theorem State.shape_removeDone (b c : Nat) : (s.removeDone b c).shape = s.shape := by
  simp only [State.removeDone]
  split <;> simp [State.emptyBay]

@[simp] theorem shape_bayRemove (b : Nat) : (bayRemove b s).state.shape = s.shape := by
  unfold bayRemove
  split
  · rfl
  split
  · rfl
  split <;> simp [State.emptyBay, State.removeFaulted]

@[simp] theorem shape_bayFault (b f : Nat) : (bayFault b f s).state.shape = s.shape := by
  unfold bayFault
  (repeat' split) <;> simp

@[simp] theorem shape_bayClear (b : Nat) : (bayClear b s).state.shape = s.shape := by
  unfold bayClear
  (repeat' split) <;> simp

@[simp] theorem shape_bayQuery (b : Nat) : (bayQuery b s).state.shape = s.shape := by
  unfold bayQuery
  split <;> simp

@[simp] theorem State.shape_verifyPass (b n : Nat) : (s.verifyPass b n).shape = s.shape := by
  simp only [State.verifyPass]
  rw [State.shape_onOrder]
  · simp
  · exact fun _ => rfl

@[simp] theorem State.shape_failCartridge (b c : Nat) : (s.failCartridge b c).shape = s.shape := by
  simp only [State.failCartridge]
  split <;> simp

@[simp] theorem State.shape_failOrder (n c : Nat) : (s.failOrder n c).shape = s.shape := by
  unfold State.failOrder
  split
  · rfl
  split
  · simp
  · simp only [State.shape_reexamineOf, State.shape_raise]
    exact s.shape_onOrder n (fun _ => rfl)

@[simp] theorem shape_verifyDone (b r : Nat) : (verifyDone b r s).state.shape = s.shape := by
  unfold verifyDone
  (repeat' split) <;> simp

@[simp] theorem shape_rackStart : (rackStart s).state.shape = s.shape := by
  unfold rackStart
  split <;> simp

@[simp] theorem shape_rackStop : (rackStop s).state.shape = s.shape := by
  unfold rackStop
  split <;> simp

@[simp] theorem shape_rackSet (a b c d e : Nat) : (rackSet a b c d e s).state.shape = s.shape := by
  unfold rackSet
  (repeat' split) <;> simp

@[simp] theorem shape_sliceNext : (sliceNext s).state.shape = s.shape := by
  unfold sliceNext
  split <;> simp

@[simp] theorem shape_sliceDone (m n : Nat) : (sliceDone m n s).state.shape = s.shape := by
  unfold sliceDone
  (repeat' split) <;> simp

@[simp] theorem shape_containerClose (n : Nat) : (containerClose n s).state.shape = s.shape := by
  unfold containerClose
  (repeat' split) <;> simp

@[simp] theorem State.shape_withUnbagged (q : List Nat) :
    ({ s with packing := { s.packing with unbagged := q } } : State).shape = s.shape := rfl

@[simp] theorem State.shape_waitForBag (n : Nat) : (s.waitForBag n).shape = s.shape := by
  simp only [State.waitForBag]
  exact (State.shape_withUnbagged _ _).trans (s.shape_onContainer _ _)

@[simp] theorem shape_bagClose (n : Nat) : (bagClose n s).state.shape = s.shape := by
  unfold bagClose
  (repeat' split) <;> simp

@[simp] theorem State.shape_setMail (c m i a : Nat) : (s.setMail c m i a).shape = s.shape := by
  simp only [State.setMail]
  rw [foldl_keeps State.shape _ (fun s n => by simp)]
  simp only [State.shape_settle, State.shape_dayRecompute, State.shape_enterMailDay]
  rfl

@[simp] theorem shape_mailSet (c m i a : Nat) : (mailSet c m i a s).state.shape = s.shape := by
  simp [mailSet]

@[simp] theorem State.shape_laneError (k : ErrorKind) (i : GivenItem) (c : Option Nat) :
    (s.laneError k i c).shape = s.shape := by
  simp only [State.laneError]
  split <;> rfl

@[simp] theorem shape_laneClear : (laneClear s).state.shape = s.shape := rfl

@[simp] theorem shape_laneMask (a b c : Nat) : (laneMask a b c s).state.shape = s.shape := by
  unfold laneMask
  split <;> rfl

@[simp] theorem shape_fetchNotices (p : Port) (n : Nat) : (fetchNotices p n s).state.shape = s.shape := by
  unfold fetchNotices
  split <;> simp

@[simp] theorem shape_noticeMask (p : Port) (m n : Nat) : (noticeMask p m n s).state.shape = s.shape := by
  unfold noticeMask
  split <;> simp

@[simp] theorem shape_cartridgeQuery (n : Nat) : (cartridgeQuery n s).state.shape = s.shape := by
  unfold cartridgeQuery
  (repeat' split) <;> simp

@[simp] theorem shape_projectionQuery (n : Nat) : (projectionQuery n s).state.shape = s.shape := by
  unfold projectionQuery
  (repeat' split) <;> simp

@[simp] theorem shape_containerQuery (n : Nat) : (containerQuery n s).state.shape = s.shape := by
  unfold containerQuery
  (repeat' split) <;> simp

@[simp] theorem shape_bagQuery (n : Nat) : (bagQuery n s).state.shape = s.shape := by
  unfold bagQuery
  (repeat' split) <;> simp

@[simp] theorem shape_placeResponse (p : Port) : (placeResponse p s).shape = s.shape := by
  unfold placeResponse
  split <;> simp

@[simp] theorem State.shape_slotExpiry : s.slotExpiry.shape = s.shape := by
  unfold State.slotExpiry
  split <;> simp

@[simp] theorem State.shape_idleReached (n : Nat) : (s.idleReached n).shape = s.shape := by
  rcases s.idleReached_cases n with h | ⟨c, _, _, h⟩ <;> simp [h]

@[simp] theorem State.shape_idleStep : s.idleStep.shape = s.shape := by
  unfold State.idleStep
  (repeat' split) <;> rfl

/-! ### Laws of the shape -/

/-- R140: the order gone from the book and its loan in the table, before its item follows. -/
def State.lend (s : State) (n : Nat) (o : Order) : State :=
  { s.dropOrder n with loans := { s.loans with
    loans := s.loans.loans.put (assignNumber maxNumber s.loans.loans s.loans.counter) (s.newLoan o)
    counter := nextNumber maxNumber (assignNumber maxNumber s.loans.loans s.loans.counter) } }

/-- A law that holds of a state by its shape, and that the acts that change the shape keep: one field for each of
them, with what the act's request has tested. -/
structure ShapeLaw (P : State → Prop) : Prop where
  congr : ∀ {s t : State}, t.shape = s.shape → P s → P t
  opened : ∀ {s : State} {n hi lo : Nat} (region : Nat), P s → s.patrons.has n = false →
    s.patrons.length < maxPatrons → lo < hi → hi ≤ 15 →
    P { s with patrons := s.patrons.put n (.created region hi lo) }
  setFields : ∀ {s : State} {n hi lo : Nat} {p : Patron} (region : Nat) (b : Bool), P s →
    s.patron n = some p → p.outstanding ≤ hi → lo < hi → hi ≤ 15 →
    P (s.onPatron n (fun p => p.setFields region hi lo b))
  closed : ∀ {s : State} {n : Nat} {p : Patron}, P s → s.patron n = some p → p.outstanding = 0 →
    P { s with patrons := s.patrons.drop n }
  deferred : ∀ {s : State} {n title : Nat} {p : Patron}, P s → s.patron n = some p → title ∉ p.deferred →
    p.deferred.length < maxDeferred →
    P (s.onPatron n (fun p => { p with deferred := p.deferred ++ [title] }))
  undeferred : ∀ {s : State} (n : Nat) (g : List Nat → List Nat), P s →
    (∀ p, s.patron n = some p → (g p.deferred).Sublist p.deferred) →
    P (s.onPatron n (fun p => { p with deferred := g p.deferred }))
  entered : ∀ {s : State} {n : Nat} {p : Patron} (title : Nat) (f : Format) (pr : Priority), P s →
    s.patron n = some p → p.causes.limit = false → s.hasRoom = true →
    P (s.enterOrder (assignNumber maxNumber s.book.orders s.book.counter) n title f pr)
  cancelled : ∀ {s : State} {n : Nat} {o : Order}, P s → s.order n = some o →
    P ((s.dropOrder n).onPatron o.patron Patron.lose)
  loanClosed : ∀ {s : State} {n : Nat} {l : Loan}, P s → s.loan n = some l → P (s.closeLoan n l)
  lent : ∀ {s : State} {n : Nat} {o : Order}, P s → s.order n = some o → P (s.lend n o)
  swept : ∀ {s : State}, P s → P s.sweep
  titleLoaded : ∀ {s : State} {n : Nat} (t : Title), P s → s.titles.has n = false → s.titles.length < maxTitles →
    P { s with titles := s.titles.put n t }
  titleDropped : ∀ {s : State} (n : Nat), P s → P { s with titles := s.titles.drop n }
  cartAdded : ∀ {s : State} {n : Nat} (c : Cartridge), P s → s.carts.table.length < maxCartridges →
    P { s with carts := { s.carts with table := s.carts.table.put n c } }
  cartDropped : ∀ {s : State} (n : Nat), P s → P { s with carts := { s.carts with table := s.carts.table.drop n } }
  newContainer : ∀ {s : State} (n : Nat) (b : Bool), P s → s.packing.containers.length < maxContainers →
    P (s.newContainer n b).1
  newBag : ∀ {s : State} (region : Nat), P s → s.packing.bags.length < maxBags → P (s.newBag region).1
  removeBag : ∀ {s : State} (n : Nat) (l : List Nat), P s → P (s.removeBag n l)
  reset : ∀ q, P { State.reset with pending := q, resetHeld := true }

end Sys2Proof.Machine

/-! ### One record of a table of the state -/

namespace Sys2Proof.Machine

variable (s : State)

@[simp] theorem State.patron_onPatron_same (n : Nat) (f : Patron → Patron) :
    (s.onPatron n f).patron n = (s.patron n).map f :=
  Table.look_alter_same _ _ _

/-- R13: the patron side of the creation of an order. -/
theorem State.createOrder_patrons {title : Nat} {t : Title} (ht : s.title title = some t) (n : Nat) (pr : Priority) :
    (s.createOrder n title pr).patrons = s.patrons.alter n Patron.gain := by
  unfold State.createOrder
  rw [ht]
  cases t with
  | cartridge size sel => simp [State.enterOrder]
  | braille copies hold =>
    dsimp only
    split <;> simp [State.enterOrder]

theorem State.createOrder_of_no_title {title : Nat} (ht : s.title title = none) (n : Nat) (pr : Priority) :
    s.createOrder n title pr = s := by
  unfold State.createOrder
  rw [ht]

/-- The creation of an order leaves the patron's deferred list. -/
theorem State.createOrder_deferred (n title : Nat) (pr : Priority) :
    ((s.createOrder n title pr).patron n).map Patron.deferred = (s.patron n).map Patron.deferred := by
  cases ht : s.title title with
  | none => rw [s.createOrder_of_no_title ht]
  | some t =>
    show (Table.look _ n).map _ = _
    rw [s.createOrder_patrons ht, Table.look_alter_same, Option.map_map]
    rfl

/-- R15: what a release pass may go on with. -/
theorem State.mayRelease_iff (n : Nat) : s.mayRelease n = true ↔
    ∃ p, s.patron n = some p ∧ p.causes.any = false ∧ p.outstanding < p.high ∧ s.hasRoom = true := by
  unfold State.mayRelease
  cases s.patron n <;> simp [and_assoc]

/-- An account change commutes with the act of leaving out the open container field. -/
theorem State.shape_onPatron_congr {s t : State} (h : s.shape = t.shape) (n : Nat) {f : Patron → Patron}
    (hf : ∀ p, (f p).account = f p.account) : (s.onPatron n f).shape = (t.onPatron n f).shape := by
  have hshape : ∀ u : State, (u.onPatron n f).shape = { u.shape with patrons := u.shape.patrons.alter n f } := by
    intro u
    simp only [State.shape, State.onPatron_patrons, Table.alter, Table.mapRecords, List.map_map]
    congr 1
    refine List.map_congr_left (fun e _ => ?_)
    by_cases he : e.1 = n <;> simp [he, hf]
  rw [hshape, hshape, h]

@[simp] theorem State.shape_placeItem (n : Nat) (o : Order) (k : Nat) : (s.placeItem n o k).shape = s.shape := by
  simp only [State.placeItem]
  split <;> simp

@[simp] theorem State.shape_afterPlacing (k : Nat) (c : Bool) : (s.afterPlacing k c).shape = s.shape := by
  unfold State.afterPlacing State.expireAtOnce
  (repeat' split) <;> simp

@[simp] theorem State.shape_packInto (n : Nat) (o : Order) (k : Nat) (c : Bool) :
    (s.packInto n o k c).state.shape = s.shape := by
  simp [State.packInto]

@[simp] theorem State.shape_sendOn (l : Loan) (c : Nat) : (s.sendOn l c).shape = s.shape := by
  unfold State.sendOn
  (repeat' split) <;> simp

theorem State.dispatchOrder_of_none {n : Nat} (h : s.order n = none) : s.dispatchOrder n = s := by
  unfold State.dispatchOrder
  rw [h]

/-- R140: the item's own record, of a cartridge or of a copy map, is none of the shape. -/
theorem State.shape_dispatchOrder {n : Nat} {o : Order} (h : s.order n = some o) :
    (s.dispatchOrder n).shape = (s.lend n o).shape := by
  unfold State.dispatchOrder
  rw [h]
  dsimp only
  split
  · exact State.shape_onCart _ _ _
  · exact State.shape_onTitle _ _ _

/-- R151: a success is a return of a loan of the table. -/
theorem State.loan_of_loanCase {m n : Nat} {l : Loan} (h : s.loanCase m = .success n l) : s.loan n = some l := by
  unfold State.loanCase at h
  split at h
  · next hl => cases h; exact hl
  · cases h

theorem State.loan_of_classify {i : GivenItem} {n : Nat} {l : Loan} (h : s.classify i = .success n l) :
    s.loan n = some l := by
  unfold State.classify at h
  split at h
  · cases h
  · split at h
    · cases h
    · split at h
      · exact s.loan_of_loanCase h
      · cases h
  · split at h
    · split at h
      · cases h
      · cases h
      · cases h
      · exact s.loan_of_loanCase h
    · cases h

/-! ### A law of the shape is kept by every step -/

namespace ShapeLaw

variable {P : State → Prop} (hP : ShapeLaw P) {s : State}
include hP

theorem createOrder (hs : P s) {n title : Nat} {pr : Priority} {p : Patron} (hp : s.patron n = some p)
    (hl : p.causes.limit = false) (hr : s.hasRoom = true) : P (s.createOrder n title pr) := by
  cases ht : s.title title with
  | none => rwa [s.createOrder_of_no_title ht]
  | some t => exact hP.congr (s.shape_createOrder ht n pr) (hP.entered title t.format pr hs hp hl hr)

theorem releaseLoop {n : Nat} (l : List Nat) {r : State × Nat} (hs : P r.1)
    (hl : ∀ p, r.1.patron n = some p → p.deferred = l) : P (State.releaseLoop n l r).1 := by
  induction l generalizing r with
  | nil => exact hs
  | cons title rest ih =>
    unfold State.releaseLoop
    split
    · next hmay =>
      obtain ⟨p, hp, hc, -, hroom⟩ := (r.1.mayRelease_iff n).1 hmay
      have hs1 : P (r.1.onPatron n (fun p => { p with deferred := rest })) := by
        refine hP.undeferred n (fun _ => rest) hs (fun q hq => ?_)
        rw [hl q hq]
        exact List.sublist_cons_self title rest
      have hp1 : (r.1.onPatron n (fun p => { p with deferred := rest })).patron n =
          some { p with deferred := rest } := by
        simp [hp]
      dsimp only
      split
      · refine ih hs1 (fun q hq => ?_)
        cases hp1.symm.trans hq
        rfl
      · refine ih (hP.createOrder hs1 hp1 ?_ hroom) (fun q hq => ?_)
        · simp only [Causes.any, Bool.or_eq_false_iff] at hc
          exact hc.1.1
        · have := State.createOrder_deferred (r.1.onPatron n (fun p => { p with deferred := rest })) n title .standard
          rw [hq, hp1] at this
          simpa using this
    · exact hs

theorem releasePass (hs : P s) (n : Nat) : P (s.releasePass n).1 := by
  unfold State.releasePass
  split
  · next p hp =>
    refine hP.releaseLoop _ hs (fun q hq => ?_)
    cases hp.symm.trans hq
    rfl
  · exact hs

theorem settle (hs : P s) (b : Table Order) : P (s.settle b) :=
  hP.congr (s.shape_settle b) hs

/-! #### The requests that change the shape -/

theorem patronOpen (hs : P s) (n region high restore : Nat) : P (patronOpen n region high restore s).state := by
  simp only [Machine.patronOpen]
  split
  · exact hs
  split
  · exact hs
  split
  · exact hs
  · next hnew hfull =>
    refine hP.opened region hs (by simpa using hnew) (by omega) ?_ ?_ <;>
      simp only [openLimits, clampRestore] <;> (repeat' split) <;> simp only <;> omega

theorem patronSet (hs : P s) (n region high restore sus : Nat) :
    P (Machine.patronSet n region high restore sus s).state := by
  simp only [Machine.patronSet]
  split
  · exact hs
  split
  · exact hs
  · next p hp =>
    split
    · exact hs
    · next hle =>
      refine hP.settle (hP.releasePass (hP.setFields region _ hs hp (by omega) ?_ ?_) n) _ <;>
        simp only [setLimits, clampRestore] <;> (repeat' split) <;> omega

theorem patronClose (hs : P s) (n : Nat) : P (Machine.patronClose n s).state := by
  simp only [Machine.patronClose]
  split
  · exact hs
  split
  · exact hs
  · next p hp =>
    split
    · exact hs
    · exact hP.closed hs hp (by omega)

theorem orderPlace (hs : P s) (n title pr : Nat) : P (Machine.orderPlace n title pr s).state := by
  simp only [Machine.orderPlace]
  split
  · exact hs
  split
  · exact hs
  next p hp =>
  split
  · exact hs
  split
  · exact hs
  next hdup =>
  split
  · exact hs
  next hroom =>
  split
  · split
    · exact hs
    · next hlen =>
      refine hP.settle (hP.releasePass (hP.deferred hs hp ?_ (by omega)) n) _
      intro hmem
      simp [hmem] at hdup
  · next hc =>
    refine hP.settle (hP.createOrder hs hp ?_ (by simpa using hroom)) _
    simp only [Causes.any, Bool.or_eq_true, not_or, Bool.not_eq_true] at hc
    exact hc.1.1.1

theorem orderCancel (hs : P s) (n : Nat) : P (Machine.orderCancel n s).state := by
  simp only [Machine.orderCancel]
  split
  · exact hs
  split
  · exact hs
  next o ho =>
  split
  · exact hs
  · refine hP.settle (hP.releasePass (hP.congr ?_ (hP.cancelled hs ho)) _) _
    simp only [State.shape_reexamine]
    exact State.shape_onPatron_congr (by simp) _ (fun _ => rfl)

theorem titleLoad (hs : P s) (n f size sel copies : Nat) : P (Machine.titleLoad n f size sel copies s).state := by
  simp only [Machine.titleLoad]
  split
  · exact hs
  split
  · exact hs
  next hnew =>
  split
  · exact hs
  next hfull =>
  split <;> exact hP.titleLoaded _ hs (by simpa using hnew) (by omega)

theorem stripDeferred (hs : P s) (title n : Nat) : P (State.stripDeferred title s n) := by
  have h := hP.undeferred n (List.filter (· != title)) hs (fun p _ => List.filter_sublist)
  simp only [State.stripDeferred]
  split
  · exact hP.congr (State.shape_raise _ _ _ _ _) h
  · exact h

theorem titleDrop (hs : P s) (n : Nat) : P (Machine.titleDrop n s).state := by
  simp only [Machine.titleDrop]
  split
  · exact hs
  split
  · exact hs
  split
  · exact hs
  · exact List.foldlRecOn _ _ (hP.titleDropped n hs) (fun s hs p _ => hP.stripDeferred hs n p)

theorem cartridgeAdd (hs : P s) (n : Nat) : P (Machine.cartridgeAdd n s).state := by
  simp only [Machine.cartridgeAdd]
  split
  · exact hs
  split
  · exact hs
  split
  · exact hs
  · next hfull =>
    exact hP.congr (State.shape_joinPool _ _) (hP.cartAdded _ hs (by omega))

theorem cartridgeDrop (hs : P s) (n : Nat) : P (Machine.cartridgeDrop n s).state := by
  simp only [Machine.cartridgeDrop]
  split
  · exact hs
  split
  · exact hs
  split
  · exact hs
  · refine hP.congr ?_ (hP.cartDropped n hs)
    rfl

theorem packItem (hs : P s) (item identity copy : Nat) : P (Machine.packItem item identity copy s).state := by
  simp only [Machine.packItem]
  split
  · exact hs
  split
  · exact hs
  split
  · unfold State.packOrder
    split
    · exact hP.congr (by simp) hs
    · split
      · exact hs
      · next o _ _ _ _ _ =>
        exact hP.congr (State.shape_packInto _ _ _ _ _)
          (hP.newContainer o.patron (decide (o.format = .braille)) hs (by omega))
  · exact hs

theorem bagContainer (hs : P s) {n region : Nat} {r : State × Nat} (hr : s.bagContainer n region = some r) : P r.1 := by
  simp only [State.bagContainer] at hr
  split at hr
  · cases hr
    exact hP.congr (by simp) hs
  · split at hr
    · next hlen =>
      cases hr
      exact hP.congr (by simp) (hP.newBag region hs (by omega))
    · cases hr

theorem containerSealed (hs : P s) (n : Nat) : P (Machine.containerSealed n s).state := by
  simp only [Machine.containerSealed]
  split
  · exact hs
  split
  · exact hs
  split
  · exact hs
  split
  · next hr => exact hP.bagContainer hs hr
  · exact hP.congr (by simp) hs

theorem drainOne (hs : P s) (n : Nat) : P (s.drainOne n) := by
  simp only [State.drainOne]
  split
  · exact hs
  split
  · exact hs
  · next hr => exact hP.congr (State.shape_withUnbagged _ _) (hP.bagContainer hs hr)

theorem dispatchOrder (hs : P s) (n : Nat) : P (s.dispatchOrder n) := by
  cases ho : s.order n with
  | none => rwa [s.dispatchOrder_of_none ho]
  | some o => exact hP.congr (s.shape_dispatchOrder ho) (hP.lent hs ho)

theorem bagHanded (hs : P s) (n : Nat) : P (Machine.bagHanded n s).state := by
  simp only [Machine.bagHanded]
  split
  · exact hs
  split
  · exact hs
  split
  · exact hs
  next g _ _ =>
  have hitems := List.foldlRecOn (g.containers.map s.itemsOf).flatten State.dispatchOrder hs
    (fun s hs n _ => hP.dispatchOrder hs n)
  exact List.foldlRecOn _ State.drainOne (hP.congr (State.shape_raise _ _ _ _ _) (hP.removeBag n g.containers hitems))
    (fun s hs n _ => hP.drainOne hs n)

theorem returnItem (hs : P s) (item identity copy cond : Nat) :
    P (Machine.returnItem item identity copy cond s).state := by
  simp only [Machine.returnItem]
  split
  · exact hs
  split
  · exact hs
  split
  · next n l hcase =>
    simp only [returnSuccess]
    refine hP.settle (hP.releasePass (hP.congr (State.shape_sendOn _ _ _) (hP.loanClosed hs ?_)) _) _
    exact s.loan_of_classify hcase
  · exact hP.congr (by simp) hs

theorem clockSet (hs : P s) (day second : Nat) : P (Machine.clockSet day second s).state := by
  simp only [Machine.clockSet]
  split
  · exact hs
  · have hset : P (State.enterMailDay { s with clock := { s.clock with day := day, second := second } }) :=
      hP.congr (by simp) hs
    simp only [answer_state, State.setClock]
    refine hP.settle (hP.congr (State.shape_dayRecompute _ _) ?_) _
    split
    · exact hP.congr (State.shape_clearLaneCounts _) (hP.swept hset)
    · exact hset

/-! #### The time base, and every command -/

theorem rollover (hs : P s) : P s.rollover := by
  simp only [State.rollover]
  have hswept := hP.swept (hP.congr (s.shape_withClock
    { s.clock with second := 0, day := min maxDay (s.clock.day + 1), mailDay := .day }) hs)
  exact hP.congr (by simp) hswept

theorem advanceSecond (hs : P s) : P s.advanceSecond := by
  have hidle : P s.idleSecond := hP.congr s.shape_idleSecond hs
  simp only [State.advanceSecond]
  refine hP.settle ?_ _
  split
  · exact hP.rollover (hP.congr (State.shape_withClock _ _) hidle)
  · exact hP.congr (State.shape_enterMailDay _) (hP.congr (State.shape_withClock _ _) hidle)

theorem takeRequest (hs : P s) {act : State → Result} (hact : ∀ s, P s → P (act s).state) (code : Nat)
    (own : Option Code) (h : Header) : P (takeRequest code own h act s) := by
  have hc : P (s.clocked h) := hP.congr (s.shape_clocked h) hs
  simp only [Machine.takeRequest]
  split
  · exact hc
  split
  · exact hP.congr (State.shape_onUnit _ _ _) hc
  split
  · exact hP.congr (State.shape_onUnit _ _ _) hc
  · exact hP.congr (State.shape_onUnit _ _ _) (hact _ hc)

theorem request (hs : P s) {act : State → Result} (hact : ∀ s, P s → P (act s).state) (k : Kind) (h : Header) :
    P (request k h act s) :=
  hP.takeRequest hs hact _ _ _

/-- A request that leaves the shape keeps the law. -/
theorem quiet (hs : P s) {act : State → Result} (hact : ∀ s, (act s).state.shape = s.shape) (k : Kind) (h : Header) :
    P (Machine.request k h act s) :=
  hP.request hs (fun s hs => hP.congr (hact s) hs) k h

/-- Every command keeps a law of the shape. -/
theorem exec {c : Instr} {t : State} (hs : P s) (ht : exec c s = .next t) : P t := by
  cases c with
  | patronOpen h _ _ _ _ => cases ht; exact hP.request hs (fun s hs => hP.patronOpen hs _ _ _ _) _ h
  | patronSet h _ _ _ _ _ => cases ht; exact hP.request hs (fun s hs => hP.patronSet hs _ _ _ _ _) _ h
  | patronClose h _ => cases ht; exact hP.request hs (fun s hs => hP.patronClose hs _) _ h
  | orderPlace h _ _ _ => cases ht; exact hP.request hs (fun s hs => hP.orderPlace hs _ _ _) _ h
  | orderCancel h _ => cases ht; exact hP.request hs (fun s hs => hP.orderCancel hs _) _ h
  | titleLoad h _ _ _ _ _ => cases ht; exact hP.request hs (fun s hs => hP.titleLoad hs _ _ _ _ _) _ h
  | titleDrop h _ => cases ht; exact hP.request hs (fun s hs => hP.titleDrop hs _) _ h
  | cartridgeAdd h _ => cases ht; exact hP.request hs (fun s hs => hP.cartridgeAdd hs _) _ h
  | cartridgeDrop h _ => cases ht; exact hP.request hs (fun s hs => hP.cartridgeDrop hs _) _ h
  | clockSet h _ _ => cases ht; exact hP.request hs (fun s hs => hP.clockSet hs _ _) _ h
  | packItem h _ _ _ => cases ht; exact hP.request hs (fun s hs => hP.packItem hs _ _ _) _ h
  | containerSealed h _ => cases ht; exact hP.request hs (fun s hs => hP.containerSealed hs _) _ h
  | bagHanded h _ => cases ht; exact hP.request hs (fun s hs => hP.bagHanded hs _) _ h
  | returnItem h _ _ _ _ => cases ht; exact hP.request hs (fun s hs => hP.returnItem hs _ _ _ _) _ h
  | patronQuery h _ => cases ht; exact hP.quiet hs (fun s => by simp) _ h
  | orderRetry h _ => cases ht; exact hP.quiet hs (fun s => by simp) _ h
  | orderQuery h _ _ _ _ => cases ht; exact hP.quiet hs (fun s => by simp) _ h
  | loanQuery h _ _ _ _ => cases ht; exact hP.quiet hs (fun s => by simp) _ h
  | titleSet h _ _ _ _ => cases ht; exact hP.quiet hs (fun s => by simp) _ h
  | titleQuery h _ _ => cases ht; exact hP.quiet hs (fun s => by simp) _ h
  | circSet h _ _ _ _ => cases ht; exact hP.quiet hs (fun s => by simp) _ h
  | nextInsert h => cases ht; exact hP.quiet hs (fun s => by simp) _ h
  | bayInsert h _ _ => cases ht; exact hP.quiet hs (fun s => by simp) _ h
  | bayRemove h _ => cases ht; exact hP.quiet hs (fun s => by simp) _ h
  | bayFault h _ _ => cases ht; exact hP.quiet hs (fun s => by simp) _ h
  | bayClear h _ => cases ht; exact hP.quiet hs (fun s => by simp) _ h
  | verifyDone h _ _ => cases ht; exact hP.quiet hs (fun s => by simp) _ h
  | rackStart h => cases ht; exact hP.quiet hs (fun s => by simp) _ h
  | rackStop h => cases ht; exact hP.quiet hs (fun s => by simp) _ h
  | rackSet h _ _ _ _ _ => cases ht; exact hP.quiet hs (fun s => by simp) _ h
  | sliceNext h => cases ht; exact hP.quiet hs (fun s => by simp) _ h
  | sliceDone h _ _ => cases ht; exact hP.quiet hs (fun s => by simp) _ h
  | containerClose h _ => cases ht; exact hP.quiet hs (fun s => by simp) _ h
  | bagClose h _ => cases ht; exact hP.quiet hs (fun s => by simp) _ h
  | mailSet h _ _ _ _ => cases ht; exact hP.quiet hs (fun s => by simp) _ h
  | laneClear h => cases ht; exact hP.quiet hs (fun s => by simp) _ h
  | laneMask h _ _ _ => cases ht; exact hP.quiet hs (fun s => by simp) _ h
  | fetchNotices h _ => cases ht; exact hP.quiet hs (fun s => by simp) _ h
  | cartridgeQuery h _ => cases ht; exact hP.quiet hs (fun s => by simp) _ h
  | bayQuery h _ => cases ht; exact hP.quiet hs (fun s => by simp) _ h
  | projectionQuery h _ => cases ht; exact hP.quiet hs (fun s => by simp) _ h
  | containerQuery h _ => cases ht; exact hP.quiet hs (fun s => by simp) _ h
  | bagQuery h _ => cases ht; exact hP.quiet hs (fun s => by simp) _ h
  | noticeMask h _ _ => cases ht; exact hP.quiet hs (fun s => by simp) _ h
  | status h => cases ht; exact hP.quiet hs (fun s => by simp) _ h
  | rackQuery h => cases ht; exact hP.quiet hs (fun s => by simp) _ h
  | laneQuery h => cases ht; exact hP.quiet hs (fun s => by simp) _ h
  | unknownKind h code => cases ht; exact hP.takeRequest hs (fun s hs => hs) _ _ h
  | frameDiscard p n => cases ht; exact hP.congr (State.shape_onUnit _ _ _) hs
  | readPeriod p n => cases ht; exact hP.congr (State.shape_onUnit _ _ _) hs
  | linkReset p n => cases ht; exact hP.congr (State.shape_onUnit _ _ _) hs
  | responsePlaced p => cases ht; exact hP.congr (shape_placeResponse _ _) hs
  | resetAssert => cases ht; exact hP.reset _
  | resetRelease =>
    cases ht
    split
    · refine hP.congr ?_ hs
      rfl
    · exact hs
  | secondAdvance =>
    cases ht
    split
    · exact hs
    · exact hP.advanceSecond hs
  | slotExpiry => cases ht; exact hP.congr s.shape_slotExpiry hs
  | idleExpiry n => cases ht; exact hP.congr (s.shape_idleReached n) hs

/-- Every step keeps a law of the shape. -/
theorem step {t : State} (hs : P s) (h : step s = .next t) : P t := by
  unfold Machine.step at h
  split at h
  · next rest _ =>
    have hrest : P { s with pending := rest } := by
      refine hP.congr ?_ hs
      rfl
    exact hP.exec hrest h
  · cases h
    exact hP.congr (State.shape_idleStep _) hs

end ShapeLaw
end Sys2Proof.Machine

/-! ### Tables as collections of records -/

namespace Sys2Proof.Machine

section Table
variable {α β : Type} (t : Table α)

theorem Table.wf_iff_keys : t.wf = true ↔ (t.map Prod.fst).Pairwise (· < ·) := by
  rw [Table.wf_iff, List.pairwise_map]

theorem Table.wf_of_keys {t : Table α} {u : Table β} (h : t.map Prod.fst = u.map Prod.fst) (hu : u.wf = true) :
    t.wf = true := by
  rw [Table.wf_iff_keys] at *
  rwa [h]

@[simp] theorem Table.wf_mapRecords_iff (f : Nat → α → α) : (t.mapRecords f).wf = true ↔ t.wf = true :=
  ⟨Table.wf_of_keys (t.keys_mapRecords f).symm, t.wf_mapRecords f⟩

theorem Table.has_iff_mem_keys (n : Nat) : t.has n = true ↔ n ∈ t.map Prod.fst := by
  induction t with
  | nil => simp [Table.has, Table.look]
  | cons a rest ih =>
    obtain ⟨k, v⟩ := a
    by_cases hk : k = n
    · simp [Table.has, Table.look, hk]
    · simpa [Table.has, Table.look, hk, Ne.symm hk] using ih

theorem Table.has_false_iff (n : Nat) : t.has n = false ↔ t.look n = none := by
  simp [Table.has]

/-- A record created under a free number joins those that stand. -/
theorem Table.put_perm {n : Nat} (v : α) (h : t.look n = none) : (t.put n v).Perm ((n, v) :: t) := by
  induction t with
  | nil => exact .refl _
  | cons a rest ih =>
    obtain ⟨k, w⟩ := a
    by_cases hk : k = n
    · simp [Table.look, hk] at h
    · simp only [Table.look, hk, if_false] at h
      unfold Table.put
      split
      · exact .refl _
      · rw [if_neg (Ne.symm hk)]
        exact ((ih h).cons _).trans (.swap ..)

/-- A record that leaves its table is the only one to go. -/
theorem Table.drop_perm {n : Nat} {v : α} (hw : t.wf = true) (h : t.look n = some v) :
    t.Perm ((n, v) :: t.drop n) := by
  induction t with
  | nil => simp [Table.look] at h
  | cons a rest ih =>
    obtain ⟨k, w⟩ := a
    obtain ⟨hlt, hr⟩ := List.pairwise_cons.1 ((Table.wf_iff _).1 hw)
    by_cases hk : k = n
    · subst hk
      have hrest : Table.drop rest k = rest :=
        List.filter_eq_self.2 (fun e he => by have := hlt e he; simp only at this; simp; omega)
      simp only [Table.look, if_true, Option.some.injEq] at h
      subst h
      have hdrop : Table.drop ((k, w) :: rest) k = rest := by
        simpa [Table.drop] using hrest
      rw [hdrop]
    · simp only [Table.look, hk, if_false] at h
      have hdrop : Table.drop ((k, w) :: rest) n = (k, w) :: Table.drop rest n := by
        simp [Table.drop, hk]
      rw [hdrop]
      exact ((ih ((Table.wf_iff _).2 hr) h).cons _).trans (.swap ..)

theorem Table.wf_foldl_drop (l : List Nat) (hw : t.wf = true) : (l.foldl Table.drop t).wf = true := by
  induction l generalizing t with
  | nil => exact hw
  | cons n rest ih => exact ih (t.drop n) (t.wf_drop n hw)

theorem Table.length_foldl_drop_le (l : List Nat) : (l.foldl Table.drop t).length ≤ t.length := by
  induction l generalizing t with
  | nil => exact le_rfl
  | cons n rest ih => exact (ih (t.drop n)).trans (t.length_drop_le n)

end Table

/-! ### The third law and the canonical form (1.1, R8) -/

@[simp] theorem State.sweep_keys (s : State) : s.sweep.loans.loans.map Prod.fst = s.loans.loans.map Prod.fst := by
  simp only [State.sweep]
  rw [foldl_keeps State.loans _ (fun s a => by simp)]
  simp

theorem State.sweep_loans (s : State) : s.sweep.loans = { s.loans with
    loans := s.loans.loans.mapRecords (fun _ l =>
      if l.falls s.clock.day s.loans.grace then { l with state := .overdue } else l) } := by
  simp only [State.sweep]
  rw [foldl_keeps State.loans _ (fun s a => by simp)]

theorem State.sweep_patrons (s : State) :
    s.sweep.patrons = s.patrons.mapRecords (fun n p => p.sweep (s.newlyOverdue n)) := by
  simp only [State.sweep]
  rw [foldl_keeps State.patrons _ (fun s a => by simp)]

/-- The laws of the tables, read off the shape. -/
structure Shape.Tables (h : Shape) : Prop where
  patrons : (h.patrons.map Prod.fst).Pairwise (· < ·)
  owners : (h.owners.map Prod.fst).Pairwise (· < ·)
  titles : h.titles.Pairwise (· < ·)
  carts : h.carts.Pairwise (· < ·)
  containers : h.containers.Pairwise (· < ·)
  bags : h.bags.Pairwise (· < ·)
  borrowers : (h.borrowers.map Prod.fst).Pairwise (· < ·)
  bays : h.bays = bayCount

theorem State.tableLaw_iff (s : State) : s.TableLaw ↔ s.shape.Tables := by
  simp only [State.TableLaw, Table.wf_iff_keys]
  constructor
  · rintro ⟨hp, ho, ht, hc, hk, hg, hl, hb⟩
    exact ⟨by simpa [State.shape] using hp, by simpa [State.shape, Function.comp_def] using ho, ht, hc, hk, hg,
      by simpa [State.shape, Function.comp_def] using hl, hb⟩
  · rintro ⟨hp, ho, ht, hc, hk, hg, hl, hb⟩
    exact ⟨by simpa [State.shape] using hp, by simpa [State.shape, Function.comp_def] using ho, ht, hc, hk, hg,
      by simpa [State.shape, Function.comp_def] using hl, hb⟩

theorem wf_patrons_alter {s : State} (n : Nat) (f : Patron → Patron) (h : s.patrons.wf = true) :
    (s.onPatron n f).patrons.wf = true :=
  Table.wf_alter _ _ _ h

/-- Every act that changes the shape keeps every table in its canonical form. -/
theorem tableLaw_shapeLaw : ShapeLaw State.TableLaw where
  congr h hs := (State.tableLaw_iff _).2 (h ▸ (State.tableLaw_iff _).1 hs)
  opened region hs _ _ _ _ := ⟨Table.wf_put _ _ _ hs.1, hs.2⟩
  setFields region b hs _ _ _ _ := ⟨wf_patrons_alter _ _ hs.1, hs.2⟩
  closed hs _ _ := ⟨Table.wf_drop _ _ hs.1, hs.2⟩
  deferred hs _ _ _ := ⟨wf_patrons_alter _ _ hs.1, hs.2⟩
  undeferred _ _ hs _ := ⟨wf_patrons_alter _ _ hs.1, hs.2⟩
  entered _ _ _ hs _ _ _ := by
    obtain ⟨hp, ho, hrest⟩ := hs
    exact ⟨wf_patrons_alter _ _ hp, Table.wf_put _ _ _ ho, hrest⟩
  cancelled hs _ := by
    obtain ⟨hp, ho, hrest⟩ := hs
    exact ⟨wf_patrons_alter _ _ hp, Table.wf_drop _ _ ho, hrest⟩
  loanClosed hs _ := by
    obtain ⟨hp, ho, ht, hc, hk, hg, hl, hb⟩ := hs
    exact ⟨wf_patrons_alter _ _ hp, ho, ht, hc, hk, hg, Table.wf_drop _ _ hl, hb⟩
  lent hs _ := by
    obtain ⟨hp, ho, ht, hc, hk, hg, hl, hb⟩ := hs
    exact ⟨hp, Table.wf_drop _ _ ho, ht, hc, hk, hg, Table.wf_put _ _ _ hl, hb⟩
  swept {s} hs := by
    obtain ⟨hp, ho, ht, hc, hk, hg, hl, hb⟩ := hs
    refine ⟨?_, ?_, ?_, ?_, ?_, ?_, ?_, ?_⟩
    · simpa [s.sweep_patrons] using hp
    · simpa using ho
    · simpa using ht
    · simpa using hc
    · simpa using hk
    · simpa using hg
    · simpa [s.sweep_loans] using hl
    · simpa using hb
  titleLoaded t hs _ _ := by
    obtain ⟨hp, ho, ht, hrest⟩ := hs
    exact ⟨hp, ho, Table.wf_put _ _ _ ht, hrest⟩
  titleDropped n hs := by
    obtain ⟨hp, ho, ht, hrest⟩ := hs
    exact ⟨hp, ho, Table.wf_drop _ _ ht, hrest⟩
  cartAdded c hs _ := by
    obtain ⟨hp, ho, ht, hc, hrest⟩ := hs
    exact ⟨hp, ho, ht, Table.wf_put _ _ _ hc, hrest⟩
  cartDropped n hs := by
    obtain ⟨hp, ho, ht, hc, hrest⟩ := hs
    exact ⟨hp, ho, ht, Table.wf_drop _ _ hc, hrest⟩
  newContainer n b hs _ := by
    obtain ⟨hp, ho, ht, hc, hk, hrest⟩ := hs
    cases b
    · exact ⟨wf_patrons_alter _ _ hp, ho, ht, hc, Table.wf_put _ _ _ hk, hrest⟩
    · exact ⟨hp, ho, ht, hc, Table.wf_put _ _ _ hk, hrest⟩
  newBag r hs _ := by
    obtain ⟨hp, ho, ht, hc, hk, hg, hrest⟩ := hs
    exact ⟨hp, ho, ht, hc, hk, Table.wf_put _ _ _ hg, hrest⟩
  removeBag n l hs := by
    obtain ⟨hp, ho, ht, hc, hk, hg, hrest⟩ := hs
    exact ⟨hp, ho, ht, hc, Table.wf_foldl_drop _ _ hk, Table.wf_drop _ _ hg, hrest⟩
  reset q := by
    show State.reset.TableLaw
    decide

/-- R8, R1, R25, R42, R124 read off the shape. -/
structure Shape.Capacities (h : Shape) : Prop where
  circulation : h.owners.length + h.borrowers.length ≤ maxCirculation
  owners : h.owners.length ≤ maxOrders
  patrons : h.patrons.length ≤ maxPatrons
  titles : h.titles.length ≤ maxTitles
  carts : h.carts.length ≤ maxCartridges
  containers : h.containers.length ≤ maxContainers
  bags : h.bags.length ≤ maxBags

theorem State.capacityLaw_iff (s : State) : s.CapacityLaw ↔ s.shape.Capacities := by
  constructor
  · rintro ⟨hc, ho, hp, ht, hk, hm, hg⟩
    refine ⟨?_, ?_, ?_, ?_, ?_, ?_, ?_⟩ <;> simpa [State.shape]
  · rintro ⟨hc, ho, hp, ht, hk, hm, hg⟩
    simp only [State.shape, List.length_map, Table.length_mapRecords] at hc ho hp ht hk hm hg
    exact ⟨hc, ho, hp, ht, hk, hm, hg⟩

theorem State.hasRoom_iff (s : State) : s.hasRoom = true ↔
    s.book.orders.length + s.loans.loans.length < maxCirculation ∧ s.book.orders.length < maxOrders := by
  simp [State.hasRoom]

/-- Every act that changes the shape keeps every table within its capacity. -/
theorem capacityLaw_shapeLaw : ShapeLaw State.CapacityLaw where
  congr h hs := (State.capacityLaw_iff _).2 (h ▸ (State.capacityLaw_iff _).1 hs)
  opened {s n hi lo} region hs _ hlen _ _ := by
    obtain ⟨hc, ho, -, hrest⟩ := hs
    have := s.patrons.length_put_le n (.created region hi lo)
    exact ⟨hc, ho, by simp only; omega, hrest⟩
  setFields region b hs _ _ _ _ := by
    simpa [State.CapacityLaw] using hs
  closed {s n p} hs _ _ := by
    obtain ⟨hc, ho, hp, hrest⟩ := hs
    exact ⟨hc, ho, (s.patrons.length_drop_le n).trans hp, hrest⟩
  deferred hs _ _ _ := by
    simpa [State.CapacityLaw] using hs
  undeferred _ _ hs _ := by
    simpa [State.CapacityLaw] using hs
  entered {s n p} title f pr hs _ _ hroom := by
    obtain ⟨-, -, hp, hrest⟩ := hs
    obtain ⟨hc, ho⟩ := s.hasRoom_iff.1 hroom
    have := s.book.orders.length_put_le (assignNumber maxNumber s.book.orders s.book.counter) (s.newOrder n title f pr)
    exact ⟨by simp only [State.enterOrder]; omega, by simp only [State.enterOrder]; omega,
      by simpa [State.enterOrder] using hp, hrest⟩
  cancelled {s n o} hs _ := by
    obtain ⟨hc, ho, hp, hrest⟩ := hs
    have := s.book.orders.length_drop_le n
    exact ⟨by simp only [State.onPatron_book, State.dropOrder_book, State.onPatron_loans, State.dropOrder_loans]; omega,
      this.trans ho, by simpa using hp, hrest⟩
  loanClosed {s n l} hs _ := by
    obtain ⟨hc, ho, hp, hrest⟩ := hs
    have := s.loans.loans.length_drop_le n
    exact ⟨by simp only [State.closeLoan]; omega, ho, by simpa [State.closeLoan] using hp, hrest⟩
  lent {s n o} hs hord := by
    obtain ⟨hc, ho, hrest⟩ := hs
    have hdrop := Table.length_drop_lt s.book.orders hord
    have hput := s.loans.loans.length_put_le (assignNumber maxNumber s.loans.loans s.loans.counter) (s.newLoan o)
    exact ⟨by simp only [State.lend, State.dropOrder_book]; omega, by simp only [State.lend, State.dropOrder_book]; omega,
      hrest⟩
  swept {s} hs := by
    simpa [State.CapacityLaw, s.sweep_loans, s.sweep_patrons] using hs
  titleLoaded {s n} t hs _ hlen := by
    obtain ⟨hc, ho, hp, -, hrest⟩ := hs
    have := s.titles.length_put_le n t
    exact ⟨hc, ho, hp, by simp only; omega, hrest⟩
  titleDropped {s} n hs := by
    obtain ⟨hc, ho, hp, ht, hrest⟩ := hs
    exact ⟨hc, ho, hp, (s.titles.length_drop_le n).trans ht, hrest⟩
  cartAdded {s n} c hs hlen := by
    obtain ⟨hc, ho, hp, ht, -, hrest⟩ := hs
    have := s.carts.table.length_put_le n c
    exact ⟨hc, ho, hp, ht, by simp only; omega, hrest⟩
  cartDropped {s} n hs := by
    obtain ⟨hc, ho, hp, ht, hk, hrest⟩ := hs
    exact ⟨hc, ho, hp, ht, (s.carts.table.length_drop_le n).trans hk, hrest⟩
  newContainer {s} n b hs hlen := by
    obtain ⟨hc, ho, hp, ht, hk, -, hg⟩ := hs
    have := s.packing.containers.length_put_le
      (assignNumber maxNumber s.packing.containers s.packing.containerCounter) (s.freshContainer n b)
    cases b
    · exact ⟨hc, ho, by simpa [State.newContainer] using hp, ht, hk,
        by simp only [State.newContainer]; exact this.trans hlen, hg⟩
    · exact ⟨hc, ho, hp, ht, hk, this.trans hlen, hg⟩
  newBag {s} r hs hlen := by
    obtain ⟨hc, ho, hp, ht, hk, hm, -⟩ := hs
    exact ⟨hc, ho, hp, ht, hk, hm, (s.packing.bags.length_put_le _ _).trans hlen⟩
  removeBag {s} n l hs := by
    obtain ⟨hc, ho, hp, ht, hk, hm, hg⟩ := hs
    exact ⟨hc, ho, hp, ht, hk, (s.packing.containers.length_foldl_drop_le l).trans hm,
      (s.packing.bags.length_drop_le n).trans hg⟩
  reset q := by
    show State.reset.CapacityLaw
    decide

/-- Settles O7: the canonical form and the capacities are laws of the shape. -/
theorem stepsKeepTheTablesAndCapacities : Obligations.StepsKeepTheTablesAndCapacities :=
  fun _ _ ht => ⟨fun hs => tableLaw_shapeLaw.step hs ht, fun hs => capacityLaw_shapeLaw.step hs ht⟩

end Sys2Proof.Machine

/-! ### The second law of the device (R2 to R5) -/

namespace Sys2Proof.Machine

/-- A patron record that is lawful but for LIMIT, which is yet to be re-evaluated. -/
structure Patron.LawfulBut (p : Patron) : Prop where
  limits : p.restore < p.high ∧ p.high ≤ 15 ∧ p.outstanding ≤ p.high
  overdue : p.overdue ≤ maxOverdue ∧ p.causes.overdue = decide (0 < p.overdue)
  deferred : p.deferred.length ≤ maxDeferred ∧ p.deferred.Nodup

theorem Patron.Lawful.but {p : Patron} (h : p.Lawful) : p.LawfulBut := by
  obtain ⟨hr, hh, ho, -, -, hov, hc, hd, hn⟩ := h
  exact ⟨⟨hr, hh, ho⟩, ⟨hov, hc⟩, ⟨hd, hn⟩⟩

/-- R3: LIMIT re-evaluated is LIMIT as the second law has it. -/
theorem Patron.LawfulBut.relimit {p : Patron} (h : p.LawfulBut) : p.relimit.Lawful := by
  obtain ⟨⟨hr, hh, ho⟩, ⟨hov, hc⟩, ⟨hd, hn⟩⟩ := h
  refine ⟨hr, hh, ho, fun he => ?_, fun he => ?_, hov, hc, hd, hn⟩ <;>
    simp only [Patron.relimit, limitCause] at he ⊢
  · rw [if_pos he]
  · rw [if_neg (by omega), if_pos he]

/-- R3: a patron at limit high holds LIMIT, so one who does not is below it. -/
theorem Patron.Lawful.below {p : Patron} (h : p.Lawful) (hl : p.causes.limit = false) : p.outstanding < p.high := by
  obtain ⟨-, -, hle, hhigh, -⟩ := h
  refine lt_of_le_of_ne hle (fun he => ?_)
  rw [hhigh he] at hl
  cases hl

theorem Patron.Lawful.gain {p : Patron} (h : p.Lawful) (hl : p.causes.limit = false) : p.gain.Lawful := by
  have hlt := h.below hl
  obtain ⟨⟨hr, hh, -⟩, hov, hd⟩ := h.but
  exact Patron.LawfulBut.relimit ⟨⟨hr, hh, hlt⟩, hov, hd⟩

theorem Patron.Lawful.lose {p : Patron} (h : p.Lawful) : p.lose.Lawful := by
  obtain ⟨⟨hr, hh, ho⟩, hov, hd⟩ := h.but
  exact Patron.LawfulBut.relimit ⟨⟨hr, hh, (Nat.sub_le _ _).trans ho⟩, hov, hd⟩

theorem Patron.Lawful.setFields {p : Patron} (h : p.Lawful) (region : Nat) {hi lo : Nat} (b : Bool)
    (hout : p.outstanding ≤ hi) (hlo : lo < hi) (hhi : hi ≤ 15) : (p.setFields region hi lo b).Lawful := by
  obtain ⟨-, hov, hd⟩ := h.but
  exact Patron.LawfulBut.relimit ⟨⟨hlo, hhi, hout⟩, hov, hd⟩

theorem Patron.Lawful.created (region : Nat) {hi lo : Nat} (hlo : lo < hi) (hhi : hi ≤ 15) :
    (Patron.created region hi lo).Lawful :=
  ⟨hlo, hhi, Nat.zero_le _, fun he => absurd he (by simp only [Patron.created]; omega), fun _ => rfl, Nat.zero_le _,
    rfl, Nat.zero_le _, List.nodup_nil⟩

/-- R4: the sweep raises the overdue count and sets the cause together. -/
theorem Patron.Lawful.sweep {p : Patron} (h : p.Lawful) (n : Nat) : (p.sweep n).Lawful := by
  unfold Patron.sweep
  split
  · exact h
  · next hn =>
    obtain ⟨hr, hh, ho, hhi, hlo, hov, hc, hd, hnd⟩ := h
    refine ⟨hr, hh, ho, hhi, hlo, min_le_left _ _, ?_, hd, hnd⟩
    exact (decide_eq_true (lt_min (by decide) (by omega))).symm

/-- R4, R153: the OVERDUE cause is held as long as the overdue count is above 0. -/
theorem Patron.Lawful.returned {p : Patron} (h : p.Lawful) (st : LoanState) : (p.returned st).Lawful := by
  cases st with
  | out => exact h.lose
  | overdue =>
    obtain ⟨⟨hr, hh, ho⟩, ⟨hov, hc⟩, hd⟩ := h.but
    refine Patron.LawfulBut.relimit ⟨⟨hr, hh, (Nat.sub_le _ _).trans ho⟩, ⟨(Nat.sub_le _ _).trans hov, ?_⟩, hd⟩
    simp only [Patron.overdueReturned]
    split
    · next hz => simp [hz]
    · next hz => rw [hc]; simp; omega

/-- R5: a shorter list of the same entries in their order. -/
theorem Patron.Lawful.undeferred {p : Patron} (h : p.Lawful) {l : List Nat} (hl : l.Sublist p.deferred) :
    Patron.Lawful { p with deferred := l } := by
  obtain ⟨hr, hh, ho, hhi, hlo, hov, hc, hd, hn⟩ := h
  exact ⟨hr, hh, ho, hhi, hlo, hov, hc, hl.length_le.trans hd, hn.sublist hl⟩

theorem Patron.Lawful.defer {p : Patron} (h : p.Lawful) {title : Nat} (hnew : title ∉ p.deferred)
    (hlen : p.deferred.length < maxDeferred) : Patron.Lawful { p with deferred := p.deferred ++ [title] } := by
  obtain ⟨hr, hh, ho, hhi, hlo, hov, hc, hd, hn⟩ := h
  refine ⟨hr, hh, ho, hhi, hlo, hov, hc, ?_, ?_⟩
  · rw [List.length_append]
    exact hlen
  · refine hn.append (List.nodup_singleton _) ?_
    simpa using hnew

variable {s : State}

theorem State.patronLaw_iff (s : State) : s.PatronLaw ↔
    (s.shape.patrons.map Prod.fst).Pairwise (· < ·) ∧ ∀ e ∈ s.shape.patrons, e.2.Lawful := by
  simp only [State.PatronLaw, Table.wf_iff_keys, State.shape, Table.keys_mapRecords]
  refine and_congr_right (fun _ => ⟨fun h e he => ?_, fun h e he => ?_⟩)
  · obtain ⟨p, hp, hep⟩ := Table.mem_mapRecords _ he
    rw [hep]
    exact h _ hp
  · exact h (e.1, e.2.account) (List.mem_map.2 ⟨e, he, rfl⟩)

/-- A change of one patron's record that keeps it lawful. -/
theorem State.PatronLaw.onPatron (hs : s.PatronLaw) (n : Nat) {f : Patron → Patron}
    (hf : ∀ p, s.patron n = some p → p.Lawful → (f p).Lawful) : (s.onPatron n f).PatronLaw := by
  refine ⟨Table.wf_alter _ _ _ hs.1, fun e he => ?_⟩
  rcases Table.mem_alter _ he with ⟨p, hp, rfl⟩ | ⟨he, -⟩
  · exact hf p (Table.look_of_mem _ hs.1 hp) (hs.2 _ hp)
  · exact hs.2 e he

/-- Every act that changes the shape keeps the second law. -/
theorem patronLaw_shapeLaw : ShapeLaw State.PatronLaw where
  congr h hs := (State.patronLaw_iff _).2 (h ▸ (State.patronLaw_iff _).1 hs)
  opened region hs _ _ hlo hhi := by
    refine ⟨Table.wf_put _ _ _ hs.1, fun e he => ?_⟩
    rcases Table.mem_put _ he with rfl | he
    · exact .created region hlo hhi
    · exact hs.2 e he
  setFields region b hs hp hout hlo hhi := by
    refine hs.onPatron _ (fun q hq hlaw => hlaw.setFields region b ?_ hlo hhi)
    cases hp.symm.trans hq
    exact hout
  closed hs _ _ := ⟨Table.wf_drop _ _ hs.1, fun e he => hs.2 e (Table.mem_drop _ he).1⟩
  deferred hs hp hnew hlen := by
    refine hs.onPatron _ (fun q hq hlaw => ?_)
    cases hp.symm.trans hq
    exact hlaw.defer hnew hlen
  undeferred _ _ hs hg := hs.onPatron _ (fun q hq hlaw => hlaw.undeferred (hg q hq))
  entered title f pr hs hp hl _ := by
    refine hs.onPatron _ (fun q hq hlaw => hlaw.gain ?_)
    cases hp.symm.trans hq
    exact hl
  cancelled {s n o} hs _ := by
    have hdrop : (s.dropOrder n).PatronLaw := hs
    exact hdrop.onPatron _ (fun _ _ hlaw => hlaw.lose)
  loanClosed hs _ := hs.onPatron _ (fun _ _ hlaw => hlaw.returned _)
  lent hs _ := hs
  swept {s} hs := by
    rw [State.PatronLaw, s.sweep_patrons]
    refine ⟨Table.wf_mapRecords _ _ hs.1, fun e he => ?_⟩
    obtain ⟨p, hp, hep⟩ := Table.mem_mapRecords _ he
    rw [hep]
    exact (hs.2 _ hp).sweep _
  titleLoaded _ hs _ _ := hs
  titleDropped _ hs := hs
  cartAdded _ hs _ := hs
  cartDropped _ hs := hs
  newContainer n b hs _ := by
    cases b
    · exact State.PatronLaw.onPatron hs _ (fun _ _ hlaw => hlaw)
    · exact hs
  newBag _ hs _ := hs
  removeBag _ _ hs := hs
  reset q := by
    show State.reset.PatronLaw
    decide

/-- Settles O8: the second law is a law of the shape. -/
theorem stepsKeepThePatronLaw : Obligations.StepsKeepThePatronLaw :=
  fun _ _ hs ht => patronLaw_shapeLaw.step hs ht

end Sys2Proof.Machine

/-! ### The first law of the device (R2) -/

namespace Sys2Proof.Machine

/-- R2: the orders of a patron in the book and the patron's loans in the table. -/
def State.holdings (s : State) (n : Nat) : Nat :=
  s.book.orders.countP (fun o => decide (o.2.patron = n)) + s.loans.loans.countP (fun l => decide (l.2.patron = n))

/-- R13: the order counted with its patron's. -/
theorem countP_put {α : Type} {t : Table α} {n : Nat} (v : α) (h : t.look n = none) (q : Nat × α → Bool) :
    (t.put n v).countP q = t.countP q + if q (n, v) then 1 else 0 := by
  rw [(t.put_perm v h).countP_eq, List.countP_cons]

theorem countP_drop {α : Type} {t : Table α} {n : Nat} {v : α} (hw : t.wf = true) (h : t.look n = some v)
    (q : Nat × α → Bool) : t.countP q = (t.drop n).countP q + if q (n, v) then 1 else 0 := by
  rw [(t.drop_perm hw h).countP_eq, List.countP_cons]

/-- The first law read off the shape. -/
structure Shape.First (h : Shape) : Prop where
  patrons : (h.patrons.map Prod.fst).Pairwise (· < ·)
  owners : (h.owners.map Prod.fst).Pairwise (· < ·)
  borrowers : (h.borrowers.map Prod.fst).Pairwise (· < ·)
  orderCounter : 1 ≤ h.orderCounter ∧ h.orderCounter ≤ maxNumber
  loanCounter : 1 ≤ h.loanCounter ∧ h.loanCounter ≤ maxNumber
  circulation : h.owners.length + h.borrowers.length ≤ maxCirculation
  ownersKnown : ∀ e ∈ h.owners, h.patrons.has e.2 = true
  borrowersKnown : ∀ e ∈ h.borrowers, h.patrons.has e.2 = true
  counts : ∀ e ∈ h.patrons, e.2.outstanding =
    h.owners.countP (fun o => decide (o.2 = e.1)) + h.borrowers.countP (fun l => decide (l.2 = e.1))

theorem State.firstLaw_iff (s : State) : s.FirstLaw ↔ s.shape.First := by
  have hhas : ∀ n, s.shape.patrons.has n = s.patrons.has n := fun n => by simp [State.shape, Table.has]
  have hcount : ∀ n, s.shape.owners.countP (fun o => decide (o.2 = n)) +
      s.shape.borrowers.countP (fun l => decide (l.2 = n)) = s.holdings n := fun n => by
    simp [State.shape, State.holdings, List.countP_map, Function.comp_def]
  simp only [State.FirstLaw, Table.wf_iff_keys]
  constructor
  · rintro ⟨hp, ho, hl, hoc, hlc, hcap, hok, hlk, hcnt⟩
    refine ⟨by simpa [State.shape] using hp, by simpa [State.shape, Function.comp_def] using ho,
      by simpa [State.shape, Function.comp_def] using hl, hoc, hlc, by simpa [State.shape] using hcap,
      fun e he => ?_, fun e he => ?_, fun e he => ?_⟩
    · obtain ⟨x, hx, rfl⟩ := List.mem_map.1 he
      exact (hhas _).trans (hok x hx)
    · obtain ⟨x, hx, rfl⟩ := List.mem_map.1 he
      exact (hhas _).trans (hlk x hx)
    · have hrec : e ∈ s.patrons.mapRecords (fun _ p => p.account) := he
      obtain ⟨p, hp, hep⟩ := Table.mem_mapRecords _ hrec
      rw [hcount, hep]
      exact hcnt _ hp
  · rintro ⟨hp, ho, hl, hoc, hlc, hcap, hok, hlk, hcnt⟩
    refine ⟨by simpa [State.shape] using hp, by simpa [State.shape, Function.comp_def] using ho,
      by simpa [State.shape, Function.comp_def] using hl, hoc, hlc, by simpa [State.shape] using hcap,
      fun e he => ?_, fun e he => ?_, fun e he => ?_⟩
    · exact (hhas _).symm.trans (hok (e.1, e.2.patron) (List.mem_map.2 ⟨e, he, rfl⟩))
    · exact (hhas _).symm.trans (hlk (e.1, e.2.patron) (List.mem_map.2 ⟨e, he, rfl⟩))
    · exact (hcnt (e.1, e.2.account) (List.mem_map.2 ⟨e, he, rfl⟩)).trans
        (hcount e.1)

variable {s : State}

/-- A patron with a record who holds nothing by the outstanding count has no order and no loan. -/
theorem State.FirstLaw.holdings_eq (hs : s.FirstLaw) {n : Nat} {p : Patron} (hp : s.patron n = some p) :
    p.outstanding = s.holdings n :=
  hs.2.2.2.2.2.2.2.2 _ (Table.mem_of_look _ hp)

theorem State.holdings_eq_zero {n : Nat} : s.holdings n = 0 ↔
    (∀ e ∈ s.book.orders, e.2.patron ≠ n) ∧ ∀ e ∈ s.loans.loans, e.2.patron ≠ n := by
  simp [State.holdings, List.countP_eq_zero]

theorem Table.has_put_of {α : Type} {t : Table α} {n m : Nat} (v : α) (h : t.has m = true) : (t.put n v).has m = true := by
  by_cases hm : m = n
  · subst hm; simp [Table.has]
  · rw [Table.has, Table.look_put_other _ _ hm]; exact h

@[simp] theorem Table.has_alter {α : Type} (t : Table α) (n m : Nat) (f : α → α) : (t.alter n f).has m = t.has m := by
  simp [Table.has, Table.alter]

/-- The first law, with the counts as what each patron holds. -/
theorem State.FirstLaw.counts (hs : s.FirstLaw) : ∀ e ∈ s.patrons, e.2.outstanding = s.holdings e.1 :=
  hs.2.2.2.2.2.2.2.2

/-- The counts after a change of one patron's record and of what that patron holds. -/
theorem State.FirstLaw.counts_alter (hs : s.FirstLaw) {t : State} {n : Nat} {f : Patron → Patron}
    (ht : t.patrons = s.patrons.alter n f) (hother : ∀ m, m ≠ n → t.holdings m = s.holdings m)
    (hsame : ∀ p, s.patron n = some p → (f p).outstanding = t.holdings n) :
    ∀ e ∈ t.patrons, e.2.outstanding = t.holdings e.1 := by
  intro e he
  rw [ht] at he
  rcases Table.mem_alter _ he with ⟨p, hp, rfl⟩ | ⟨he, hne⟩
  · exact hsame p (Table.look_of_mem _ hs.1 hp)
  · rw [hother _ hne]
    exact hs.counts e he

theorem State.FirstLaw.order_known (hs : s.FirstLaw) {n : Nat} {o : Order} (ho : s.order n = some o) :
    s.patrons.has o.patron = true := by
  obtain ⟨-, -, -, -, -, -, hok, -⟩ := hs
  exact hok _ (Table.mem_of_look _ ho)

/-- A change of one patron's record that leaves the outstanding count. -/
theorem State.FirstLaw.onPatron (hs : s.FirstLaw) (n : Nat) (f : Patron → Patron)
    (hf : ∀ p, (f p).outstanding = p.outstanding) : (s.onPatron n f).FirstLaw := by
  obtain ⟨hp, ho, hl, hoc, hlc, hcap, hok, hlk, hcnt⟩ := id hs
  refine ⟨Table.wf_alter _ _ _ hp, ho, hl, hoc, hlc, hcap, fun e he => ?_, fun e he => ?_,
    hs.counts_alter rfl (fun _ _ => rfl) (fun p hp => (hf p).trans (hs.holdings_eq hp))⟩
  · exact (Table.has_alter _ _ _ _).trans (hok e he)
  · exact (Table.has_alter _ _ _ _).trans (hlk e he)

/-- R7: the number of a new order is free. -/
theorem State.FirstLaw.nextOrder_free (hs : s.FirstLaw) : s.book.orders.look s.nextOrder = none := by
  obtain ⟨-, -, -, ⟨h1, h2⟩, -, hcap, -⟩ := hs
  exact assignNumber_free _ h1 h2 (by simp only [maxCirculation, maxNumber] at *; omega)

/-- R145: the number of a new loan is free. -/
theorem State.FirstLaw.nextLoan_free (hs : s.FirstLaw) :
    s.loans.loans.look (assignNumber maxNumber s.loans.loans s.loans.counter) = none := by
  obtain ⟨-, -, -, -, ⟨h1, h2⟩, hcap, -⟩ := hs
  exact assignNumber_free _ h1 h2 (by simp only [maxCirculation, maxNumber] at *; omega)

theorem State.FirstLaw.opened (hs : s.FirstLaw) {n : Nat} {p : Patron} (hnew : s.patrons.has n = false)
    (hp0 : p.outstanding = 0) : State.FirstLaw { s with patrons := s.patrons.put n p } := by
  obtain ⟨hp, ho, hl, hoc, hlc, hcap, hok, hlk, hcnt⟩ := id hs
  refine ⟨Table.wf_put _ _ _ hp, ho, hl, hoc, hlc, hcap, fun e he => Table.has_put_of _ (hok e he),
    fun e he => Table.has_put_of _ (hlk e he), fun e he => ?_⟩
  rcases Table.mem_put _ he with rfl | he
  · refine hp0.trans (State.holdings_eq_zero.2 ⟨fun e he hen => ?_, fun e he hen => ?_⟩).symm
    · exact absurd (hnew.symm.trans (hen ▸ hok e he)) (by decide)
    · exact absurd (hnew.symm.trans (hen ▸ hlk e he)) (by decide)
  · exact hcnt e he

theorem State.FirstLaw.closed (hs : s.FirstLaw) {n : Nat} {p : Patron} (hpat : s.patron n = some p)
    (hp0 : p.outstanding = 0) : State.FirstLaw { s with patrons := s.patrons.drop n } := by
  obtain ⟨horders, hloans⟩ := State.holdings_eq_zero.1 ((hs.holdings_eq hpat).symm.trans hp0)
  obtain ⟨hp, ho, hl, hoc, hlc, hcap, hok, hlk, hcnt⟩ := id hs
  have hhas : ∀ m, m ≠ n → (s.patrons.drop n).has m = s.patrons.has m := fun m hm => by
    rw [Table.has, Table.has, Table.look_drop_other _ hm]
  exact ⟨Table.wf_drop _ _ hp, ho, hl, hoc, hlc, hcap, fun e he => (hhas _ (horders e he)).trans (hok e he),
    fun e he => (hhas _ (hloans e he)).trans (hlk e he), fun e he => hcnt e (Table.mem_drop _ he).1⟩

/-- R13: a new order raises its patron's count and holdings by one. -/
theorem State.FirstLaw.entered (hs : s.FirstLaw) {n title : Nat} {f : Format} {pr : Priority} {p : Patron}
    (hpat : s.patron n = some p) (hroom : s.hasRoom = true) : (s.enterOrder s.nextOrder n title f pr).FirstLaw := by
  obtain ⟨hp, ho, hl, hoc, hlc, hcap, hok, hlk, hcnt⟩ := id hs
  have hfree := hs.nextOrder_free
  have hhold : ∀ m, (s.enterOrder s.nextOrder n title f pr).holdings m = s.holdings m + if n = m then 1 else 0 := by
    intro m
    simp only [State.holdings, State.enterOrder, countP_put _ hfree, State.newOrder, decide_eq_true_eq]
    omega
  refine ⟨Table.wf_alter _ _ _ hp, Table.wf_put _ _ _ ho, hl, nextNumber_range (by decide), hlc, ?_, fun e he => ?_,
    fun e he => (Table.has_alter _ _ _ _).trans (hlk e he),
    hs.counts_alter rfl (fun m hm => by rw [hhold, if_neg (Ne.symm hm)]; rfl) (fun q hq => ?_)⟩
  · have := s.hasRoom_iff.1 hroom
    have := s.book.orders.length_put_le s.nextOrder (s.newOrder n title f pr)
    simp only [State.enterOrder]
    omega
  · refine (Table.has_alter _ _ _ _).trans ?_
    rcases Table.mem_put _ he with rfl | he
    · exact (Table.has_iff _ _).2 ⟨p, hpat⟩
    · exact hok e he
  · rw [hhold, if_pos rfl, ← hs.holdings_eq hq]
    rfl

/-- R16: a cancelled order leaves its patron's count and holdings together. -/
theorem State.FirstLaw.cancelled (hs : s.FirstLaw) {n : Nat} {o : Order} (hord : s.order n = some o) :
    ((s.dropOrder n).onPatron o.patron Patron.lose).FirstLaw := by
  obtain ⟨hp, ho, hl, hoc, hlc, hcap, hok, hlk, hcnt⟩ := id hs
  have hhold : ∀ m, s.holdings m = (s.dropOrder n).holdings m + if o.patron = m then 1 else 0 := by
    intro m
    simp only [State.holdings, State.dropOrder_book, State.dropOrder_loans, countP_drop ho hord, decide_eq_true_eq]
    omega
  refine ⟨Table.wf_alter _ _ _ hp, Table.wf_drop _ _ ho, hl, hoc, hlc, ?_,
    fun e he => (Table.has_alter _ _ _ _).trans (hok e (Table.mem_drop _ he).1),
    fun e he => (Table.has_alter _ _ _ _).trans (hlk e he),
    hs.counts_alter rfl (fun m hm => by have := hhold m; rw [if_neg (Ne.symm hm)] at this; exact this.symm)
      (fun q hq => ?_)⟩
  · have := s.book.orders.length_drop_le n
    simp only [State.onPatron_book, State.dropOrder_book, State.onPatron_loans, State.dropOrder_loans]
    omega
  · have := hhold o.patron
    rw [if_pos rfl, ← hs.holdings_eq hq] at this
    show q.outstanding - 1 = (s.dropOrder n).holdings o.patron
    omega

/-- R153: a closed loan leaves its patron's count and holdings together. -/
theorem State.FirstLaw.loanClosed (hs : s.FirstLaw) {n : Nat} {l : Loan} (hloan : s.loan n = some l) :
    (s.closeLoan n l).FirstLaw := by
  obtain ⟨hp, ho, hl, hoc, hlc, hcap, hok, hlk, hcnt⟩ := id hs
  have hhold : ∀ m, s.holdings m = (s.closeLoan n l).holdings m + if l.patron = m then 1 else 0 := by
    intro m
    simp only [State.holdings, State.closeLoan, countP_drop hl hloan, decide_eq_true_eq]
    omega
  have hpat : (s.closeLoan n l).patrons = s.patrons.alter l.patron (fun p => p.returned l.state) := rfl
  have hhas : ∀ m, (s.closeLoan n l).patrons.has m = s.patrons.has m := fun m => by rw [hpat, Table.has_alter]
  refine ⟨by rw [hpat]; exact Table.wf_alter _ _ _ hp, ho, Table.wf_drop _ _ hl, hoc, hlc, ?_,
    fun e he => (hhas _).trans (hok e he),
    fun e he => (hhas _).trans (hlk e (Table.mem_drop _ he).1),
    hs.counts_alter hpat (fun m hm => by have := hhold m; rw [if_neg (Ne.symm hm)] at this; exact this.symm)
      (fun q hq => ?_)⟩
  · have := s.loans.loans.length_drop_le n
    simp only [State.closeLoan]
    omega
  · have := hhold l.patron
    rw [if_pos rfl, ← hs.holdings_eq hq] at this
    cases hst : l.state <;> simp only [Patron.returned, Patron.lose, Patron.relimit, Patron.overdueReturned] <;> omega

/-- R140: an order that becomes a loan stays among its patron's holdings. -/
theorem State.FirstLaw.lent (hs : s.FirstLaw) {n : Nat} {o : Order} (hord : s.order n = some o) :
    (s.lend n o).FirstLaw := by
  obtain ⟨hp, ho, hl, hoc, hlc, hcap, hok, hlk, hcnt⟩ := id hs
  have hfree := hs.nextLoan_free
  have hhold : ∀ m, (s.lend n o).holdings m = s.holdings m := by
    intro m
    simp only [State.holdings, State.lend, State.dropOrder_book, countP_put _ hfree, countP_drop ho hord,
      State.newLoan, decide_eq_true_eq]
    omega
  refine ⟨hp, Table.wf_drop _ _ ho, Table.wf_put _ _ _ hl, hoc, nextNumber_range (by decide), ?_,
    fun e he => hok e (Table.mem_drop _ he).1, fun e he => ?_, fun e he => (hcnt e he).trans (hhold e.1).symm⟩
  · have := Table.length_drop_lt _ hord
    have := s.loans.loans.length_put_le (assignNumber maxNumber s.loans.loans s.loans.counter) (s.newLoan o)
    simp only [State.lend, State.dropOrder_book]
    omega
  · rcases Table.mem_put _ he with rfl | he
    · exact hs.order_known hord
    · exact hlk e he

@[simp] theorem Patron.sweep_outstanding (p : Patron) (n : Nat) : (p.sweep n).outstanding = p.outstanding := by
  unfold Patron.sweep
  split <;> rfl

theorem State.FirstLaw.swept (hs : s.FirstLaw) : s.sweep.FirstLaw := by
  obtain ⟨hp, ho, hl, hoc, hlc, hcap, hok, hlk, hcnt⟩ := id hs
  have hhas : ∀ m, s.sweep.patrons.has m = s.patrons.has m := fun m => by
    simp [s.sweep_patrons, Table.has]
  have hpat : ∀ l : Loan, (if l.falls s.clock.day s.loans.grace = true then { l with state := .overdue } else l).patron =
      l.patron := fun l => by split <;> rfl
  have hhold : ∀ m, s.sweep.holdings m = s.holdings m := fun m => by
    simp [State.holdings, s.sweep_loans, Table.mapRecords, List.countP_map, Function.comp_def, hpat]
  refine ⟨by simpa [s.sweep_patrons] using hp, by simpa using ho, by simpa [s.sweep_loans] using hl, by simpa using hoc,
    by simpa [s.sweep_loans] using hlc, by simpa [s.sweep_loans] using hcap, fun e he => ?_, fun e he => ?_,
    fun e he => ?_⟩
  · exact (hhas _).trans (hok e (by simpa using he))
  · simp only [s.sweep_loans] at he
    obtain ⟨l, hl, hel⟩ := Table.mem_mapRecords s.loans.loans he
    rw [hhas, hel, hpat]
    exact hlk _ hl
  · rw [s.sweep_patrons] at he
    obtain ⟨p, hp, hep⟩ := Table.mem_mapRecords _ he
    rw [hep, Patron.sweep_outstanding]
    exact (hcnt _ hp).trans (hhold e.1).symm

/-- Every act that changes the shape keeps the first law. -/
theorem firstLaw_shapeLaw : ShapeLaw State.FirstLaw where
  congr h hs := (State.firstLaw_iff _).2 (h ▸ (State.firstLaw_iff _).1 hs)
  opened region hs hnew _ _ _ := hs.opened hnew rfl
  setFields region b hs _ _ _ _ := hs.onPatron _ _ (fun _ => rfl)
  closed hs hp h0 := hs.closed hp h0
  deferred hs _ _ _ := hs.onPatron _ _ (fun _ => rfl)
  undeferred _ _ hs _ := hs.onPatron _ _ (fun _ => rfl)
  entered _ _ _ hs hp _ hroom := hs.entered hp hroom
  cancelled hs ho := hs.cancelled ho
  loanClosed hs hl := hs.loanClosed hl
  lent hs ho := hs.lent ho
  swept hs := hs.swept
  titleLoaded _ hs _ _ := hs
  titleDropped _ hs := hs
  cartAdded _ hs _ := hs
  cartDropped _ hs := hs
  newContainer n b hs _ := by
    cases b
    · exact State.FirstLaw.onPatron hs n (fun p => { p with openContainer := some _ }) (fun _ => rfl)
    · exact hs
  newBag _ hs _ := hs
  removeBag _ _ hs := hs
  reset q := by
    show State.reset.FirstLaw
    decide

/-- Settles O6: the first law is a law of the shape. -/
theorem stepsKeepTheFirstLaw : Obligations.StepsKeepTheFirstLaw :=
  fun _ _ hs ht => firstLaw_shapeLaw.step hs ht

end Sys2Proof.Machine

/-! ### Patrons opened and closed (1.10) -/

namespace Sys2Proof.Machine

variable {s : State}

/-- R168: a check list with no failing check names no field. -/
theorem firstBad_eq_none {l : List Bool} : firstBad l = none ↔ ∀ b ∈ l, b = false := by
  induction l with
  | nil => simp [firstBad]
  | cons b rest ih => cases b <;> simp [firstBad, ih]

theorem exists_firstBad {l : List Bool} (h : ∃ b ∈ l, b = true) : ∃ f, firstBad l = some f := by
  obtain ⟨b, hb, rfl⟩ := h
  rw [← Option.ne_none_iff_exists', Ne, firstBad_eq_none]
  exact fun hall => absurd (hall _ hb) (by decide)

/-- R20: the limits stored, as the rule words them. -/
theorem openLimits_eq {high restore hi lo : Nat} (hhi : hi = if high = 0 then 6 else if 15 < high then 15 else high)
    (hlo : lo = if high = 0 then 3 else if hi ≤ restore then hi - 1 else restore) :
    openLimits high restore = (hi, lo) := by
  have hmin : min high 15 = if 15 < high then 15 else high := by split <;> omega
  unfold openLimits clampRestore
  by_cases h0 : high = 0
  · simp_all
  · rw [if_neg h0] at hhi hlo
    rw [if_neg h0, hmin, ← hhi, hlo]
    simp only [← not_le, ite_not]

/-! #### PATRON_OPEN (R20): its refusals in order, and the record created -/

theorem patronOpen_checks {n region : Nat} (hn : n ≠ 0) (hr : region ≤ 7) :
    firstBad [decide (n = 0), decide (7 < region)] = none := by
  simp [firstBad_eq_none, hn, hr]

theorem patronOpen_range {n region : Nat} (high restore : Nat) (hbad : n = 0 ∨ 7 < region) :
    ∃ f, patronOpen n region high restore s = refuse s .range f := by
  obtain ⟨f, hf⟩ : ∃ f, firstBad [decide (n = 0), decide (7 < region)] = some f :=
    exists_firstBad (by simpa using hbad)
  exact ⟨f, by simp only [patronOpen, hf]⟩

theorem patronOpen_duplicate {n region : Nat} (high restore : Nat) (hn : n ≠ 0) (hr : region ≤ 7)
    (hhas : s.patrons.has n = true) : patronOpen n region high restore s = refuse s .duplicate 1 := by
  simp [patronOpen, patronOpen_checks hn hr, hhas]

theorem patronOpen_full {n region : Nat} (high restore : Nat) (hn : n ≠ 0) (hr : region ≤ 7)
    (hhas : s.patrons.has n = false) (hlen : maxPatrons ≤ s.patrons.length) :
    patronOpen n region high restore s = refuse s .full 0 := by
  simp [patronOpen, patronOpen_checks hn hr, hhas, hlen]

theorem patronOpen_accepted (s : State) {n region : Nat} (high restore : Nat) (hn : n ≠ 0) (hr : region ≤ 7)
    (hhas : s.patrons.has n = false) (hlen : s.patrons.length < maxPatrons) :
    patronOpen n region high restore s =
      answer { s with
          patrons := s.patrons.put n (.created region (openLimits high restore).1 (openLimits high restore).2) }
        (clampedIf (decide (high ≠ 0 ∧ openLimits high restore ≠ (high, restore))))
        [u1 (openLimits high restore).1, u1 (openLimits high restore).2] := by
  simp [patronOpen, patronOpen_checks hn hr, hhas, hlen]

/-! #### PATRON_CLOSE (R22) -/

theorem patronClose_range : patronClose 0 s = refuse s .range 1 := rfl

theorem patronClose_notFound {n : Nat} (hn : n ≠ 0) (hp : s.patron n = none) :
    patronClose n s = refuse s .notFound 1 := by
  simp [patronClose, firstBad, hn, hp]

theorem patronClose_wrongState {n : Nat} {p : Patron} (hn : n ≠ 0) (hp : s.patron n = some p) (ho : 0 < p.outstanding) :
    patronClose n s = refuse s .wrongState 0 := by
  simp [patronClose, firstBad, hn, hp, ho]

theorem patronClose_accepted {n : Nat} {p : Patron} (hn : n ≠ 0) (hp : s.patron n = some p) (ho : p.outstanding = 0) :
    patronClose n s = answer { s with patrons := s.patrons.drop n } .accepted [] := by
  simp [patronClose, firstBad, hn, hp, ho]

/-- Settles O26, outcome by outcome. -/
theorem patronsAreOpenedAndClosed : Obligations.PatronsAreOpenedAndClosed := by
  refine ⟨fun s h n region high restore ht => ⟨fun hbad => ?_, fun hn hr hhas => ?_, fun hn hr hhas hlen => ?_,
    fun hn hr hhas hlen hi lo hhi hlo => ?_⟩, fun s h n ht => ⟨fun hn => ?_, fun hn hp => ?_, fun p hn hp ho => ?_,
    fun p hn hp ho => ?_⟩⟩
  · obtain ⟨f, hf⟩ := patronOpen_range high restore hbad
    exact ⟨f, congrArg _ (request_refuse ht hf)⟩
  · exact ⟨1, congrArg _ (request_refuse ht (patronOpen_duplicate high restore hn hr hhas))⟩
  · exact ⟨0, congrArg _ (request_refuse ht (patronOpen_full high restore hn hr hhas hlen))⟩
  · have hacc := patronOpen_accepted (s.clocked h) high restore hn hr hhas hlen
    have hcode : (high ≠ 0 ∧ (hi, lo) ≠ (high, restore)) ↔ (high ≠ 0 ∧ (hi ≠ high ∨ lo ≠ restore)) := by
      simp only [Ne, Prod.mk.injEq, not_and_or]
    rw [openLimits_eq hhi hlo] at hacc
    simp only [clampedIf, decide_eq_true_eq, hcode] at hacc
    exact congrArg _ (request_answer ht hacc)
  · subst hn
    exact congrArg _ (request_refuse ht patronClose_range)
  · exact congrArg _ (request_refuse ht (patronClose_notFound hn hp))
  · exact congrArg _ (request_refuse ht (patronClose_wrongState hn hp ho))
  · exact congrArg _ (request_answer ht (patronClose_accepted hn hp ho))

end Sys2Proof.Machine

/-! ### Orders placed (1.6): the tests in order, and a placement deferred -/

namespace Sys2Proof.Machine

variable {s : State}

/-- R109: an act that leaves the book changes no tag. -/
theorem State.settle_of_book {t : State} (h : t.book = s.book) (hw : s.book.orders.wf = true) :
    t.settle s.book.orders = t :=
  t.settle_same (by rw [h]) hw

theorem Causes.any_iff (c : Causes) : c.any = true ↔ c.limit = true ∨ c.overdue = true ∨ c.suspended = true := by
  simp [Causes.any, or_assoc]

theorem State.holdsTitle_iff (s : State) (n title : Nat) : s.holdsTitle n title = true ↔
    (∃ e ∈ s.book.orders, e.2.patron = n ∧ e.2.title = title) ∨
      ∃ e ∈ s.loans.loans, e.2.patron = n ∧ e.2.title = title := by
  simp [State.holdsTitle]

theorem State.holdsTitle_eq_false {n title : Nat} (ho : ∀ e ∈ s.book.orders, ¬ (e.2.patron = n ∧ e.2.title = title))
    (hl : ∀ e ∈ s.loans.loans, ¬ (e.2.patron = n ∧ e.2.title = title)) : s.holdsTitle n title = false := by
  rw [← Bool.not_eq_true, State.holdsTitle_iff]
  rintro (⟨e, he, h⟩ | ⟨e, he, h⟩)
  · exact ho e he h
  · exact hl e he h

/-- R15: a pass stops before its first entry where a cause is held, and has nothing to do on an empty list. -/
theorem State.releasePass_of_stopped {n : Nat} {p : Patron} (hp : s.patron n = some p)
    (h : p.deferred = [] ∨ p.causes.any = true) : s.releasePass n = (s, 0) := by
  have hmay : p.causes.any = true → s.mayRelease n = false := fun hc => by simp [State.mayRelease, hp, hc]
  unfold State.releasePass
  rw [hp]
  cases hd : p.deferred with
  | nil => simp [hd, State.releaseLoop]
  | cons title rest =>
    have hc := h.resolve_left (by simp [hd])
    simp [hd, State.releaseLoop, hmay hc]

/-! #### The outcomes of ORDER_PLACE (R10, R11) -/

theorem orderPlace_range {n title pr : Nat} (h : n = 0 ∨ title = 0 ∨ 1 < pr) :
    orderPlace n title pr s = refuse s .range (if n = 0 then 1 else if title = 0 then 2 else 3) := by
  by_cases hn : n = 0
  · simp [orderPlace, firstBad, hn]
  · by_cases ht : title = 0
    · simp [orderPlace, firstBad, hn, ht]
    · have hpr : 1 < pr := by simpa [hn, ht] using h
      simp [orderPlace, firstBad, hn, ht, hpr]

theorem orderPlace_checks {n title pr : Nat} (hn : n ≠ 0) (ht : title ≠ 0) (hpr : pr ≤ 1) :
    firstBad [decide (n = 0), decide (title = 0), decide (1 < pr)] = none := by
  simp [firstBad_eq_none, hn, ht, hpr]

section Tests
variable {n title pr : Nat} {p : Patron} (hn : n ≠ 0) (ht : title ≠ 0) (hpr : pr ≤ 1)
include hn ht hpr

theorem orderPlace_noPatron (hp : s.patron n = none) : orderPlace n title pr s = refuse s .notFound 1 := by
  simp [orderPlace, orderPlace_checks hn ht hpr, hp]

variable (hp : s.patron n = some p)
include hp

theorem orderPlace_noTitle (htitle : s.title title = none) : orderPlace n title pr s = refuse s .notFound 2 := by
  have hhas : s.titles.has title = false := (Table.has_false_iff _ _).2 htitle
  simp [orderPlace, orderPlace_checks hn ht hpr, hp, hhas]

variable (htitle : s.title title ≠ none)
include htitle

theorem orderPlace_duplicate (h : s.holdsTitle n title = true ∨ title ∈ p.deferred) :
    orderPlace n title pr s = refuse s .duplicate 2 := by
  have hhas : s.titles.has title = true := Option.isSome_iff_ne_none.2 htitle
  rcases h with h | h <;> simp [orderPlace, orderPlace_checks hn ht hpr, hp, hhas, h]

variable (hnew : s.holdsTitle n title = false) (hdef : title ∉ p.deferred)
include hnew hdef

theorem orderPlace_noRoom (hroom : s.hasRoom = false) : orderPlace n title pr s = refuse s .full 0 := by
  have hhas : s.titles.has title = true := Option.isSome_iff_ne_none.2 htitle
  simp [orderPlace, orderPlace_checks hn ht hpr, hp, hhas, hnew, hdef, hroom]

theorem orderPlace_listFull (hroom : s.hasRoom = true) (hc : p.causes.any = true)
    (hlen : maxDeferred ≤ p.deferred.length) : orderPlace n title pr s = refuse s .full 0 := by
  have hhas : s.titles.has title = true := Option.isSome_iff_ne_none.2 htitle
  simp [orderPlace, orderPlace_checks hn ht hpr, hp, hhas, hnew, hdef, hroom, hc, hlen]

/-- R11: with a cause held the title joins the list, and the pass that runs stops before its first entry. -/
theorem orderPlace_deferred (hroom : s.hasRoom = true) (hc : p.causes.any = true)
    (hlen : p.deferred.length < maxDeferred) (hw : s.book.orders.wf = true) :
    orderPlace n title pr s =
      answer (s.onPatron n (fun p => { p with deferred := p.deferred ++ [title] })) .deferred
        [u1 (p.deferred.length + 1), u1 0] := by
  have hhas : s.titles.has title = true := Option.isSome_iff_ne_none.2 htitle
  have hp1 : (s.onPatron n (fun p => { p with deferred := p.deferred ++ [title] })).patron n =
      some { p with deferred := p.deferred ++ [title] } := by
    simp [hp]
  have hplace : orderPlace n title pr s = deferTitle n title s := by
    simp [orderPlace, orderPlace_checks hn ht hpr, hp, hhas, hnew, hdef, hroom, hc, hlen]
  have hpass := State.releasePass_of_stopped hp1 (.inr hc)
  rw [hplace]
  simp only [deferTitle, hpass, hp1]
  rw [State.settle_of_book (s.onPatron_book n _) hw]
  simp

omit hdef in
/-- R12, R13: a placement that passes every test, of a patron with no cause and no entry, creates an order. -/
theorem orderPlace_accepted (hroom : s.hasRoom = true) (hc : p.causes.any = false) (hlist : p.deferred = []) :
    orderPlace n title pr s = ⟨(s.createOrder n title (priorityOf pr)).settle s.book.orders, .accepted,
      [u2 s.nextOrder], some s.nextOrder⟩ := by
  have hhas : s.titles.has title = true := Option.isSome_iff_ne_none.2 htitle
  simp [orderPlace, orderPlace_checks hn ht hpr, hp, hhas, hnew, hroom, hc, hlist]

end Tests

/-- Settles O29, test by test. -/
theorem ordersAreTestedAndDeferred : Obligations.OrdersAreTestedAndDeferred := by
  intro s h n title pr ht
  refine ⟨fun hbad => congrArg _ (request_refuse ht (orderPlace_range hbad)), fun hn htt hpr => ⟨fun hp => ?_,
    fun p hp => ⟨fun htitle => ?_, fun htitle => ⟨fun hdup => ?_, fun ho hl hdef hfull => ?_,
      fun hnew hdef hcap hord hc => ⟨fun hlen => ?_, fun hlen hw => ?_⟩⟩⟩⟩⟩
  · exact congrArg _ (request_refuse ht (orderPlace_noPatron hn htt hpr hp))
  · exact congrArg _ (request_refuse ht (orderPlace_noTitle hn htt hpr hp htitle))
  · refine ⟨2, congrArg _ (request_refuse ht (orderPlace_duplicate hn htt hpr hp htitle ?_))⟩
    rw [← or_assoc] at hdup
    exact hdup.imp_left (State.holdsTitle_iff _ _ _).2
  · refine congrArg _ (request_refuse ht (orderPlace_noRoom hn htt hpr hp htitle ?_ hdef ?_))
    · exact State.holdsTitle_eq_false ho hl
    · rw [← Bool.not_eq_true, State.hasRoom_iff]
      simp only [State.clocked_book, State.clocked_loans, maxCirculation, maxOrders]
      omega
  · have hany := (Causes.any_iff _).2 hc
    exact congrArg _ (request_refuse ht (orderPlace_listFull hn htt hpr hp htitle hnew hdef
      ((State.hasRoom_iff _).2 ⟨hcap, hord⟩) hany hlen))
  · have hany := (Causes.any_iff _).2 hc
    exact congrArg _ (request_answer ht (orderPlace_deferred hn htt hpr hp htitle hnew hdef
      ((State.hasRoom_iff _).2 ⟨hcap, hord⟩) hany hlen hw))

end Sys2Proof.Machine

/-! ### Orders retried (1.9) -/

namespace Sys2Proof.Machine

variable {s : State}

/-- R109: no order is changed when every tag stands as it was. -/
theorem changedTags_eq_nil {start now : Table Order}
    (h : ∀ e ∈ now, ∀ o, start.look e.1 = some o → tagChanged o.tag e.2.tag = false) : changedTags start now = [] := by
  refine List.filter_eq_nil_iff.2 (fun e he => ?_)
  split
  · next o ho => simp [h e he o ho]
  · simp

/-- R109: a change of one order that leaves its tag, or that the order did not carry one. -/
theorem changedTags_alter {t : Table Order} (hw : t.wf = true) {n : Nat} {f : Order → Order}
    (hf : ∀ o, t.look n = some o → tagChanged o.tag (f o).tag = false) : changedTags t (t.alter n f) = [] := by
  refine changedTags_eq_nil (fun e he o ho => ?_)
  rcases Table.mem_alter _ he with ⟨v, hv, rfl⟩ | ⟨he, -⟩
  · cases (Table.look_of_mem _ hw hv).symm.trans ho
    exact hf _ ho
  · cases (Table.look_of_mem _ hw he).symm.trans ho
    exact tagChanged_self _

/-- R9, R64: with no bay ARMED an order that joins the pending queue waits there. -/
theorem State.joinPending_of_no_bay (s : State) (h : ∀ b < bayCount, (s.bay b).state ≠ .armed) (n : Nat) :
    s.joinPending n = s.setQueue (joinTail s.isRush n s.book.queue) :=
  State.arbiter_of_no_bay _ (State.armedBays_eq_nil _ h)

theorem orderRetry_wrongState {n : Nat} {o : Order} (hn : n ≠ 0) (ho : s.order n = some o) (hst : o.state ≠ .stalled) :
    orderRetry n s = refuse s .wrongState 0 := by
  simp [orderRetry, firstBad, hn, ho, hst]

/-- R19: the record of a STALLED order that is retried. -/
def Order.retried (o : Order) : Order :=
  { o.unseat .pending with retry := 0 }

theorem orderRetry_accepted (s : State) {n : Nat} {o : Order} (hn : n ≠ 0) (ho : s.order n = some o) (hst : o.state = .stalled) :
    orderRetry n s =
      ⟨((s.onOrder n Order.retried).joinPending n).settle s.book.orders, .accepted, [], some n⟩ := by
  simp only [orderRetry, firstBad, hn, ho, hst, decide_false, Option.map_none, ne_eq, not_true, if_false]
  rfl

/-- Settles O34: with no bay ARMED the arbiter leaves the order in the queue, and no tag changes. -/
theorem retriesRejoinTheQueue : Obligations.RetriesRejoinTheQueue := by
  intro s h n o ht hn ho
  refine ⟨fun hst => congrArg _ (request_refuse ht (orderRetry_wrongState hn ho hst)),
    fun hst htag hw hbays t htdef => ?_⟩
  have htr : t = (s.clocked h).onOrder n Order.retried := htdef
  have hjoin : t.joinPending n = t.setQueue (joinTail t.isRush n s.book.queue) := by
    have hb : ∀ b < bayCount, (t.bay b).state ≠ .armed := htr ▸ hbays
    rw [State.joinPending_of_no_bay t hb n, htr]
    rfl
  have hchanged : changedTags s.book.orders (s.book.orders.alter n Order.retried) = [] := by
    refine changedTags_alter hw (fun q hq => ?_)
    cases ho.symm.trans hq
    rw [htag]
    rfl
  have hsettle : (t.joinPending n).settle s.book.orders = t.setQueue (joinTail t.isRush n s.book.queue) := by
    rw [hjoin]
    subst htr
    exact State.settle_of_none _ hchanged
  refine congrArg _ ((request_taken ht).trans ?_)
  rw [orderRetry_accepted (s.clocked h) hn ho hst, ← htr]
  exact congrArg (fun u => State.answered u .orderRetry h .accepted [] (some n)) hsettle

end Sys2Proof.Machine

/-! ### The queries of the circulation port (1.11, 2.8) -/

namespace Sys2Proof.Machine

variable {s : State}

/-- R24: the one record that a test finds. -/
theorem Table.findKey_eq {α : Type} {t : Table α} {n : Nat} {v : α} (hv : t.look n = some v) {q : α → Bool}
    (hq : q v = true) (hone : ∀ e ∈ t, q e.2 = true → e.1 = n) : t.findKey q = some n := by
  unfold Table.findKey
  cases hf : t.find? (fun e => q e.2) with
  | none => exact absurd hq (List.find?_eq_none.1 hf _ (t.mem_of_look hv))
  | some e => exact congrArg some (hone e (List.mem_of_find?_eq_some hf) (by simpa using List.find?_some hf))

/-- R24: a query by number names a number, and one by patron and title names both. -/
theorem formBad_byNumber {n : Nat} (hn : n ≠ 0) (p t : Nat) : formBad 0 n p t = none := by
  simp [formBad, firstBad_eq_none, hn]

theorem formBad_byTitle {p t : Nat} (hp : p ≠ 0) (ht : t ≠ 0) : formBad 1 0 p t = none := by
  simp [formBad, firstBad_eq_none, hp, ht]

theorem patronQuery_eq {n : Nat} {p : Patron} (hn : n ≠ 0) (hp : s.patron n = some p) :
    patronQuery n s = answer s .accepted p.fields := by
  simp [patronQuery, firstBad, hn, hp]

theorem orderQuery_byNumber (s : State) {n : Nat} {o : Order} (hn : n ≠ 0) (ho : s.order n = some o) (p t : Nat) :
    orderQuery 0 n p t s = answer s .accepted (s.orderFields n o) := by
  simp [orderQuery, formBad_byNumber hn, ho]

theorem orderQuery_byTitle {n : Nat} {o : Order} (ho : s.order n = some o) (hp : o.patron ≠ 0) (ht : o.title ≠ 0)
    (hone : ∀ e ∈ s.book.orders, e.2.patron = o.patron → e.2.title = o.title → e.1 = n) :
    orderQuery 1 0 o.patron o.title s = answer s .accepted (s.orderFields n o) := by
  have hkey : s.book.orders.findKey (fun q => decide (q.patron = o.patron) && decide (q.title = o.title)) = some n :=
    Table.findKey_eq ho (by simp) (fun e he hq => by
      simp only [Bool.and_eq_true, decide_eq_true_eq] at hq
      exact hone e he hq.1 hq.2)
  simp [orderQuery, formBad_byTitle hp ht, hkey, ho]

theorem loanQuery_byNumber (s : State) {n : Nat} {l : Loan} (hn : n ≠ 0) (hl : s.loan n = some l) (p t : Nat) :
    loanQuery 0 n p t s = answer s .accepted (s.loanFields n l) := by
  simp [loanQuery, formBad_byNumber hn, hl]

theorem loanQuery_byTitle {n : Nat} {l : Loan} (hl : s.loan n = some l) (hp : l.patron ≠ 0) (ht : l.title ≠ 0)
    (hone : ∀ e ∈ s.loans.loans, e.2.patron = l.patron → e.2.title = l.title → e.1 = n) :
    loanQuery 1 0 l.patron l.title s = answer s .accepted (s.loanFields n l) := by
  have hkey : s.loans.loans.findKey (fun q => decide (q.patron = l.patron) && decide (q.title = l.title)) = some n :=
    Table.findKey_eq hl (by simp) (fun e he hq => by
      simp only [Bool.and_eq_true, decide_eq_true_eq] at hq
      exact hone e he hq.1 hq.2)
  simp [loanQuery, formBad_byTitle hp ht, hkey, hl]

theorem titleQuery_cartridge (s : State) {n size : Nat} {sel : Selector} (hn : n ≠ 0) (ht : s.title n = some (.cartridge size sel))
    (copy : Nat) : titleQuery n copy s = answer s .accepted [u1 0, u3 size, u1 sel.code,
      u2 (s.book.orders.countP (fun e => decide (e.2.title = n)))] := by
  simp [titleQuery, firstBad, hn, ht, Format.code]

theorem titleQuery_copyRange {n copy : Nat} {copies : List Copy} {hold : List Nat} (hn : n ≠ 0)
    (ht : s.title n = some (.braille copies hold)) (hc : 63 < copy) : titleQuery n copy s = refuse s .range 2 := by
  simp [titleQuery, firstBad, hn, ht, hc]

theorem titleQuery_braille {n copy : Nat} {copies : List Copy} {hold : List Nat} (hn : n ≠ 0)
    (ht : s.title n = some (.braille copies hold)) (hc : copy ≤ 63) :
    titleQuery n copy s = answer s .accepted (brailleFields copies hold copy) := by
  simp [titleQuery, firstBad, hn, ht, hc]

/-- R40: the entries ALLOCATED, by their code in Table 2-2. -/
theorem copiesIn_allocated (copies : List Copy) :
    copiesIn copies 2 = copies.countP (fun c => match c with | .allocated _ => true | _ => false) :=
  List.countP_congr (fun c _ => by cases c <;> simp [Copy.code])

theorem copiesIn_onLoan (copies : List Copy) :
    copiesIn copies 3 = copies.countP (fun c => match c with | .onLoan _ => true | _ => false) :=
  List.countP_congr (fun c _ => by cases c <;> simp [Copy.code])

theorem Copy.number_eq (c : Copy) : c.number = match c with | .allocated m => m | .onLoan m => m | _ => 0 := by
  cases c <;> rfl

/-- Settles O42, query by query. -/
theorem circulationQueriesReport : Obligations.CirculationQueriesReport := by
  refine fun s h => ⟨fun ht n p hn hp => ?_, fun ht n o patron title ho hn => ?_, fun ht n l patron title hl hn => ?_,
    fun ht n size sel copy hn htt => ?_, fun ht n copies hold copy hn htt => ⟨fun hc => ?_, fun hc => ?_⟩⟩
  · exact congrArg _ (request_answer ht (patronQuery_eq hn hp))
  · refine ⟨(s.clocked h).orderFields n o, rfl, ?_, fun hp htt hone => ?_⟩
    · exact congrArg _ (request_answer ht (orderQuery_byNumber (s.clocked h) hn ho patron title))
    · exact congrArg _ (request_answer ht (orderQuery_byTitle ho hp htt hone))
  · refine ⟨(s.clocked h).loanFields n l, ?_, ?_, fun hp htt hone => ?_⟩
    · cases hi : l.item <;> simp [State.loanFields, Item.field, hi]
    · exact congrArg _ (request_answer ht (loanQuery_byNumber (s.clocked h) hn hl patron title))
    · exact congrArg _ (request_answer ht (loanQuery_byTitle hl hp htt hone))
  · exact congrArg _ (request_answer ht (titleQuery_cartridge (s.clocked h) hn htt copy))
  · exact congrArg _ (request_refuse ht (titleQuery_copyRange hn htt hc))
  · have hq := titleQuery_braille hn (show (s.clocked h).title n = some (.braille copies hold) from htt) hc
    simp only [brailleFields, copiesIn_allocated, copiesIn_onLoan, Copy.number_eq] at hq
    exact congrArg _ (request_answer ht hq)

end Sys2Proof.Machine

/-! ### The computations of 1.1, 1.4, 5.3, 6.2, 7.2, 8.3 and 10.3 -/

namespace Sys2Proof.Machine

theorem Bay.active_eq_decide (b : Bay) : b.active = decide (b.state = .blanking ∨ b.state = .writing) := by
  simp [Bay.active]

/-- R101: a job's width is that of its own selector for a WRITE job, and of the selector in force for a BLANK one. -/
theorem jobWidth_eq (r : Scheduler) (k : JobKind) : r.jobWidth k = (match k with
    | .write _ .a => r.widthA
    | .write _ .b => r.widthB
    | .blank => if r.blankSel = .a then r.widthA else r.widthB) := by
  cases k with
  | write n sel => cases sel <;> rfl
  | blank => cases hsel : r.blankSel <;> simp [Scheduler.jobWidth, Scheduler.selector, Scheduler.width, hsel]

/-- R101: the slice of a bay, as the three clauses name it. -/
theorem sliceSize_eq {r : Scheduler} {b : Bay} {n : Nat} (hoff : b.active = false → n = 0)
    (hnone : b.active = true → b.job = none → n = 0)
    (hjob : ∀ j, b.active = true → b.job = some j → n = min (r.jobWidth j.kind) j.remaining) :
    sliceSize r b = n := by
  cases ha : b.active with
  | false => simp [sliceSize, ha, hoff ha]
  | true =>
    cases hj : b.job with
    | none => simp [sliceSize, ha, hj, hnone ha hj]
    | some j => simp [sliceSize, ha, hj, hjob j ha hj]

theorem roundTime_eq {s : State} {active : Nat → Bool} {slice : Nat → Nat}
    (hactive : ∀ b, (s.bay b).active = active b) (hslice : ∀ b, sliceSize s.rack (s.bay b) = slice b) :
    s.roundTime = ((List.range 16).map (fun k =>
      if active (2 * k) || active (2 * k + 1) then max (slice (2 * k)) (slice (2 * k + 1)) + 5 else 0)).sum := by
  simp only [State.roundTime, pairTime, hactive, hslice, pairCount, changeover]

theorem waitedFor_iff (o : Order) : o.waitedFor = true ↔
    ((o.state = .writing ∨ o.state = .verifying) ∧ o.tag = .onTime) ∨ (o.state = .ready ∧ o.format = .cartridge) := by
  cases hs : o.state <;> simp [Order.waitedFor, hs]

theorem enqueue_of_room {u : PortUnit} (h : u.notices.length < 32) (n : Notice) : u.enqueue n = { u with
    notices := u.notices ++ [n]
    pulses := if u.mode = .pulse ∧ u.mask.getLsbD (n.kind.code - 1) = false then u.pulses + 1 else u.pulses } := by
  rw [PortUnit.enqueue, if_neg (show ¬ maxNotices ≤ u.notices.length from Nat.not_le.2 h)]
  rfl

theorem enqueue_of_full {u : PortUnit} (h : 32 ≤ u.notices.length) (n : Notice) :
    u.enqueue n = { u with noticeLost := true } := by
  simp [PortUnit.enqueue, maxNotices, h]

theorem attention_iff {u : PortUnit} (h : u.mode = .level) : u.attention = true ↔
    (∃ f, u.slot = .holding f) ∨ ∃ n ∈ u.notices, u.mask.getLsbD (n.kind.code - 1) = false := by
  cases hs : u.slot <;> simp [PortUnit.attention, PortUnit.masks, h, hs]

/-- Settles O41, one computation after another. -/
theorem theComputationsAreSpelledOut : Obligations.TheComputationsAreSpelledOut := by
  refine ⟨fun s active slice hactive hoff hnone hjob => ?_, fun c p => rfl, fun second l c => rfl,
    fun rush n q => ⟨fun h => ?_, fun h => ?_⟩, fun p => rfl, waitedFor_iff, fun u n h => enqueue_of_room h n,
    fun u n h => enqueue_of_full h n, fun u h => attention_iff h⟩
  · have ha : ∀ b, (s.bay b).active = active b := fun b => ((s.bay b).active_eq_decide).trans (hactive b).symm
    refine roundTime_eq ha (fun b => sliceSize_eq (fun h => hoff b (ha b ▸ h)) (fun h => hnone b (ha b ▸ h)) ?_)
    exact fun j h hj => jobWidth_eq s.rack j.kind ▸ hjob b j (ha b ▸ h) hj
  · simp [joinHead, joinTail, h]
  · simp [joinHead, joinTail, h]

end Sys2Proof.Machine

/-! ### Orders cancelled (1.8): the states that reach no bay and no waiting order -/

namespace Sys2Proof.Machine

/-- A record altered is the record put in its place. -/
theorem Table.alter_eq_put {α : Type} (t : Table α) (hw : t.wf = true) {n : Nat} {v : α} (h : t.look n = some v)
    (f : α → α) : t.alter n f = t.put n (f v) := by
  induction t with
  | nil => cases h
  | cons a rest ih =>
    obtain ⟨k, w⟩ := a
    obtain ⟨hlt, hrest⟩ := List.pairwise_cons.1 ((Table.wf_iff _).1 hw)
    by_cases hk : k = n
    · subst hk
      have hw' : w = v := by simpa [Table.look] using h
      have hothers : Table.alter rest k f = rest := by
        refine (List.map_congr_left (fun e he => ?_)).trans (List.map_id rest)
        have hne : e.1 ≠ k := Nat.ne_of_gt (hlt e he)
        simp [hne]
      have hput : Table.put ((k, w) :: rest) k (f v) = (k, f v) :: rest := by simp [Table.put]
      rw [hput, ← hw']
      exact congrArg₂ List.cons (by simp) hothers
    · have hlook : Table.look rest n = some v := by simpa [Table.look, hk] using h
      have hn : k < n := hlt _ (Table.mem_of_look _ hlook)
      have htail := ih ((Table.wf_iff _).2 hrest) hlook
      simp only [Table.put, Nat.lt_asymm hn, Ne.symm hk, if_false]
      rw [← htail]
      simp [Table.alter, Table.mapRecords, hk]

variable (s : State)

/-- R134: a patron with no open container has nothing to examine. -/
theorem State.reexamine_of_no_container {n : Nat} {p : Patron} (hp : s.patron n = some p)
    (hc : p.openContainer = none) : s.reexamine n = s := by
  simp [State.reexamine, hp, hc]

/-- R16, R17: a cancel for a patron with no deferred entry and no open container is the release of the order's
item and one order less on the patron's account. -/
theorem orderCancel_accepted {n : Nat} {o : Order} {p : Patron} {t : State} (hn : n ≠ 0) (ho : s.order n = some o)
    (hst : o.state ≠ .packed) (hp : s.patron o.patron = some p) (hdef : p.deferred = [])
    (hcont : p.openContainer = none) (hw : s.book.orders.wf = true)
    (ht : (s.dropOrder n).releaseItem n o = t) (hpat : t.patrons = s.patrons)
    (hord : t.book.orders = s.book.orders.drop n) :
    orderCancel n s = answer (t.onPatron o.patron Patron.lose) .accepted [u3 o.patron, u1 (p.outstanding - 1)] := by
  have hlost : (t.onPatron o.patron Patron.lose).patron o.patron = some p.lose := by
    have : t.patron o.patron = some p := by rw [State.patron, hpat]; exact hp
    simp [this]
  have hsettle : (t.onPatron o.patron Patron.lose).settle (s.book.orders.drop n) = t.onPatron o.patron Patron.lose :=
    State.settle_same _ hord (Table.wf_drop _ n hw)
  have hre := State.reexamine_of_no_container _ hlost (show p.lose.openContainer = none from hcont)
  have hpass := State.releasePass_of_stopped hlost (.inl hdef)
  simp only [orderCancel, firstBad, hn, decide_false, Option.map_none, ho, hst, if_false, ht, hre, hpass, hsettle,
    hlost]
  rfl

theorem orderCancel_tooLate {n : Nat} {o : Order} (hn : n ≠ 0) (ho : s.order n = some o) (hst : o.state = .packed) :
    orderCancel n s = refuse s .tooLate 0 := by
  simp [orderCancel, firstBad, hn, ho, hst]

/-! #### The item released (Table 1-5) -/

theorem State.releaseItem_pending (n : Nat) {o : Order} (h : o.state = .pending) :
    s.releaseItem n o = s.setQueue (s.book.queue.filter (· != n)) := by
  simp [State.releaseItem, h]

theorem State.releaseItem_stalled (n : Nat) {o : Order} (h : o.state = .stalled) : s.releaseItem n o = s := by
  simp [State.releaseItem, h]

theorem State.releaseItem_waiting (n : Nat) {o : Order} {copies : List Copy} {hold : List Nat}
    (h : o.state = .waitingCopy) (hw : s.titles.wf = true) (ht : s.title o.title = some (.braille copies hold)) :
    s.releaseItem n o = { s with titles := s.titles.put o.title (.braille copies (hold.filter (· != n))) } := by
  have halter := Table.alter_eq_put s.titles hw ht (fun t => t.leaveHold n)
  simp only [State.releaseItem, h, State.onTitle, halter]
  rfl

/-- R31: a copy that no order waits for stays on the shelf. -/
theorem State.shelve_of_no_hold {title : Nat} {copies : List Copy} (i : Nat) (hw : s.titles.wf = true)
    (ht : s.title title = some (.braille copies [])) :
    s.shelve title i = { s with titles := s.titles.put title (.braille (copies.set i .onShelf) []) } := by
  have halter := Table.alter_eq_put s.titles hw ht (fun t => t.setCopy i .onShelf)
  have hlook : (s.onTitle title (fun t => t.setCopy i .onShelf)).title title =
      some (.braille (copies.set i .onShelf) []) := by
    simp only [State.title, State.onTitle_titles, halter, Table.look_put_same]
    rfl
  simp only [State.shelve, hlook]
  simp only [State.onTitle, halter]
  rfl

theorem State.releaseItem_copy (n : Nat) {o : Order} {copies : List Copy} {i : Nat} (h : o.state = .ready)
    (hi : o.copy = some i) (hw : s.titles.wf = true) (ht : s.title o.title = some (.braille copies [])) :
    s.releaseItem n o = { s with titles := s.titles.put o.title (.braille (copies.set i .onShelf) []) } := by
  simp only [State.releaseItem, h, hi]
  exact s.shelve_of_no_hold i hw ht

theorem State.releaseItem_written (n : Nat) {o : Order} {c : Nat} (h : o.state = .ready) (hcopy : o.copy = none)
    (hbay : o.bay = none) (hc : o.serial = some c) : s.releaseItem n o =
      (s.onCart c (fun c => { c with state := .needsBlank, bound := .unbound })).joinBacklog c := by
  simp [State.releaseItem, h, hcopy, hbay, hc]

/-- Settles O32, state by state. -/
theorem cancelsReleaseTheItem : Obligations.CancelsReleaseTheItem := by
  intro s h n o p base ht hn ho hp hdef hcont hw hwt hbase
  have cancelled {t u : State} (hst : o.state ≠ .packed) (hitem : ((s.clocked h).dropOrder n).releaseItem n o = t)
      (hpat : t.patrons = s.patrons) (hord : t.book.orders = s.book.orders.drop n)
      (hu : t.onPatron o.patron Patron.lose = u) : exec (.orderCancel h n) s =
        .next (u.answered .orderCancel h .accepted [u3 o.patron, u1 (p.outstanding - 1)]) := by
    subst hu
    exact congrArg _ (request_answer ht
      (orderCancel_accepted (s.clocked h) hn ho hst hp hdef hcont hw hitem hpat hord))
  refine ⟨fun hst => ?_, fun hst => ?_, fun copies hold hst htt => ?_, fun copies i hst hi htt => ?_,
    fun c hst hcopy hbay hc => ?_,
    fun hst => congrArg _ (request_refuse ht (orderCancel_tooLate (s.clocked h) hn ho hst))⟩
  · exact cancelled (by simp [hst]) (State.releaseItem_pending _ n hst) rfl rfl (by subst hbase; rfl)
  · exact cancelled (by simp [hst]) (State.releaseItem_stalled _ n hst) rfl rfl (by subst hbase; rfl)
  · exact cancelled (by simp [hst]) (State.releaseItem_waiting _ n hst hwt htt) rfl rfl (by subst hbase; rfl)
  · exact cancelled (by simp [hst]) (State.releaseItem_copy _ n hst hi hwt htt) rfl rfl (by subst hbase; rfl)
  · exact cancelled (by simp [hst]) (State.releaseItem_written _ n hst hcopy hbay hc) rfl rfl (by subst hbase; rfl)

end Sys2Proof.Machine

/-! ### Cartridges blanked in place (4.4, 4.6) -/

namespace Sys2Proof.Machine

variable (s : State)

/-! #### The bays and the cartridges after one is changed -/

theorem State.bay_setBay_same {b : Nat} (h : b < s.bays.length) (r : Bay) : (s.setBay b r).bay b = r := by
  simp [State.bay, h]

theorem State.bay_setBay_other {a b : Nat} (h : a ≠ b) (r : Bay) : (s.setBay b r).bay a = s.bay a := by
  simp [State.bay, List.getElem?_set_ne (Ne.symm h)]

theorem State.cart_onCart_same (c : Nat) (f : Cartridge → Cartridge) : (s.onCart c f).cart c = (s.cart c).map f :=
  Table.look_alter_same _ _ _

theorem State.cart_onCart_other {a c : Nat} (h : a ≠ c) (f : Cartridge → Cartridge) :
    (s.onCart c f).cart a = s.cart a :=
  Table.look_alter_other _ _ h

theorem State.bay_congr {t : State} (h : s.bays = t.bays) (b : Nat) : s.bay b = t.bay b := by
  simp [State.bay, h]

theorem State.cart_congr {t : State} (h : s.carts = t.carts) (c : Nat) : s.cart c = t.cart c := by
  simp [State.cart, h]

/-! #### A job aborted (R73) -/

theorem State.abortJob_of_none {b : Nat} (h : (s.bay b).job = none) (keep : Bool) : s.abortJob b keep = s := by
  simp [State.abortJob, h]

theorem State.abortJob_bays {b : Nat} {j : Job} (h : (s.bay b).job = some j) : (s.abortJob b false).bays =
    (s.setBay b { s.bay b with job := none }).bays := by
  simp only [State.abortJob, h]
  split <;> simp

theorem State.bay_of_aborted {b : Nat} (hb : b < s.bays.length) : (s.abortJob b false).bay b = { s.bay b with job := none } := by
  cases hj : (s.bay b).job with
  | none =>
    rw [s.abortJob_of_none hj, ← hj]
  | some j =>
    rw [State.bay_congr _ (s.abortJob_bays hj)]
    exact s.bay_setBay_same hb _

theorem State.abortJob_rack {b : Nat} {j : Job} (h : (s.bay b).job = some j) (keep : Bool) :
    (s.abortJob b keep).rack = (s.rack.endEnrolment b).loseGrant b := by
  simp only [State.abortJob, h]
  split <;> simp

/-- R73: the cartridge of a WRITE job, and no other, loses its binding. -/
theorem State.abortJob_carts (b : Nat) (keep : Bool) : (s.abortJob b keep).carts = s.carts ∨
    ∃ c, (s.bay b).cartridge = some c ∧ (s.abortJob b keep).carts =
      { s.carts with table := s.carts.table.alter c (fun c => { c with state := .needsBlank, bound := .unbound }) } := by
  simp only [State.abortJob]
  split
  · exact .inl rfl
  · simp only [State.onRack_carts]
    split
    · next hc => exact .inr ⟨_, hc, rfl⟩
    · exact .inl rfl

/-- R90: no entry of the round enrols a bay whose enrolment has ended. -/
theorem Entry.leave_enrolled {e : Entry} {b : Nat} (h : (e.leave b).pair = b / 2) :
    (if b % 2 = 0 then (e.leave b).even else (e.leave b).odd) = false := by
  by_cases hp : e.pair = b / 2
  · by_cases hb : b % 2 = 0 <;> simp [Entry.leave, hp, hb]
  · simp [Entry.leave, hp] at h

/-- R92: a granted bay whose job is aborted has the mark of its grant at lost. -/
theorem Slot.lose_lost {sl : Slot} {b : Nat} (h : (sl.lose b).pair = b / 2) {g : Grant}
    (hg : g = (if b % 2 = 0 then (sl.lose b).even else (sl.lose b).odd)) (hpos : 0 < g.blocks) : g.lost = true := by
  have lose_lost : ∀ g : Grant, 0 < g.lose.blocks → g.lose.lost = true := by
    intro g hg
    by_cases h0 : g.blocks = 0 <;> simp_all [Grant.lose]
  by_cases hp : sl.pair = b / 2
  · by_cases hb : b % 2 = 0
    · simp only [Slot.lose, hp, hb, if_true] at hg
      exact hg ▸ lose_lost _ (hg ▸ hpos)
    · simp only [Slot.lose, hp, hb, if_true, if_false] at hg
      exact hg ▸ lose_lost _ (hg ▸ hpos)
  · simp [Slot.lose, hp] at h

/-- R90: after the abort no entry of the round enrols the bay. -/
theorem Scheduler.enrolled_of_aborted {r : Scheduler} {b : Nat} {rd : Round} {e : Entry}
    (hrd : rd ∈ ((r.endEnrolment b).loseGrant b).round) (he : e ∈ rd.entries) (hp : e.pair = b / 2) :
    (if b % 2 = 0 then e.even else e.odd) = false := by
  obtain ⟨rd, -, rfl⟩ := Option.map_eq_some_iff.1 hrd
  obtain ⟨e, -, rfl⟩ := List.mem_map.1 he
  exact Entry.leave_enrolled hp

/-- R92: after the abort the bay's grant, if it has one, is lost. -/
theorem Scheduler.lost_of_aborted {r : Scheduler} {b : Nat} {sl : Slot} {g : Grant}
    (hsl : sl ∈ ((r.endEnrolment b).loseGrant b).slot) (hp : sl.pair = b / 2)
    (hg : g = (if b % 2 = 0 then sl.even else sl.odd)) (hpos : 0 < g.blocks) : g.lost = true := by
  obtain ⟨sl, -, rfl⟩ := Option.map_eq_some_iff.1 hsl
  exact Slot.lose_lost hp hg hpos

/-- An abort leaves the rack's state, and whether a slot is outstanding. -/
theorem State.abortJob_rack_state (b : Nat) (keep : Bool) : (s.abortJob b keep).rack.state = s.rack.state ∧
    (s.abortJob b keep).rack.slot.isSome = s.rack.slot.isSome := by
  cases hj : (s.bay b).job with
  | none => simp [s.abortJob_of_none hj]
  | some j => simp [s.abortJob_rack hj, Scheduler.loseGrant, Scheduler.endEnrolment]

/-! #### A BLANK job in place (R66) -/

/-- R66: a cartridge whose extent is to be blanked in the bay that holds it. -/
def Cartridge.dirtied (k : Cartridge) : Cartridge :=
  { k with state := .needsBlank, bound := .unbound }

/-- R66: the bay with a BLANK job over an extent. -/
def Bay.blanks (r : Bay) (extent : Nat) : Bay :=
  { r with state := .blanking, job := some ⟨.blank, extent, extent⟩ }

section InPlace
variable {b c : Nat} {k : Cartridge} (hc : (s.bay b).cartridge = some c) (hk : s.cart c = some k)
include hc

/-- The abort and the marking of the cartridge, which come before the BLANK job. -/
theorem State.carts_of_aborted : ((s.abortJob b false).onCart c Cartridge.dirtied).carts =
    (s.onCart c Cartridge.dirtied).carts := by
  have twice : ∀ t : Table Cartridge, (t.alter c Cartridge.dirtied).alter c Cartridge.dirtied =
      t.alter c Cartridge.dirtied := by
    intro t
    simp only [Table.alter, Table.mapRecords, List.map_map]
    refine List.map_congr_left (fun e _ => ?_)
    by_cases he : e.1 = c <;> simp [he, Cartridge.dirtied]
  rcases s.abortJob_carts b false with h | ⟨d, hd, h⟩
  · simp [h]
  · cases hc.symm.trans hd
    simp only [State.onCart_carts, h]
    exact congrArg (fun t => { s.carts with table := t }) (twice s.carts.table)

include hk

theorem State.blankInPlace_eq : s.blankInPlace b =
    ((s.abortJob b false).onCart c Cartridge.dirtied).startJob b .blank (units32 k.dirty) := by
  have hcart : ((s.abortJob b false).onCart c Cartridge.dirtied).cart c = some k.dirtied := by
    rw [State.cart_congr _ (s.carts_of_aborted hc), State.cart_onCart_same, hk]
    rfl
  unfold State.blankInPlace
  rw [hc]
  dsimp only
  change State.startJob ((s.abortJob b false).onCart c Cartridge.dirtied) b .blank _ = _
  rw [show ((s.abortJob b false).onCart c (fun c => { c with state := .needsBlank, bound := .unbound })).cart c =
    some k.dirtied from hcart]
  rfl

theorem State.blankInPlace_carts : (s.blankInPlace b).carts = (s.onCart c Cartridge.dirtied).carts := by
  rw [s.blankInPlace_eq hc hk, ← s.carts_of_aborted hc]
  rfl

theorem State.blankInPlace_rack : (s.blankInPlace b).rack = (s.abortJob b false).rack := by
  rw [s.blankInPlace_eq hc hk]
  rfl

variable (hb : b < s.bays.length)
include hb

theorem State.blankInPlace_bays : (s.blankInPlace b).bays =
    s.bays.set b ((s.bay b).blanks (units32 k.dirty)) := by
  have hbay := s.bay_of_aborted hb
  have hset : (s.blankInPlace b).bays =
      (s.abortJob b false).bays.set b (((s.abortJob b false).bay b).blanks (units32 k.dirty)) := by
    rw [s.blankInPlace_eq hc hk]
    rfl
  rw [hset, hbay]
  cases hj : (s.bay b).job with
  | none => rw [s.abortJob_of_none hj]; rfl
  | some j => rw [s.abortJob_bays hj, State.setBay_bays, List.set_set]; rfl

theorem State.blankInPlace_ports : (s.blankInPlace b).ports =
    (s.raise .rack .bayJob b [u1 2, u3 (units32 k.dirty), u4 c]).ports := by
  have hbay := s.bay_of_aborted hb
  have hport : (s.blankInPlace b).ports = ((s.abortJob b false).raise .rack .bayJob b
      ([u1 2, u3 (units32 k.dirty), u4 (orZero ((s.abortJob b false).bay b).cartridge)] ++ [])).ports := by
    rw [s.blankInPlace_eq hc hk]
    rfl
  rw [hport, hbay]
  simp [hc, orZero]

end InPlace

/-- R16: a cancel of an order whose cartridge is in a bay blanks it there. -/
theorem State.releaseItem_inBay (n : Nat) {o : Order} {b : Nat} (hbay : o.bay = some b)
    (h : o.state = .writing ∨ o.state = .verifying ∨ (o.state = .ready ∧ o.copy = none)) :
    s.releaseItem n o = s.blankInPlace b := by
  rcases h with h | h | ⟨h, hcopy⟩
  · simp [State.releaseItem, h, hbay, orZero]
  · simp [State.releaseItem, h, hbay, orZero]
  · simp [State.releaseItem, h, hcopy, hbay]

/-- Settles O33. -/
theorem cancelsBlankInPlace : Obligations.CancelsBlankInPlace := by
  intro s h n b c o p k r ht hn ho hbay hb32 hlen hr hc hst hk hp hdef hcont hw extent hext
  subst hr
  have hext : extent = units32 k.dirty := hext
  subst hext
  have hb : b < s.bays.length := hlen ▸ hb32
  have hne : o.state ≠ .packed := by rcases hst with ⟨hst | hst, -⟩ | ⟨hst, -⟩ <;> simp [hst]
  have hitem := ((s.clocked h).dropOrder n).releaseItem_inBay n hbay (by tauto)
  have hbays := State.blankInPlace_bays ((s.clocked h).dropOrder n) hc hk hb
  have hcarts := State.blankInPlace_carts ((s.clocked h).dropOrder n) hc hk
  have hrack := State.blankInPlace_rack ((s.clocked h).dropOrder n) hc hk
  have hports := State.blankInPlace_ports ((s.clocked h).dropOrder n) hc hk hb
  generalize hu : ((s.clocked h).dropOrder n).blankInPlace b = u at hitem hbays hcarts hrack hports
  have hframe := ((s.clocked h).dropOrder n).blankInPlace_frame b
  rw [hu] at hframe
  obtain ⟨-, -, hpat, hbook, htitles, hclock, hpacking, hloans, hlane⟩ := hframe
  have haborted : ∀ j, (s.bay b).job = some j →
      (u.onPatron o.patron Patron.lose).rack = (s.rack.endEnrolment b).loseGrant b := fun j hj =>
    hrack.trans (State.abortJob_rack ((s.clocked h).dropOrder n) hj false)
  have hcancel := orderCancel_accepted (s.clocked h) hn ho hne hp hdef hcont hw hitem hpat (by rw [hbook]; rfl)
  refine ⟨u.onPatron o.patron Patron.lose, congrArg _ (request_answer ht hcancel), ?_, fun m hm => ?_, ?_, ?_,
    fun a ha => ?_, ?_, fun a ha => ?_, ?_, ?_, fun hjob rd hrd e he hpair => ?_,
    fun hjob sl hsl hpair g hg hpos => ?_, fun hjob => ?_, ?_, ?_, hports, htitles, hclock, hpacking, hloans, hlane⟩
  · exact (congrArg (fun k : OrderBook => k.orders.look n) hbook).trans (Table.look_drop_same _ _)
  · exact (congrArg (fun k : OrderBook => k.orders.look m) hbook).trans (Table.look_drop_other _ hm)
  · exact (congrArg OrderBook.queue hbook).trans rfl
  · exact (State.bay_congr _ hbays b).trans (State.bay_setBay_same s hb _)
  · exact (State.bay_congr _ hbays a).trans (State.bay_setBay_other s ha _)
  · exact (State.cart_congr _ hcarts c).trans ((State.cart_onCart_same s c _).trans (congrArg _ hk))
  · exact (State.cart_congr _ hcarts a).trans (State.cart_onCart_other s ha _)
  · exact (congrArg CartridgeStore.pool hcarts).trans rfl
  · exact (congrArg CartridgeStore.backlog hcarts).trans rfl
  · obtain ⟨j, hj⟩ := Option.ne_none_iff_exists'.1 hjob
    exact Scheduler.enrolled_of_aborted (haborted j hj ▸ hrd) he hpair
  · obtain ⟨j, hj⟩ := Option.ne_none_iff_exists'.1 hjob
    exact Scheduler.lost_of_aborted (haborted j hj ▸ hsl) hpair hg hpos
  · have hkept := State.abortJob_of_none ((s.clocked h).dropOrder n) hjob false
    rw [hkept] at hrack
    exact hrack
  · exact (congrArg Scheduler.state hrack).trans (State.abortJob_rack_state _ b false).1
  · exact (congrArg (fun k => k.slot.isSome) hrack).trans (State.abortJob_rack_state _ b false).2

end Sys2Proof.Machine

/-! ### Cartridge orders created (1.6) and assigned (4.3) -/

namespace Sys2Proof.Machine

/-! #### The number assigned (R7) -/

theorem freeFrom_eq_candidate {α : Type} (last : Nat) (t : Table α) (fuel n : Nat) :
    ∃ k, freeFrom last t fuel n = candidate last n k ∧ ∀ j < k, t.has (candidate last n j) = true := by
  induction fuel generalizing n with
  | zero => exact ⟨0, rfl, by simp⟩
  | succ fuel ih =>
    unfold freeFrom
    split
    · next hn =>
      obtain ⟨k, hk, htaken⟩ := ih (nextNumber last n)
      refine ⟨k + 1, hk.trans (candidate_succ last n k).symm, fun j hj => ?_⟩
      cases j with
      | zero => exact hn
      | succ j => exact candidate_succ last n j ▸ htaken j (Nat.lt_of_succ_lt_succ hj)
    · exact ⟨0, rfl, by simp⟩

/-- R7: the number assigned is the first free one from the counter on. -/
theorem assignNumber_firstFree {α : Type} {last : Nat} (t : Table α) {n : Nat} (h1 : 1 ≤ n) (h2 : n ≤ last)
    (hlen : t.length < last) : FirstFree last t n (assignNumber last t n) := by
  have hlast : 1 ≤ last := h1.trans h2
  obtain ⟨k, hk, htaken⟩ := freeFrom_eq_candidate last t t.length n
  refine ⟨k, hk.trans (candidate_eq hlast h1 h2 k), assignNumber_free t h1 h2 hlen, fun j hj => ?_⟩
  exact candidate_eq hlast h1 h2 j ▸ htaken j hj

/-! #### The order's record and its place in the queue -/

variable (s : State)

/-- R109: an order that enters the book under a free number leaves every tag as it was. -/
theorem changedTags_of_new {start now : Table Order} {n : Nat} (hfree : start.look n = none) (hw : now.wf = true)
    (hsame : ∀ m, m ≠ n → now.look m = start.look m) : changedTags start now = [] := by
  refine changedTags_eq_nil (fun e he o ho => ?_)
  have hne : e.1 ≠ n := fun h => by simp [h, hfree] at ho
  have hnow := Table.look_of_mem _ hw he
  cases (hnow.symm.trans (hsame _ hne)).trans ho
  exact tagChanged_self _

/-- R9: the class of an order, as its record gives it. -/
theorem State.isRush_eq (m : Nat) :
    s.isRush m = (s.book.orders.look m).any (fun o => decide (o.priority = .rush)) := by
  unfold State.isRush State.order
  cases s.book.orders.look m <;> rfl

theorem priorityOf_isRush (pr : Nat) : decide (priorityOf pr = .rush) = decide (pr = 1) := by
  by_cases h : pr = 1 <;> simp [priorityOf, h]

theorem State.createOrder_cartridge {title size : Nat} {sel : Selector} (ht : s.title title = some (.cartridge size sel))
    (n : Nat) (pr : Priority) : s.createOrder n title pr =
      (s.enterOrder s.nextOrder n title .cartridge pr).joinPending s.nextOrder := by
  unfold State.createOrder
  rw [ht]
  rfl

/-! #### The assignment of an order to a bay (R65) -/

/-- R65: the cartridge that an order of an image of `size` blocks takes in its bay. -/
def Cartridge.takes (k : Cartridge) (n size : Nat) : Cartridge :=
  { k with state := .inBay, bound := .order n, writes := min maxWrites (k.writes + 1), dirty := size }

/-- R65: the bay with the WRITE job of an order. -/
def Bay.writes (r : Bay) (n size : Nat) (sel : Selector) : Bay :=
  { r with state := .writing, job := some ⟨.write n sel, size, size⟩ }

/-- R65: the order seated in a bay, before its projection. -/
def Order.seat (o : Order) (b c : Nat) : Order :=
  { o with state := .writing, bay := some b, serial := some c }

/-- Table 6-1: a WRITING order's projection changes its ready second and its tag alone. -/
theorem State.writingForm_fields (t : Nat) (o : Order) :
    ∃ q tag, s.writingForm t o = { o with ready := some q, tag := tag } := by
  unfold State.writingForm State.runningForm
  split
  · split
    · exact ⟨_, _, rfl⟩
    · exact ⟨_, _, rfl⟩
  · exact ⟨_, _, rfl⟩

section Assign
variable {n b c size : Nat} {o : Order} {sel : Selector} (ho : s.order n = some o)
  (hc : (s.bay b).cartridge = some c) (ht : s.title o.title = some (.cartridge size sel))
include ho hc ht

theorem State.assign_eq : ∃ u : State, s.assign n b =
      (((((s.setQueue (s.book.queue.filter (· != n))).onOrder n (fun o => o.seat b c)).onCart c
        (fun k => k.takes n size)).startJob b (.write n sel) size).onOrder n (fun o => u.writingForm u.roundTime o)) := by
  unfold State.assign
  rw [ho, hc]
  dsimp only
  rw [ht]
  exact ⟨_, rfl⟩

theorem State.assign_queue : (s.assign n b).book.queue = s.book.queue.filter (· != n) := by
  obtain ⟨u, hu⟩ := s.assign_eq ho hc ht
  rw [hu]
  rfl

theorem State.assign_order_same :
    ∃ q tag, (s.assign n b).order n = some { o.seat b c with ready := some q, tag := tag } := by
  obtain ⟨u, hu⟩ := s.assign_eq ho hc ht
  obtain ⟨q, tag, hform⟩ := u.writingForm_fields u.roundTime (o.seat b c)
  refine ⟨q, tag, ?_⟩
  rw [hu, ← hform]
  have hlook : s.book.orders.look n = some o := ho
  simp [State.order, State.startJob, hlook]

theorem State.assign_order_other {m : Nat} (hm : m ≠ n) : (s.assign n b).order m = s.order m := by
  obtain ⟨u, hu⟩ := s.assign_eq ho hc ht
  rw [hu]
  simp [State.order, State.startJob, Table.look_alter_other _ _ hm]

theorem State.assign_wf (hw : s.book.orders.wf = true) : (s.assign n b).book.orders.wf = true := by
  obtain ⟨u, hu⟩ := s.assign_eq ho hc ht
  rw [hu]
  simp [State.startJob, Table.alter, hw]

theorem State.assign_bays : (s.assign n b).bays = (s.setBay b ((s.bay b).writes n size sel)).bays := by
  obtain ⟨u, hu⟩ := s.assign_eq ho hc ht
  rw [hu]
  rfl

theorem State.assign_carts : (s.assign n b).carts = (s.onCart c (fun k => k.takes n size)).carts := by
  obtain ⟨u, hu⟩ := s.assign_eq ho hc ht
  rw [hu]
  rfl

end Assign

theorem State.arbiterLoop_of_no_order (h : s.book.queue = []) (fuel : Nat) : State.arbiterLoop fuel s = s := by
  cases fuel with
  | zero => rfl
  | succ fuel => simp only [State.arbiterLoop, h]

/-- R64: one order waits and a bay is ARMED, so one assignment is made. -/
theorem State.arbiterLoop_of_one {n b : Nat} {rest : List Nat} (hq : s.book.queue = [n]) (hb : s.armedBays = b :: rest)
    (hdone : (s.assign n b).book.queue = []) (fuel : Nat) : State.arbiterLoop (fuel + 1) s = s.assign n b := by
  simp only [State.arbiterLoop, hq, hb]
  exact State.arbiterLoop_of_no_order _ hdone fuel

theorem State.arbiter_of_one {n b : Nat} {rest : List Nat} (hq : s.book.queue = [n]) (hb : s.armedBays = b :: rest)
    (hdone : (s.assign n b).book.queue = []) : s.arbiter = s.assign n b :=
  s.arbiterLoop_of_one hq hb hdone 31

/-- R64: the lowest ARMED bay heads the list of them. -/
theorem State.armedBays_of_lowest {b : Nat} (hb : b < bayCount) (harmed : (s.bay b).state = .armed)
    (hlow : ∀ a < b, (s.bay a).state ≠ .armed) : ∃ rest, s.armedBays = b :: rest := by
  obtain ⟨k, hk⟩ := Nat.exists_eq_add_of_lt hb
  have hbelow : (List.range b).filter (fun b => decide ((s.bay b).state = .armed)) = [] :=
    List.filter_eq_nil_iff.2 (by simpa using hlow)
  have hsplit : List.range bayCount = List.range b ++ b :: (List.range k).map (fun i => b + (i + 1)) := by
    rw [hk, Nat.add_assoc, List.range_add, List.range_succ_eq_map]
    simp
  rw [State.armedBays, hsplit, List.filter_append, hbelow, List.nil_append,
    List.filter_cons_of_pos (by simpa using harmed)]
  exact ⟨_, rfl⟩

/-! #### ORDER_PLACE of a cartridge title -/

section Placed
variable {patron title size : Nat} {sel : Selector} {pr : Priority}

/-- R13: the book and the patrons once the order is entered. -/
theorem State.enterOrder_order_same (n : Nat) (f : Format) :
    (s.enterOrder n patron title f pr).order n = some (s.newOrder patron title f pr) :=
  Table.look_put_same _ _ _

theorem State.enterOrder_order_other {n m : Nat} (hm : m ≠ n) (f : Format) :
    (s.enterOrder n patron title f pr).order m = s.order m :=
  Table.look_put_other _ _ hm

end Placed

theorem nextNumber_eq (n : Nat) (h : n ≤ 65535) : nextNumber maxNumber n = if n = 65535 then 1 else n + 1 := by
  unfold nextNumber maxNumber
  by_cases hn : n = 65535
  · simp [hn]
  · simp [hn, show ¬ 65535 ≤ n by omega]

/-- R9: a new order behind the others of its class, the class read from its priority. -/
theorem State.joinTail_enterOrder (n patron title pr : Nat) (f : Format) {rush : Nat → Bool}
    (hrush : rush = (s.enterOrder n patron title f (priorityOf pr)).isRush) (q : List Nat) :
    joinTail rush n q = if pr = 1 then q.takeWhile rush ++ n :: q.dropWhile rush else q ++ [n] := by
  have hn : rush n = decide (pr = 1) := by
    rw [hrush, ← priorityOf_isRush pr]
    simp [State.isRush, s.enterOrder_order_same n f, State.newOrder]
  by_cases hpr : pr = 1 <;> simp [joinTail, hn, hpr]

/-- R13, R64: with no bay ARMED a new cartridge order waits in the queue. -/
theorem State.createOrder_waits {title size : Nat} {sel : Selector} (ht : s.title title = some (.cartridge size sel))
    (hbays : ∀ b < 32, (s.bay b).state ≠ .armed) (patron : Nat) (pr : Priority) : s.createOrder patron title pr =
      (s.enterOrder s.nextOrder patron title .cartridge pr).setQueue
        (joinTail (s.enterOrder s.nextOrder patron title .cartridge pr).isRush s.nextOrder s.book.queue) := by
  rw [s.createOrder_cartridge ht]
  exact State.joinPending_of_no_bay (s.enterOrder s.nextOrder patron title .cartridge pr) hbays _

/-- R109: a new cartridge order that waits changes no tag. -/
theorem State.settle_createOrder_waits {title size : Nat} {sel : Selector} (ht : s.title title = some (.cartridge size sel))
    (hbays : ∀ b < 32, (s.bay b).state ≠ .armed) (hfree : s.book.orders.look s.nextOrder = none)
    (hw : s.book.orders.wf = true) (patron : Nat) (pr : Priority) :
    (s.createOrder patron title pr).settle s.book.orders = s.createOrder patron title pr := by
  refine State.settle_of_none _ ?_
  rw [s.createOrder_waits ht hbays]
  exact changedTags_of_new hfree (Table.wf_put _ _ _ hw) (fun m hm => Table.look_put_other _ _ hm)

/-- R64, R65: with a bay ARMED and no order waiting, a new cartridge order is assigned to the lowest ARMED bay. -/
theorem State.createOrder_assigned {title size b c : Nat} {sel : Selector}
    (ht : s.title title = some (.cartridge size sel)) (hq : s.book.queue = []) (hb : b < 32)
    (harmed : (s.bay b).state = .armed) (hlow : ∀ a < b, (s.bay a).state ≠ .armed)
    (hc : (s.bay b).cartridge = some c) (patron : Nat) (pr : Priority) : s.createOrder patron title pr =
      ((s.enterOrder s.nextOrder patron title .cartridge pr).setQueue [s.nextOrder]).assign s.nextOrder b := by
  have hwait : joinTail (s.enterOrder s.nextOrder patron title .cartridge pr).isRush s.nextOrder s.book.queue =
      [s.nextOrder] := by
    rw [hq]
    by_cases hr : (s.enterOrder s.nextOrder patron title .cartridge pr).isRush s.nextOrder <;> simp [joinTail, hr]
  rw [s.createOrder_cartridge ht, State.joinPending]
  change (State.setQueue _ (joinTail _ _ s.book.queue)).arbiter = _
  rw [hwait]
  obtain ⟨rest, hrest⟩ := State.armedBays_of_lowest
    ((s.enterOrder s.nextOrder patron title .cartridge pr).setQueue [s.nextOrder]) hb harmed hlow
  refine State.arbiter_of_one _ rfl hrest ?_
  have hqueue := State.assign_queue ((s.enterOrder s.nextOrder patron title .cartridge pr).setQueue [s.nextOrder])
    (s.enterOrder_order_same _ _) hc ht
  rw [hqueue]
  simp

/-- R13, R64, R65: what a new cartridge order assigned at once leaves: its record, its bay, its cartridge. -/
theorem State.createOrder_armed {title size b c : Nat} {sel : Selector} {k : Cartridge}
    (ht : s.title title = some (.cartridge size sel)) (hq : s.book.queue = []) (hb : b < 32)
    (hlen : s.bays.length = 32) (harmed : (s.bay b).state = .armed) (hlow : ∀ a < b, (s.bay a).state ≠ .armed)
    (hc : (s.bay b).cartridge = some c) (hk : s.cart c = some k) (hw : s.book.orders.wf = true)
    (hfree : s.book.orders.look s.nextOrder = none) (patron : Nat) (pr : Priority) :
    ∃ t, (s.createOrder patron title pr).settle s.book.orders = t ∧ t.book.queue = [] ∧
      t.patrons = s.patrons.alter patron Patron.gain ∧
      (∃ q tag, t.order s.nextOrder = some { (s.newOrder patron title .cartridge pr).seat b c with
        ready := some q, tag := tag }) ∧
      (∀ m, m ≠ s.nextOrder → t.order m = s.order m) ∧
      t.bay b = (s.bay b).writes s.nextOrder size sel ∧ (∀ a, a ≠ b → t.bay a = s.bay a) ∧
      t.cart c = some (k.takes s.nextOrder size) ∧ (∀ a, a ≠ c → t.cart a = s.cart a) ∧
      t.titles = s.titles ∧ t.rack = s.rack ∧ t.clock = s.clock ∧ t.packing = s.packing ∧ t.loans = s.loans ∧
      t.lane = s.lane ∧ t.pending = s.pending := by
  have hcreate := s.createOrder_assigned ht hq hb harmed hlow hc patron pr
  generalize hu : (s.enterOrder s.nextOrder patron title .cartridge pr).setQueue [s.nextOrder] = u at hcreate
  have ho : u.order s.nextOrder = some (s.newOrder patron title .cartridge pr) :=
    hu ▸ s.enterOrder_order_same _ _
  have huc : (u.bay b).cartridge = some c := hu ▸ hc
  have hut : u.title title = some (.cartridge size sel) := hu ▸ ht
  have hsame : ∀ m, m ≠ s.nextOrder → (u.assign s.nextOrder b).order m = s.order m := fun m hm =>
    (u.assign_order_other ho huc hut hm).trans (hu ▸ s.enterOrder_order_other hm _)
  have hsettle : (u.assign s.nextOrder b).settle s.book.orders = u.assign s.nextOrder b :=
    State.settle_of_none _ (changedTags_of_new hfree
      (u.assign_wf ho huc hut (hu ▸ Table.wf_put _ _ _ hw)) hsame)
  have hqueue := u.assign_queue ho huc hut
  have hbays := u.assign_bays ho huc hut
  have hcarts := u.assign_carts ho huc hut
  have hrecord := u.assign_order_same ho huc hut
  obtain ⟨hpend, -, hpat, htitles, hrack, hclock, hpacking, hloans, hlane⟩ := u.assign_frame s.nextOrder b
  subst hu
  refine ⟨_, (congrArg (fun v => State.settle v s.book.orders) hcreate).trans hsettle, ?_, hpat, hrecord, hsame, ?_,
    fun a ha => ?_, ?_, fun a ha => ?_, htitles, hrack, hclock, hpacking, hloans, hlane, hpend⟩
  · rw [hqueue]
    simp
  · exact (State.bay_congr _ hbays b).trans (State.bay_setBay_same _ (show b < s.bays.length from hlen ▸ hb) _)
  · exact (State.bay_congr _ hbays a).trans (State.bay_setBay_other _ ha _)
  · exact (State.cart_congr _ hcarts c).trans ((State.cart_onCart_same _ c _).trans (congrArg _ hk))
  · exact (State.cart_congr _ hcarts a).trans (State.cart_onCart_other _ ha _)

/-- Settles O30: the number is the first free one, and the arbiter assigns the order where a bay is ARMED. -/
theorem cartridgeOrdersJoinTheQueue : Obligations.CartridgeOrdersJoinTheQueue := by
  intro s h patron title priority size sel p ht hn htt hpr hp htitle hnew hdef hcauses hcap hlen hw hc1 hc2
  have hfirst : FirstFree 65535 s.book.orders s.book.counter (s.clocked h).nextOrder :=
    assignNumber_firstFree s.book.orders hc1 hc2 (by omega)
  have hrange : (s.clocked h).nextOrder ≤ 65535 := (assignNumber_range s.book.orders hc1 hc2).2
  obtain ⟨-, -, hfree, -⟩ := id hfirst
  have hcounter := nextNumber_eq _ hrange
  have hplace : orderPlace patron title priority (s.clocked h) = _ :=
    orderPlace_accepted hn htt hpr hp (fun hnone => Option.some_ne_none _ (htitle.symm.trans hnone)) hnew
      ((State.hasRoom_iff _).2 ⟨hcap, hlen⟩) (by simp [hcauses, Causes.any]) hdef
  refine ⟨(s.clocked h).nextOrder, hfirst, ?_⟩
  rintro prio orders rush patrons rfl rfl rfl rfl
  refine ⟨fun hbays => ?_, fun b r c k hq hb hlen32 hr harmed hlow hc hk => ?_⟩
  · have hsettle := (s.clocked h).settle_createOrder_waits htitle hbays hfree hw patron (priorityOf priority)
    have hcreate := (s.clocked h).createOrder_waits htitle hbays patron (priorityOf priority)
    have hrush := funext (State.isRush_eq ((s.clocked h).enterOrder (s.clocked h).nextOrder patron title .cartridge
      (priorityOf priority)))
    have hjoin := (s.clocked h).joinTail_enterOrder (s.clocked h).nextOrder patron title priority .cartridge hrush.symm
      (s.clocked h).book.queue
    refine congrArg _ ((request_taken ht).trans ?_)
    rw [hplace, hsettle, hcreate, hrush, hjoin, ← hcounter]
    rfl
  · subst hr
    obtain ⟨t, hsettle, hfacts⟩ := (s.clocked h).createOrder_armed htitle hq hb hlen32 harmed hlow hc hk hw hfree patron
      (priorityOf priority)
    refine ⟨t, congrArg _ ((request_taken ht).trans ?_), hfacts⟩
    rw [hplace, hsettle]

end Sys2Proof.Machine

/-! ### Braille orders created (1.6, 2.4) -/

namespace Sys2Proof.Machine

variable (s : State)

/-- R30: the lowest-indexed copy on the shelf. -/
theorem lowestOnShelf_eq_some {copies : List Copy} {i : Nat} (hi : i < copies.length)
    (hon : copies.getD i .absent = .onShelf) (hlow : ∀ j < i, copies.getD j .absent ≠ .onShelf) :
    lowestOnShelf copies = some i := by
  refine List.findIdx?_eq_some_iff_getElem.2 ⟨hi, ?_, fun j hj => ?_⟩
  · simpa [hi] using hon
  · simpa [hj.trans hi] using hlow j hj

theorem lowestOnShelf_eq_none {copies : List Copy} (h : ∀ c ∈ copies, c ≠ .onShelf) : lowestOnShelf copies = none := by
  simpa [lowestOnShelf] using h

theorem State.allocate_order_other (title i : Nat) {n m : Nat} (hm : m ≠ n) :
    (s.allocate title i n).order m = s.order m := by
  simp [State.allocate, State.order, Table.look_alter_other _ _ hm]

theorem State.allocate_title_other {title m : Nat} (i n : Nat) (hm : m ≠ title) :
    (s.allocate title i n).title m = s.title m := by
  simp [State.allocate, State.title, Table.look_alter_other _ _ hm]

theorem State.allocate_wf (title i n : Nat) (hw : s.book.orders.wf = true) :
    (s.allocate title i n).book.orders.wf = true := by
  simp [State.allocate, Table.alter, hw]

/-- R13: the record of a new braille order that a copy is allocated to (R30, R103). -/
def State.pickedOrder (s : State) (patron title : Nat) (pr : Priority) (i : Nat) : Order :=
  { s.newOrder patron title .braille pr with
    state := .ready, copy := some i, ready := some s.clock.second, tag := s.clock.tagOf s.clock.second }

section Created
variable {title : Nat} {copies : List Copy} {hold : List Nat} (ht : s.title title = some (.braille copies hold))
  (patron : Nat) (pr : Priority)
include ht

theorem State.createOrder_picked {i : Nat} (hi : lowestOnShelf copies = some i) : s.createOrder patron title pr =
    (s.enterOrder s.nextOrder patron title .braille pr).allocate title i s.nextOrder := by
  unfold State.createOrder
  rw [ht]
  dsimp only
  rw [hi]
  rfl

theorem State.createOrder_held (hi : lowestOnShelf copies = none) : s.createOrder patron title pr =
    (s.enterOrder s.nextOrder patron title .braille pr).onTitle title
      (Title.joinHold (s.enterOrder s.nextOrder patron title .braille pr).isRush s.nextOrder) := by
  unfold State.createOrder
  rw [ht]
  dsimp only
  rw [hi]
  rfl

/-- R30, R32: the copy, the order and the notice. -/
theorem State.createOrder_picked_spec {i : Nat} (hi : lowestOnShelf copies = some i) :
    (s.createOrder patron title pr).title title =
      some (.braille (copies.set i (.allocated s.nextOrder)) (hold.filter (· != s.nextOrder))) ∧
    (s.createOrder patron title pr).order s.nextOrder = some (s.pickedOrder patron title pr i) ∧
    (s.createOrder patron title pr).ports = (s.raise .mail .pick s.nextOrder [u4 title, u1 i]).ports := by
  rw [s.createOrder_picked ht patron pr hi]
  refine ⟨?_, ?_, rfl⟩
  · have hlook : (s.enterOrder s.nextOrder patron title .braille pr).titles.look title = some (.braille copies hold) := ht
    simp only [State.allocate, State.title, State.raise_titles, State.onOrder_titles, State.onTitle_titles,
      Table.look_alter_same, hlook]
    rfl
  · have hlook : (s.enterOrder s.nextOrder patron title .braille pr).order s.nextOrder =
        some (s.newOrder patron title .braille pr) := s.enterOrder_order_same s.nextOrder .braille
    simp only [State.order] at hlook
    simp only [State.allocate, State.order, State.raise_book, State.onOrder_book, State.onTitle_book,
      Table.look_alter_same, hlook]
    rfl

/-- R29: with no copy on the shelf the order waits in the hold queue. -/
theorem State.createOrder_held_spec (hi : lowestOnShelf copies = none) :
    (s.createOrder patron title pr).title title =
      some (.braille copies (joinTail (s.createOrder patron title pr).isRush s.nextOrder hold)) ∧
    (s.createOrder patron title pr).order s.nextOrder = some (s.newOrder patron title .braille pr) ∧
    (s.createOrder patron title pr).ports = s.ports := by
  rw [s.createOrder_held ht patron pr hi]
  refine ⟨?_, s.enterOrder_order_same _ _, rfl⟩
  have hlook : (s.enterOrder s.nextOrder patron title .braille pr).titles.look title = some (.braille copies hold) := ht
  simp only [State.title, State.onTitle_titles, Table.look_alter_same, hlook]
  rfl

/-- What the creation of a braille order leaves as it was. -/
theorem State.createOrder_braille_frame :
    (∀ m, m ≠ s.nextOrder → (s.createOrder patron title pr).order m = s.order m) ∧
    (s.book.orders.wf = true → (s.createOrder patron title pr).book.orders.wf = true) ∧
    (∀ m, m ≠ title → (s.createOrder patron title pr).title m = s.title m) ∧
    (s.createOrder patron title pr).carts = s.carts ∧ (s.createOrder patron title pr).bays = s.bays ∧
    (s.createOrder patron title pr).book.queue = s.book.queue := by
  cases hi : lowestOnShelf copies with
  | none =>
    rw [s.createOrder_held ht patron pr hi]
    exact ⟨fun m hm => s.enterOrder_order_other hm _, fun hw => Table.wf_put _ _ _ hw,
      fun m hm => Table.look_alter_other _ _ hm, rfl, rfl, rfl⟩
  | some i =>
    rw [s.createOrder_picked ht patron pr hi]
    exact ⟨fun m hm => (State.allocate_order_other _ _ _ hm).trans (s.enterOrder_order_other hm _),
      fun hw => State.allocate_wf _ _ _ _ (Table.wf_put _ _ _ hw), fun m hm => State.allocate_title_other _ _ _ hm,
      rfl, rfl, rfl⟩

end Created

/-- Settles O31. -/
theorem brailleOrdersTakeACopyOrWait : Obligations.BrailleOrdersTakeACopyOrWait := by
  intro s h patron title priority copies hold p ht hn htt hpr hp htitle _ hnew hdef hcauses hcap hlen hw hc1 hc2
  have hfirst : FirstFree 65535 s.book.orders s.book.counter (s.clocked h).nextOrder :=
    assignNumber_firstFree s.book.orders hc1 hc2 (by omega)
  obtain ⟨-, -, hfree, -⟩ := id hfirst
  have hplace : orderPlace patron title priority (s.clocked h) = _ :=
    orderPlace_accepted hn htt hpr hp (fun hnone => Option.some_ne_none _ (htitle.symm.trans hnone)) hnew
      ((State.hasRoom_iff _).2 ⟨hcap, hlen⟩) (by simp [hcauses, Causes.any]) hdef
  obtain ⟨hsame, hwf, hothers, hcarts, hbays, hqueue⟩ :=
    (s.clocked h).createOrder_braille_frame htitle patron (priorityOf priority)
  obtain ⟨hpend, -, hrack, hclock, hpacking, hloans, hlane⟩ :=
    (s.clocked h).createOrder_frame patron title (priorityOf priority)
  have hpat := (s.clocked h).createOrder_patrons htitle patron (priorityOf priority)
  have hsettle := State.settle_of_none _ (changedTags_of_new hfree (hwf hw) hsame)
  refine ⟨(s.clocked h).nextOrder, (s.clocked h).createOrder patron title (priorityOf priority),
    congrArg _ ((request_taken ht).trans ?_), hfirst, hsame, hpat, fun i hi hon hlow => ?_, fun hnone => ?_, hothers,
    hcarts, hbays, hrack, hclock, hpacking, hloans, hlane, hpend, hqueue⟩
  · rw [hplace, show ((s.clocked h).createOrder patron title (priorityOf priority)).settle (s.clocked h).book.orders =
      _ from hsettle]
  · exact (s.clocked h).createOrder_picked_spec htitle patron _ (lowestOnShelf_eq_some hi hon hlow)
  · exact (s.clocked h).createOrder_held_spec htitle patron _ (lowestOnShelf_eq_none hnone)

end Sys2Proof.Machine

/-! ### PATRON_SET and its release pass (1.7, 1.10) -/

namespace Sys2Proof.Machine

variable (s : State)

/-- Two changes of one record are one change. -/
theorem Table.alter_alter {α : Type} (t : Table α) (n : Nat) (f g : α → α) :
    (t.alter n f).alter n g = t.alter n (fun v => g (f v)) := by
  simp only [Table.alter, Table.mapRecords, List.map_map]
  refine List.map_congr_left (fun e _ => ?_)
  by_cases he : e.1 = n <;> simp [he]

theorem Table.alter_twice_eq_put {α : Type} (t : Table α) (hw : t.wf = true) {n : Nat} {v : α}
    (h : t.look n = some v) (f g : α → α) : (t.alter n f).alter n g = t.put n (g (f v)) := by
  rw [Table.alter_alter, Table.alter_eq_put t hw h]

/-! #### The entries of a release pass (R15) -/

theorem State.releaseLoop_of_stopped {n : Nat} {r : State × Nat} (h : r.1.mayRelease n = false) (l : List Nat) :
    State.releaseLoop n l r = r := by
  cases l <;> simp [State.releaseLoop, h]

theorem State.releaseLoop_discard {n title : Nat} (r : State × Nat) (h : r.1.mayRelease n = true) (rest : List Nat)
    (hheld : r.1.holdsTitle n title = true) : State.releaseLoop n (title :: rest) r =
      State.releaseLoop n rest (r.1.onPatron n (fun p => { p with deferred := rest }), r.2) := by
  have hheld1 : (r.1.onPatron n (fun p => { p with deferred := rest })).holdsTitle n title = true := hheld
  simp [State.releaseLoop, h, hheld1]

theorem State.releaseLoop_create {n title : Nat} (r : State × Nat) (h : r.1.mayRelease n = true) (rest : List Nat)
    (hnew : r.1.holdsTitle n title = false) : State.releaseLoop n (title :: rest) r = State.releaseLoop n rest
      ((r.1.onPatron n (fun p => { p with deferred := rest })).createOrder n title .standard, r.2 + 1) := by
  have hnew1 : (r.1.onPatron n (fun p => { p with deferred := rest })).holdsTitle n title = false := hnew
  simp [State.releaseLoop, h, hnew1]

theorem State.releasePass_eq {n : Nat} {p : Patron} (hp : s.patron n = some p) :
    s.releasePass n = State.releaseLoop n p.deferred (s, 0) := by
  unfold State.releasePass
  rw [hp]

/-! #### The outcomes of PATRON_SET (R21) -/

theorem patronSet_range {n region high restore sus : Nat} (h : n = 0 ∨ 7 < region ∨ 1 < sus) :
    patronSet n region high restore sus s = refuse s .range (if n = 0 then 1 else if 7 < region then 2 else 5) := by
  by_cases hn : n = 0
  · simp [patronSet, firstBad, hn]
  · by_cases hr : 7 < region
    · simp [patronSet, firstBad, hn, hr]
    · have hsus : 1 < sus := by simpa [hn, hr] using h
      simp [patronSet, firstBad, hn, hr, hsus]

section Set
variable {n region sus : Nat} (hn : n ≠ 0) (hr : region ≤ 7) (hs : sus ≤ 1) (high restore : Nat)
include hn hr hs

theorem patronSet_checks :
    firstBad [decide (n = 0), decide (7 < region), false, false, decide (1 < sus)] = none := by
  simp [firstBad_eq_none, hn, hr, hs]

theorem patronSet_noPatron (hp : s.patron n = none) :
    patronSet n region high restore sus s = refuse s .notFound 1 := by
  simp [patronSet, patronSet_checks hn hr hs, hp]

variable {p : Patron} (hp : s.patron n = some p)
include hp

theorem patronSet_wrongState (h : (setLimits high restore).1 < p.outstanding) :
    patronSet n region high restore sus s = refuse s .wrongState 0 := by
  simp [patronSet, patronSet_checks hn hr hs, hp, h]

/-- R21: what an accepted PATRON_SET answers, its release pass ending in the state `t`. -/
theorem patronSet_accepted {hi lo : Nat} (hlims : setLimits high restore = (hi, lo)) (h : p.outstanding ≤ hi)
    {t : State} {q : Patron}
    (hpass : ((s.onPatron n (fun p => p.setFields region hi lo (decide (sus = 1)))).releasePass n).1 = t)
    (hsettle : t.settle s.book.orders = t) (hq : t.patron n = some q) :
    patronSet n region high restore sus s = answer t (if hi ≠ high ∨ lo ≠ restore then .clamped else .accepted)
      [u1 hi, u1 lo, mark q.causes.limit, mark q.causes.overdue, mark q.causes.suspended] := by
  have hcode : clampedIf (decide ((hi, lo) ≠ (high, restore))) =
      if hi ≠ high ∨ lo ≠ restore then .clamped else .accepted := by
    by_cases h1 : hi = high <;> by_cases h2 : lo = restore <;> simp [clampedIf, h1, h2]
  simp only [patronSet, patronSet_checks hn hr hs, hp, hlims, Nat.not_lt.2 h, if_false, hpass, hsettle, hq, hcode]
  rfl

end Set

/-- R15: the account of a patron free of every cause, with fewer orders and loans than limit high. -/
theorem State.mayRelease_of_free {n : Nat} {p : Patron} (hp : s.patron n = some p)
    (hcauses : p.causes = ⟨false, false, false⟩) (hout : p.outstanding < p.high) (hroom : s.hasRoom = true) :
    s.mayRelease n = true :=
  (s.mayRelease_iff n).2 ⟨p, hp, by rw [hcauses]; rfl, hout, hroom⟩

theorem State.mayRelease_of_limit {n : Nat} {p : Patron} (hp : s.patron n = some p) (hlimit : p.causes.limit = true) :
    s.mayRelease n = false := by
  simp [State.mayRelease, hp, Causes.any, hlimit]

/-- R2, R3: one order more on the account of a patron free of every cause and above limit restore. -/
theorem Patron.gain_free (p : Patron) (h : p.causes = ⟨false, false, false⟩) : p.gain =
    { p with outstanding := p.outstanding + 1, causes := ⟨decide (p.outstanding + 1 = p.high), false, false⟩ } := by
  have hlim : limitCause p.high p.restore (p.outstanding + 1) false = decide (p.outstanding + 1 = p.high) := by
    by_cases h1 : p.outstanding + 1 = p.high <;> simp [limitCause, h1]
  simp only [Patron.gain, Patron.relimit, h, hlim]

/-- R13: a STANDARD cartridge order created while no bay is ARMED, as the book and the patrons show it. -/
theorem State.createOrder_standard {title size : Nat} {sel : Selector} (ht : s.title title = some (.cartridge size sel))
    (hbays : ∀ b < 32, (s.bay b).state ≠ .armed) (hnext : s.nextOrder ≤ 65535) (n : Nat) :
    s.createOrder n title .standard = { s with
      patrons := s.patrons.alter n Patron.gain
      book :=
        { orders := s.book.orders.put s.nextOrder (s.newOrder n title .cartridge .standard)
          counter := if s.nextOrder = 65535 then 1 else s.nextOrder + 1
          queue := s.book.queue ++ [s.nextOrder] } } := by
  have hjoin := s.joinTail_enterOrder s.nextOrder n title 0 .cartridge rfl s.book.queue
  rw [s.createOrder_waits ht hbays, ← nextNumber_eq _ hnext]
  exact congrArg (State.setQueue _) hjoin

section Pass
variable {n : Nat} {p : Patron} (hp : s.patron n = some p) (hcauses : p.causes = ⟨false, false, false⟩)
  (hout : p.outstanding < p.high) (hroom : s.hasRoom = true)
include hp hcauses hout hroom

/-- R15: the one entry of a list is discarded where the patron holds its title. -/
theorem State.releasePass_discard {title : Nat} (hdef : p.deferred = [title]) (hheld : s.holdsTitle n title = true) :
    (s.releasePass n).1 = s.onPatron n (fun p => { p with deferred := [] }) := by
  have hmay := s.mayRelease_of_free hp hcauses hout hroom
  have hstep := State.releaseLoop_discard (s, 0) hmay [] hheld
  rw [s.releasePass_eq hp, hdef, hstep]
  rfl

/-- R13, R15: the head of a list becomes an order, and the pass stops at an empty list or at LIMIT. -/
theorem State.releasePass_one {title : Nat} {t : Title} {rest : List Nat} (hdef : p.deferred = title :: rest)
    (hnew : s.holdsTitle n title = false) (ht : s.title title = some t)
    (hrest : rest = [] ∨ p.outstanding + 1 = p.high) : (s.releasePass n).1 =
      (s.onPatron n (fun p => { p with deferred := rest })).createOrder n title .standard := by
  have hmay := s.mayRelease_of_free hp hcauses hout hroom
  have hstep := State.releaseLoop_create (s, 0) hmay rest hnew
  rw [s.releasePass_eq hp, hdef, hstep]
  rcases hrest with rfl | hlimit
  · rfl
  · refine congrArg Prod.fst (State.releaseLoop_of_stopped ?_ rest)
    have hgain : ((s.onPatron n (fun p => { p with deferred := rest })).createOrder n title .standard).patron n =
        some (Patron.gain { p with deferred := rest }) := by
      have hpat := State.createOrder_patrons (s.onPatron n (fun p => { p with deferred := rest })) ht n .standard
      have hlook : s.patrons.look n = some p := hp
      rw [State.patron, hpat]
      simp [hlook]
    refine State.mayRelease_of_limit _ hgain ?_
    rw [Patron.gain_free { p with deferred := rest } hcauses]
    simpa using hlimit

/-- R15: the same pass where the title is a cartridge title and no bay is ARMED. -/
theorem State.releasePass_standard {title size : Nat} {sel : Selector} {rest : List Nat}
    (hdef : p.deferred = title :: rest) (hnew : s.holdsTitle n title = false)
    (ht : s.title title = some (.cartridge size sel)) (hrest : rest = [] ∨ p.outstanding + 1 = p.high)
    (hbays : ∀ b < 32, (s.bay b).state ≠ .armed) (hnext : s.nextOrder ≤ 65535) : (s.releasePass n).1 = { s with
      patrons := s.patrons.alter n (fun p => Patron.gain { p with deferred := rest })
      book :=
        { orders := s.book.orders.put s.nextOrder (s.newOrder n title .cartridge .standard)
          counter := if s.nextOrder = 65535 then 1 else s.nextOrder + 1
          queue := s.book.queue ++ [s.nextOrder] } } := by
  rw [s.releasePass_one hp hcauses hout hroom hdef hnew ht hrest,
    State.createOrder_standard (s.onPatron n (fun p => { p with deferred := rest })) ht hbays hnext,
    ← Table.alter_alter s.patrons n (fun p => { p with deferred := rest }) Patron.gain]
  rfl

end Pass

/-- R21: the account as PATRON_SET leaves it before its release pass, free of every cause. -/
theorem Patron.setFields_free {p : Patron} (region : Nat) {hi lo sus : Nat}
    (hlimit : (if p.outstanding = hi then true else if p.outstanding ≤ lo then false else p.causes.limit) = false)
    (hover : p.causes.overdue = false) (hsus : sus = 0) : p.setFields region hi lo (decide (sus = 1)) =
      { p with region := region, high := hi, restore := lo, causes := ⟨false, false, false⟩ } := by
  have hlim : limitCause hi lo p.outstanding p.causes.limit = false := hlimit
  simp [Patron.setFields, Patron.relimit, hlim, hover, hsus]

/-- Settles O27. -/
theorem patronSetStoresTheLimits : Obligations.PatronSetStoresTheLimits := by
  intro s h n region high restore sus ht
  refine ⟨fun hbad => congrArg _ (request_refuse ht (patronSet_range (s.clocked h) hbad)),
    fun hn hr hs hp => congrArg _ (request_refuse ht (patronSet_noPatron (s.clocked h) hn hr hs high restore hp)),
    fun p hn hr hs hp hi lo lim code hhi hlo hlim hcode => ?_⟩
  have hlims : setLimits high restore = (hi, lo) := by subst hhi hlo; rfl
  subst hlim hcode
  have hset : ((s.clocked h).onPatron n (fun p => p.setFields region hi lo (decide (sus = 1)))).patron n =
      some (p.setFields region hi lo (decide (sus = 1))) := by
    have hp' : (s.clocked h).patron n = some p := hp
    simp [hp']
  refine ⟨fun hlow => ?_, fun hle hw hstop => ?_, fun title rest hlt hw hwp hlimit hover hsus hdef hcap hlen =>
    ⟨fun hrest hheld => ?_, fun size sel hrest ho hl htitle hc1 hc2 hbays => ?_⟩⟩
  · exact congrArg _ (request_refuse ht (patronSet_wrongState (s.clocked h) hn hr hs high restore hp
      (hlims ▸ hlow)))
  · have hpass := congrArg Prod.fst (State.releasePass_of_stopped hset
      (hstop.imp_right (fun hc => (Causes.any_iff _).2 (hc.imp_right (Or.imp_right decide_eq_true)))))
    exact congrArg _ (request_answer ht (patronSet_accepted (s.clocked h) hn hr hs high restore hp hlims hle hpass
      (State.settle_of_book rfl hw) hset))
  · have hfree := Patron.setFields_free region hlimit hover hsus
    have hpat := Table.alter_twice_eq_put s.patrons hwp hp (fun p => p.setFields region hi lo (decide (sus = 1)))
      (fun p => { p with deferred := [] })
    rw [hfree] at hset hpat
    have hpass := (State.releasePass_discard _ hset rfl hlt ((State.hasRoom_iff _).2 ⟨hcap, hlen⟩)
      (hdef.trans (congrArg _ hrest)) ((State.holdsTitle_iff _ _ _).2 hheld)).trans
        (congrArg (fun t => { s.clocked h with patrons := t }) hpat)
    exact congrArg _ (request_answer ht (patronSet_accepted (s.clocked h) hn hr hs high restore hp hlims hlt.le hpass
      (State.settle_of_book rfl hw) (Table.look_put_same _ _ _)))
  · have hfirst : FirstFree 65535 s.book.orders s.book.counter (s.clocked h).nextOrder :=
      assignNumber_firstFree s.book.orders hc1 hc2 (by omega)
    obtain ⟨-, -, hnone, -⟩ := id hfirst
    refine ⟨(s.clocked h).nextOrder, hfirst, ?_⟩
    rintro now rfl
    have hfree := Patron.setFields_free region hlimit hover hsus
    have hpat := Table.alter_twice_eq_put s.patrons hwp hp (fun p => p.setFields region hi lo (decide (sus = 1)))
      (fun p => Patron.gain { p with deferred := rest })
    rw [hfree, Patron.gain_free _ rfl] at hpat
    rw [hfree] at hset
    have hpass := (State.releasePass_standard _ hset rfl hlt ((State.hasRoom_iff _).2 ⟨hcap, hlen⟩) hdef
      (State.holdsTitle_eq_false ho hl) htitle hrest hbays (assignNumber_range s.book.orders hc1 hc2).2).trans
        (congrArg (fun t => { s.clocked h with
          patrons := t
          book :=
            { orders := s.book.orders.put (s.clocked h).nextOrder ((s.clocked h).newOrder n title .cartridge .standard)
              counter := if (s.clocked h).nextOrder = 65535 then 1 else (s.clocked h).nextOrder + 1
              queue := s.book.queue ++ [(s.clocked h).nextOrder] } }) hpat)
    exact congrArg _ (request_answer ht (patronSet_accepted (s.clocked h) hn hr hs high restore hp hlims hlt.le hpass
      (State.settle_of_none _ (changedTags_of_new hnone (Table.wf_put _ _ _ hw)
        (fun m hm => Table.look_put_other _ _ hm))) (Table.look_put_same _ _ _)))

end Sys2Proof.Machine

/-! ### The rollover (7.3, 9.7) -/

namespace Sys2Proof.Machine

variable (s : State)

/-! #### What the packing unit's acts and the settling of an event leave

Their notices go to the mail port, and a container that closes changes no bag. -/

/-- The units of the other ports, and the unbagged queue. -/
def State.offMail : PortUnit × PortUnit × PortUnit × List Nat :=
  (s.unit .circulation, s.unit .rack, s.unit .returns, s.packing.unbagged)

@[simp] theorem State.offMail_raise (k : NoticeKind) (n : Nat) (d : List Field) :
    (s.raise .mail k n d).offMail = s.offMail := rfl

theorem State.offMail_noteChange (e : Nat × Order) : (s.noteChange e).offMail = s.offMail := rfl

@[simp] theorem State.offMail_onContainer (n : Nat) (f : Container → Container) :
    (s.onContainer n f).offMail = s.offMail := rfl

@[simp] theorem State.offMail_onOrders (f : Nat → Order → Order) : (s.onOrders f).offMail = s.offMail := rfl

@[simp] theorem State.offMail_closeContainer (n : Nat) : (s.closeContainer n).offMail = s.offMail := by
  unfold State.closeContainer
  split <;> rfl

@[simp] theorem State.bags_closeContainer (n : Nat) : (s.closeContainer n).packing.bags = s.packing.bags := by
  unfold State.closeContainer
  split <;> rfl

@[simp] theorem State.offMail_closeWithNotice (n : Nat) (c : CloseCause) :
    (s.closeWithNotice n c).offMail = s.offMail := by
  unfold State.closeWithNotice
  split <;> simp

@[simp] theorem State.bags_closeWithNotice (n : Nat) (c : CloseCause) :
    (s.closeWithNotice n c).packing.bags = s.packing.bags := by
  unfold State.closeWithNotice
  split <;> simp

theorem State.reexamine_cases (n : Nat) : s.reexamine n = s ∨ ∃ c, s.reexamine n = s.closeWithNotice c .released := by
  unfold State.reexamine
  split
  · exact .inl rfl
  · split
    · exact .inl rfl
    · split
      · exact .inl rfl
      · split
        · exact .inr ⟨_, rfl⟩
        · exact .inl rfl

@[simp] theorem State.offMail_reexamine (n : Nat) : (s.reexamine n).offMail = s.offMail := by
  rcases s.reexamine_cases n with h | ⟨c, h⟩ <;> simp [h]

@[simp] theorem State.bags_reexamine (n : Nat) : (s.reexamine n).packing.bags = s.packing.bags := by
  rcases s.reexamine_cases n with h | ⟨c, h⟩ <;> simp [h]

@[simp] theorem State.offMail_settle (b : Table Order) : (s.settle b).offMail = s.offMail := by
  simp only [State.settle]
  rw [foldl_keeps State.offMail _ (fun s (e : Nat × Patron) => s.offMail_reexamine e.1),
    foldl_keeps State.offMail _ State.offMail_noteChange]

@[simp] theorem State.bags_settle (b : Table Order) : (s.settle b).packing.bags = s.packing.bags := by
  simp only [State.settle]
  exact (foldl_keeps (fun s : State => s.packing.bags) _ (fun s (e : Nat × Patron) => s.bags_reexamine e.1) _ _).trans
    (foldl_keeps (fun s : State => s.packing.bags) State.noteChange (fun s e => rfl) _ _)

@[simp] theorem State.offMail_lastCall : s.lastCall.offMail = s.offMail := by
  simp only [State.lastCall, State.tagsLate, State.offMail_onOrders]
  rw [foldl_keeps State.offMail _ (fun s n => s.offMail_closeWithNotice n _), State.offMail_raise]

@[simp] theorem State.bags_lastCall : s.lastCall.packing.bags = s.packing.bags := by
  simp only [State.lastCall, State.tagsLate, State.onOrders_packing]
  exact foldl_keeps (fun s : State => s.packing.bags) _ (fun s n => s.bags_closeWithNotice n _) _ _

@[simp] theorem State.offMail_closeBag (n : Nat) (c : Bool) : (s.closeBag n c).offMail = s.offMail := by
  unfold State.closeBag
  split
  · rfl
  · exact (foldl_keeps State.offMail _ (fun s n => s.offMail_onContainer n _) _ _).trans rfl

@[simp] theorem State.offMail_bagNotice (n : Nat) : (s.bagNotice n).offMail = s.offMail := by
  unfold State.bagNotice
  split <;> rfl

@[simp] theorem State.offMail_cutOff : s.cutOff.offMail = s.offMail := by
  simp only [State.cutOff]
  rw [foldl_keeps State.offMail _ (fun s n => by simp), State.offMail_raise]

/-! #### The mail day state entered (R116, R121) -/

/-- The clock with the mail day state derived from it. -/
def State.derive : State :=
  { s with clock := { s.clock with mailDay := s.clock.derived } }

theorem State.enterMailDay_eq : s.enterMailDay =
    (if runsCutOff s.clock.mailDay s.clock.derived then
      (if runsLastCall s.clock.mailDay s.clock.derived then s.derive.lastCall else s.derive).cutOff
    else if runsLastCall s.clock.mailDay s.clock.derived then s.derive.lastCall else s.derive) := rfl

@[simp] theorem State.enterMailDay_clock : s.enterMailDay.clock = { s.clock with mailDay := s.clock.derived } := by
  rw [State.enterMailDay_eq]
  (repeat' split) <;> simp [State.derive]

@[simp] theorem State.offMail_enterMailDay : s.enterMailDay.offMail = s.offMail := by
  rw [State.enterMailDay_eq]
  (repeat' split) <;> simp [State.derive] <;> rfl

/-- R118: before the cut-off second no bag closes. -/
theorem State.bags_enterMailDay (h : s.clock.derived ≠ .afterCutoff) :
    s.enterMailDay.packing.bags = s.packing.bags := by
  have hno : runsCutOff s.clock.mailDay s.clock.derived = false := by simp [runsCutOff, h]
  rw [State.enterMailDay_eq, if_neg (by simp [hno])]
  split <;> simp [State.derive]

/-- R117: the last call's hold on the tags. -/
def Order.tagLate (o : Order) : Order :=
  if o.tag = .onTime then { o with tag := .late } else o

theorem State.lastCall_book : s.lastCall.book =
    { s.book with orders := s.book.orders.mapRecords (fun _ o => o.tagLate) } := by
  have hfold := foldl_keeps State.book (fun (s : State) n => s.closeWithNotice n .lastCall) (fun s n => by simp)
    s.openContainers (s.raise .mail .lastCall s.clock.day [u2 s.openContainers.length])
  simp only [State.lastCall, State.tagsLate, State.onOrders, hfold]
  rfl

theorem State.enterMailDay_book : s.enterMailDay.book =
    if runsLastCall s.clock.mailDay s.clock.derived then
      { s.book with orders := s.book.orders.mapRecords (fun _ o => o.tagLate) }
    else s.book := by
  rw [State.enterMailDay_eq]
  (repeat' split) <;> simp [State.lastCall_book, State.derive]

theorem Order.tagLate_keeps (o : Order) : o.tagLate.ready = o.ready ∧ o.tagLate.state = o.state := by
  unfold Order.tagLate
  split <;> simp

/-- R117: an order keeps its ready second, and where the day state entered is DAY its tag. -/
theorem State.order_enterMailDay {n : Nat} {o : Order} (h : s.enterMailDay.order n = some o) :
    ∃ q, s.order n = some q ∧ o.ready = q.ready ∧ o.state = q.state ∧ (s.clock.derived = .day → o.tag = q.tag) := by
  rw [State.order, s.enterMailDay_book] at h
  by_cases hcall : runsLastCall s.clock.mailDay s.clock.derived = true
  · rw [if_pos hcall, Table.look_mapRecords] at h
    obtain ⟨q, hq, rfl⟩ := Option.map_eq_some_iff.1 h
    refine ⟨q, hq, q.tagLate_keeps.1, q.tagLate_keeps.2, fun hday => ?_⟩
    simp [runsLastCall, hday] at hcall
  · rw [if_neg hcall] at h
    exact ⟨o, h, rfl, rfl, fun _ => rfl⟩

/-! #### The overdue sweep (R160, R161) -/

/-- R161: the OVERDUE notice of one patron. -/
def overdueNote (c : Clock) (count : Nat) (e : Nat × Patron) : Notice :=
  ⟨.overdue, e.1, c.second, [u1 count, u1 (min 15 (e.2.overdue + count)), u2 c.day]⟩

/-- R161: the notices of a list of patrons, in its order. -/
theorem State.overdueNotices_unit (found : Nat → Nat) (l : Table Patron) {u : State}
    (hl : ∀ e ∈ l, (u.patron e.1).map Patron.overdue = some (min 15 (e.2.overdue + found e.1))) :
    ((l.map (fun e => (e.1, found e.1))).foldl State.overdueNotice u).unit .circulation =
      (l.map (fun e => overdueNote u.clock (found e.1) e)).foldl PortUnit.enqueue (u.unit .circulation) := by
  induction l generalizing u with
  | nil => rfl
  | cons e rest ih =>
    obtain ⟨p, hp, hover⟩ := Option.map_eq_some_iff.1 (hl e List.mem_cons_self)
    have hnote : u.overdueNotice (e.1, found e.1) =
        u.raise .circulation .overdue e.1 [u1 (found e.1), u1 (min 15 (e.2.overdue + found e.1)), u2 u.clock.day] := by
      simp [State.overdueNotice, hp, hover]
    simp only [List.map_cons, List.foldl_cons, hnote]
    exact ih (fun a ha => hl a (List.mem_cons_of_mem _ ha))

/-- R161: one notice for each patron with loans made OVERDUE, in ascending number. -/
theorem State.sweep_circulation (hw : s.patrons.wf = true) : s.sweep.unit .circulation =
    ((s.patrons.filter (fun e => decide (0 < s.newlyOverdue e.1))).map
      (fun e => overdueNote s.clock (s.newlyOverdue e.1) e)).foldl PortUnit.enqueue (s.unit .circulation) := by
  simp only [State.sweep, List.filter_map]
  refine State.overdueNotices_unit s.newlyOverdue _ (fun e he => ?_)
  obtain ⟨hmem, hpos⟩ := List.mem_filter.1 he
  have hlook := Table.look_of_mem _ hw hmem
  have hne : s.newlyOverdue e.1 ≠ 0 := Nat.ne_of_gt (by simpa using hpos)
  simp [State.patron, hlook, Patron.sweep, hne, maxOverdue]

theorem State.unit_overdueNotice (e : Nat × Nat) {p : Port} (hp : p ≠ .circulation) :
    (s.overdueNotice e).unit p = s.unit p := by
  unfold State.overdueNotice
  split
  · exact State.unit_onUnit_other _ _ hp
  · rfl

/-- R161: the sweep's notices go to the circulation port alone. -/
theorem State.sweep_unit {p : Port} (hp : p ≠ .circulation) : s.sweep.unit p = s.unit p := by
  simp only [State.sweep]
  exact (foldl_keeps (fun s : State => s.unit p) _ (fun s e => s.unit_overdueNotice e hp) _ _).trans rfl

/-! #### The advance from 86399 to 0 (R119) -/

/-- R119 steps 1 and 2: the clock at the new day, before the sweep. -/
def State.midnight : State :=
  { s.idleSecond with clock := { s.clock.nextBoundary with
      second := 0, day := min maxDay (s.clock.day + 1), mailDay := .day } }

/-- R119 steps 3 to 5: the sweep, the recompute and the lane's counts. -/
def State.newDay : State :=
  (s.midnight.sweep.dayRecompute true).clearLaneCounts

theorem State.advanceSecond_rollover (h : s.clock.second = 86399) :
    s.advanceSecond = s.newDay.enterMailDay.settle s.book.orders := by
  have hlast : daySeconds ≤ s.clock.nextBoundary.second + 1 := by
    show daySeconds ≤ s.clock.second + 1
    rw [h]
    decide
  simp only [State.advanceSecond]
  rw [if_pos hlast]
  rfl

/-- The day number after the rollover. -/
theorem State.newDay_clock : s.newDay.clock = s.midnight.clock := by
  simp [State.newDay]

theorem State.newDay_derived : s.newDay.clock.derived = deriveMailDay 0 (s.clock.cutoff - s.clock.margin) s.clock.cutoff := by
  rw [State.newDay_clock]
  rfl

/-- A patron's account after acts that leave the shape. -/
theorem State.patron_of_shape {s t : State} (h : t.shape = s.shape) {n : Nat} {p : Patron} (hp : s.patron n = some p) :
    ∃ q, t.patron n = some q ∧ q.account = p.account := by
  have hlook := congrArg (fun k : Shape => k.patrons.look n) h
  simp only [State.shape, Table.look_mapRecords] at hlook
  rw [show s.patrons.look n = some p from hp] at hlook
  exact Option.map_eq_some_iff.1 hlook

/-- R160: what the sweep of the new day leaves of a patron. -/
theorem State.newDay_patron {n : Nat} {p : Patron} (hp : s.patron n = some p) :
    s.newDay.patron n = some (p.sweep (s.midnight.newlyOverdue n)) := by
  have hlook : s.patrons.look n = some p := hp
  have hpat : s.newDay.patrons = s.midnight.sweep.patrons := by simp [State.newDay]
  rw [State.patron, hpat, s.midnight.sweep_patrons, Table.look_mapRecords]
  exact congrArg _ hlook

/-- R4, R160: the account of a patron after a sweep that found `k` loans. -/
theorem Patron.sweep_account (p : Patron) (k : Nat) :
    (p.sweep k).overdue = (if k = 0 then p.overdue else min 15 (p.overdue + k)) ∧
    (p.sweep k).causes = { p.causes with overdue := p.causes.overdue || decide (0 < k) } ∧
    (p.sweep k).outstanding = p.outstanding ∧ (p.sweep k).deferred = p.deferred := by
  by_cases hk : k = 0
  · simp [Patron.sweep, hk]
  · simp [Patron.sweep, hk, maxOverdue, Nat.pos_of_ne_zero hk]

theorem Loan.falls_iff (l : Loan) (day grace : Nat) :
    l.falls day grace = true ↔ l.state = .out ∧ l.dueDay + grace < day := by
  simp [Loan.falls]

/-- R160: how many of a patron's loans the sweep of the new day makes OVERDUE. -/
theorem State.newlyOverdue_midnight (n : Nat) : s.midnight.newlyOverdue n = s.loans.loans.countP (fun e =>
    decide (e.2.patron = n ∧ e.2.state = .out ∧ e.2.dueDay + s.loans.grace < s.midnight.clock.day)) := by
  refine List.countP_congr (fun e _ => ?_)
  have hgrace : s.midnight.loans.grace = s.loans.grace := rfl
  simp [Loan.falls_iff, hgrace]

/-- R161: the notices of the new day. -/
theorem State.newDay_circulation (hw : s.patrons.wf = true) : s.newDay.unit .circulation =
    ((s.patrons.filter (fun e => decide (0 < s.midnight.newlyOverdue e.1))).map
      (fun e => overdueNote s.midnight.clock (s.midnight.newlyOverdue e.1) e)).foldl PortUnit.enqueue
        (s.unit .circulation) :=
  s.midnight.sweep_circulation hw

theorem State.newDay_unit {p : Port} (hp : p ≠ .circulation) : s.newDay.unit p = s.unit p :=
  s.midnight.sweep_unit hp

/-- R108: at a new day an order that is READY or PACKED is ready at second 0. -/
theorem State.dayForm_ready {o : Order} (h : (s.dayForm true o).state = .ready ∨ (s.dayForm true o).state = .packed) :
    (s.dayForm true o).ready = some 0 ∧ (s.dayForm true o).tag = s.clock.tagOf 0 := by
  obtain ⟨q, tag, hform⟩ := s.writingForm_fields s.roundTime o
  cases ho : o.state <;> simp [State.dayForm, ho, hform, State.verifyForm, State.project] at h ⊢

theorem State.newDay_order {n : Nat} {o : Order} (h : s.newDay.order n = some o) :
    ∃ q, s.midnight.order n = some q ∧ o = s.midnight.sweep.dayForm true q := by
  have hbook : s.newDay.order n = (s.midnight.sweep.order n).map (s.midnight.sweep.dayForm true) :=
    Table.look_mapRecords s.midnight.sweep.book.orders (fun _ o => s.midnight.sweep.dayForm true o) n
  rw [hbook] at h
  obtain ⟨q, hq, rfl⟩ := Option.map_eq_some_iff.1 h
  refine ⟨q, ?_, rfl⟩
  have hsweep : s.midnight.sweep.book = s.midnight.book := by simp
  rw [State.order, hsweep] at hq
  exact hq

/-- R113: a new day begins in DAY, its second below the last-call second. -/
theorem State.midnight_tag (h : 0 < s.clock.cutoff - s.clock.margin) : s.midnight.clock.tagOf 0 = .onTime :=
  if_pos ⟨rfl, h⟩

/-- Settles O23. -/
theorem theRolloverSweepsLoans : Obligations.TheRolloverSweepsLoans := by
  intro s hheld hsec
  have hclock : (s.newDay.enterMailDay.settle s.book.orders).clock =
      { s.midnight.clock with mailDay := s.newDay.clock.derived } := by
    rw [← s.newDay_clock]
    simp
  have hloans : (s.newDay.enterMailDay.settle s.book.orders).loans = s.midnight.sweep.loans := by
    simp [State.newDay]
  have hshape : (s.newDay.enterMailDay.settle s.book.orders).shape = s.newDay.shape := by simp
  have hmail : (s.newDay.enterMailDay.settle s.book.orders).offMail = s.newDay.offMail := by simp
  have hexec : exec .secondAdvance s = .next (s.newDay.enterMailDay.settle s.book.orders) := by
    rw [← s.advanceSecond_rollover hsec]
    show Host.Outcome.next (if s.resetHeld then s else s.advanceSecond) = _
    simp [hheld]
  refine ⟨_, hexec, ?_, ?_, fun hday => ?_, ?_, fun found hfound => ⟨fun n p hp => ?_, fun hw => ?_⟩, ?_, ?_,
    fun n o ho hst => ?_, fun hcut => ?_, ?_, ?_, ?_, ?_, ?_, ?_, ?_⟩
  · rw [hclock]; rfl
  · rw [hclock]; rfl
  · rw [hclock, s.newDay_derived]; exact if_pos hday
  · rw [hloans, hclock, s.midnight.sweep_loans]
    simp only [Loan.falls_iff]
    rfl
  · obtain ⟨q, hq, haccount⟩ := State.patron_of_shape hshape (s.newDay_patron hp)
    have hcount : found n = s.midnight.newlyOverdue n := by
      rw [hfound, hclock, s.newlyOverdue_midnight]
    obtain ⟨hover, hcauses, hout, hdef⟩ := p.sweep_account (s.midnight.newlyOverdue n)
    rw [hcount]
    exact ⟨q, hq, (congrArg Patron.overdue haccount).trans hover, (congrArg Patron.causes haccount).trans hcauses,
      (congrArg Patron.outstanding haccount).trans hout, (congrArg Patron.deferred haccount).trans hdef⟩
  · have hcount : found = s.midnight.newlyOverdue := funext (fun n => by
      rw [hfound, hclock, s.newlyOverdue_midnight])
    rw [hcount, hclock]
    exact (congrArg Prod.fst hmail).trans (s.newDay_circulation hw)
  · exact (congrArg (fun k => k.2.1) hmail).trans (s.newDay_unit (show Port.rack ≠ .circulation by simp))
  · exact (congrArg (fun k => k.2.2.1) hmail).trans (s.newDay_unit (show Port.returns ≠ .circulation by simp))
  · have hbook : (s.newDay.enterMailDay.settle s.book.orders).order n = s.newDay.enterMailDay.order n := by
      simp [State.order]
    rw [hbook] at ho
    obtain ⟨q, hq, hready, hstate, htag⟩ := s.newDay.order_enterMailDay ho
    obtain ⟨r, -, rfl⟩ := s.newDay_order hq
    rw [hstate] at hst
    obtain ⟨hzero, htagOf⟩ := s.midnight.sweep.dayForm_ready hst
    refine ⟨hready.trans hzero, fun hday => ?_⟩
    have hclock' : s.midnight.sweep.clock = s.midnight.clock := by simp
    rw [htag (s.newDay_derived.trans (if_pos hday)), htagOf, hclock', s.midnight_tag hday]
  · have hno : s.newDay.clock.derived ≠ .afterCutoff := by
      rw [s.newDay_derived, deriveMailDay, if_pos hcut]
      split <;> simp
    have hbags : s.newDay.packing = s.midnight.packing := by simp [State.newDay]
    rw [State.bags_settle, s.newDay.bags_enterMailDay hno, hbags]
    rfl
  · have hbags : s.newDay.packing = s.midnight.packing := by simp [State.newDay]
    exact (congrArg (fun k => k.2.2.2) hmail).trans (congrArg Packing.unbagged hbags)
  · simp [State.newDay, State.clearLaneCounts, State.midnight]
  all_goals simp [State.newDay, State.midnight]

end Sys2Proof.Machine

/-! ### The scene of a state

Which order, cartridge, bay, copy, loan and container names which. The ninth law of the device, Table 1-3 and R144
are laws of the scene: of what each record says about the others, and not of projections, counts or settings. -/

namespace Sys2Proof.Machine

/-! #### The records, without what no other record depends on -/

structure OrderCore where
  patron : Nat
  title : Nat
  format : Format
  state : OrderState
  serial : Option Nat
  bay : Option Nat
  copy : Option Nat
  container : Option Nat

structure CartCore where
  state : CartridgeState
  bound : Binding
  bay : Option Nat

/-- A bay: its state, its cartridge, and the order of its job, if it has a job and the job is a WRITE job. -/
structure BayCore where
  state : BayState
  cartridge : Option Nat
  job : Option (Option Nat)

structure TitleCore where
  format : Format
  copies : List Copy
  hold : List Nat

structure LoanCore where
  title : Nat
  item : Item

structure ContainerCore where
  patron : Nat
  opened : Bool
  items : List Nat
  braille : Bool

def Order.core (o : Order) : OrderCore :=
  ⟨o.patron, o.title, o.format, o.state, o.serial, o.bay, o.copy, o.container⟩

def Cartridge.core (k : Cartridge) : CartCore :=
  ⟨k.state, k.bound, k.bay⟩

def Bay.core (r : Bay) : BayCore :=
  ⟨r.state, r.cartridge, r.job.map (fun j => j.kind.order)⟩

def Title.core (t : Title) : TitleCore :=
  ⟨t.format, t.copies, t.hold⟩

def Loan.core (l : Loan) : LoanCore :=
  ⟨l.title, l.item⟩

def Container.core (c : Container) : ContainerCore :=
  ⟨c.patron, decide (c.state = .opened), c.items, c.braille⟩

/-- The records found by number, the pending queue, the patrons' open containers and the number of bays. -/
structure Scene where
  order : Nat → Option OrderCore
  queue : List Nat
  title : Nat → Option TitleCore
  cart : Nat → Option CartCore
  bay : Nat → BayCore
  loan : Nat → Option LoanCore
  container : Nat → Option ContainerCore
  openOf : Nat → Option Nat
  bays : Nat

def State.scene (s : State) : Scene where
  order n := (s.order n).map Order.core
  queue := s.book.queue
  title t := (s.title t).map Title.core
  cart c := (s.cart c).map Cartridge.core
  bay b := (s.bay b).core
  loan l := (s.loan l).map Loan.core
  container m := (s.container m).map Container.core
  openOf p := (s.patron p).bind Patron.openContainer
  bays := s.bays.length

namespace Scene

variable (S : Scene)

/-! #### One record changed -/

def setOrder (n : Nat) (v : Option OrderCore) : Scene := { S with order := Function.update S.order n v }
def setQueue (q : List Nat) : Scene := { S with queue := q }
def setTitle (t : Nat) (v : Option TitleCore) : Scene := { S with title := Function.update S.title t v }
def setCart (c : Nat) (v : Option CartCore) : Scene := { S with cart := Function.update S.cart c v }
def setBay (b : Nat) (r : BayCore) : Scene := { S with bay := Function.update S.bay b r }
def setLoan (l : Nat) (v : Option LoanCore) : Scene := { S with loan := Function.update S.loan l v }
def setContainers (g : Nat → Option ContainerCore) : Scene := { S with container := g }
def setOpen (p : Nat) (v : Option Nat) : Scene := { S with openOf := Function.update S.openOf p v }

end Scene

/-! #### What a record has, by its state -/

/-- An order with no cartridge, bay or copy. -/
def OrderCore.Loose (o : OrderCore) : Prop :=
  o.serial = none ∧ o.bay = none ∧ o.copy = none

/-- The state of an order whose cartridge is in a bay, and the bay's job, by the bay's state. -/
def BayState.work (n : Nat) : BayState → Option (OrderState × Option (Option Nat))
  | .writing => some (.writing, some (some n))
  | .verifying => some (.verifying, some (some n))
  | .done => some (.ready, none)
  | _ => none

/-- The state of a cartridge that no order has, and the bay's job, by the state of the bay that holds it. -/
def BayState.spare : BayState → Option (CartridgeState × Option (Option Nat))
  | .armed => some (.blank, none)
  | .blanking => some (.needsBlank, some none)
  | .eject => some (.retired, none)
  | .faulted => some (.needsBlank, none)
  | _ => none

/-- The state of the cartridge that an order has outside the bays, by the order's state. -/
def OrderState.shelved : OrderState → Option CartridgeState
  | .ready => some .written
  | .packed => some .packed
  | _ => none

/-- A cartridge that no order or loan has. -/
def CartridgeState.spare (st : CartridgeState) : Prop :=
  st = .blank ∨ st = .needsBlank ∨ st = .retired

theorem BayState.spare_cart {st : BayState} {kst : CartridgeState} {job : Option (Option Nat)}
    (h : st.spare = some (kst, job)) : kst.spare := by
  cases st <;> simp_all [BayState.spare, CartridgeState.spare, eq_comm]

theorem CartridgeState.inBay_not_spare : ¬ CartridgeState.inBay.spare := by simp [CartridgeState.spare]

theorem OrderState.shelved_not_spare {o : OrderState} {st : CartridgeState} (h : o.shelved = some st) : ¬ st.spare := by
  cases o <;> simp [OrderState.shelved] at h <;> simp [← h, CartridgeState.spare]

namespace Scene

variable (S : Scene)

/-! #### The laws of a scene -/

/-- Table 1-3: the place of an order, by its state. -/
inductive Place (n : Nat) (o : OrderCore) : Prop
  | queued : o.state = .pending → o.format = .cartridge → o.Loose → n ∈ S.queue → Place n o
  | stalled : o.state = .stalled → o.format = .cartridge → o.Loose → Place n o
  | waiting {t} : o.state = .waitingCopy → o.format = .braille → o.Loose → S.title o.title = some t → n ∈ t.hold →
      Place n o
  | inBay {b c st job} : st.work n = some (o.state, job) → o.format = .cartridge → o.copy = none → b < bayCount →
      o.bay = some b → o.serial = some c → S.bay b = ⟨st, some c, job⟩ → S.cart c = some ⟨.inBay, .order n, some b⟩ →
      Place n o
  | shelved {c st} : o.state.shelved = some st → o.format = .cartridge → o.copy = none → o.bay = none →
      o.serial = some c → S.cart c = some ⟨st, .order n, none⟩ → Place n o
  | copied {i t} : o.state = .ready ∨ o.state = .packed → o.format = .braille → o.serial = none → o.bay = none →
      o.copy = some i → i < copyEntries → S.title o.title = some t → t.copies.getD i .absent = .allocated n →
      Place n o

/-- Table 1-3: a PACKED order, and no other, is in the container it names. -/
def Boxed (n : Nat) (o : OrderCore) : Prop :=
  (o.state ≠ .packed → o.container = none) ∧
  (o.state = .packed → ∃ m c, o.container = some m ∧ S.container m = some c ∧ n ∈ c.items)

/-- R6: an order is for a title of the catalogue, in its format. -/
def Catalogued (o : OrderCore) : Prop :=
  ∃ t, S.title o.title = some t ∧ t.format = o.format

/-- Table 4-2: what a bay has. -/
inductive Berth (b : Nat) : BayCore → Prop
  | bare {st} : st = .empty ∨ st = .faulted → Berth b ⟨st, none, none⟩
  | spare {st job kst c x} : st.spare = some (kst, job) → S.cart c = some ⟨kst, x, some b⟩ → Berth b ⟨st, some c, job⟩
  | work {st job n c o} : st.work n = some (o.state, job) → S.order n = some o → o.bay = some b → o.serial = some c →
      Berth b ⟨st, some c, job⟩

/-- R144: what a loan has. -/
inductive Lent (l : Nat) (v : LoanCore) : Prop
  | cartridge {c t x} : v.item = .cartridge c → S.cart c = some ⟨.onLoan, .loan l, x⟩ → S.title v.title = some t →
      t.format = .cartridge → Lent l v
  | copy {i t} : v.item = .copy i → i < copyEntries → S.title v.title = some t → t.format = .braille →
      t.copies.getD i .absent = .onLoan l → Lent l v

/-- R27, R29: the entries of a copy map, and the orders of a hold queue. -/
def Stocked (t : Nat) (v : TitleCore) : Prop :=
  (v.format = .braille → v.copies.length = copyEntries) ∧
  (∀ n ∈ v.hold, ∃ o, S.order n = some o ∧ o.state = .waitingCopy ∧ o.title = t)

/-- Tables 1-3, 2-1 and 4-2, R9, R144: every record has what it names, and is named by what it has. -/
structure Core : Prop where
  bays : S.bays = bayCount
  nodup : S.queue.Nodup
  queue : ∀ n ∈ S.queue, ∃ o, S.order n = some o ∧ o.state = .pending
  place : ∀ n o, S.order n = some o → S.Place n o
  boxed : ∀ n o, S.order n = some o → S.Boxed n o
  catalogued : ∀ n o, S.order n = some o → S.Catalogued o
  berth : ∀ b < bayCount, S.Berth b (S.bay b)
  stocked : ∀ t v, S.title t = some v → S.Stocked t v
  lent : ∀ l v, S.loan l = some v → S.Lent l v

/-- R125: what a container holds. -/
def Filled (m : Nat) (c : ContainerCore) : Prop :=
  c.items.Nodup ∧ 1 ≤ c.items.length ∧ c.items.length ≤ containerCapacity ∧ (c.braille = true → c.items.length = 1) ∧
  (∀ n ∈ c.items, ∃ o, S.order n = some o ∧ o.state = .packed ∧ o.container = some m ∧ o.patron = c.patron ∧
    c.braille = decide (o.format = .braille))

/-- R125: what an OPEN container is, and that its patron names it. -/
def Lid (m : Nat) (c : ContainerCore) : Prop :=
  c.opened = true → c.braille = false ∧ c.items.length < containerCapacity ∧ S.openOf c.patron = some m

/-- R125 (the ninth law of the device), but for the OPEN state of one container. -/
def BoxesBut (j : Nat) : Prop :=
  ∀ m c, S.container m = some c → S.Filled m c ∧ (m ≠ j → S.Lid m c)

/-- R125 (the ninth law of the device). -/
def Boxes : Prop :=
  ∀ m c, S.container m = some c → S.Filled m c ∧ S.Lid m c

/-! #### What an order, a bay or a loan keeps when other records change -/

variable {S} {S' : Scene}

theorem Place.frame {n : Nat} {o : OrderCore} (h : S.Place n o) (hqueue : n ∈ S.queue → n ∈ S'.queue)
    (hhold : ∀ v, S.title o.title = some v → n ∈ v.hold → ∃ v', S'.title o.title = some v' ∧ n ∈ v'.hold)
    (hcopy : ∀ v i, S.title o.title = some v → v.copies.getD i .absent = .allocated n →
      ∃ v', S'.title o.title = some v' ∧ v'.copies.getD i .absent = .allocated n)
    (hcart : ∀ c st x, ¬ st.spare → S.cart c = some ⟨st, .order n, x⟩ → S'.cart c = S.cart c)
    (hbay : ∀ b c, S.cart c = some ⟨.inBay, .order n, some b⟩ → (S.bay b).cartridge = some c → S'.bay b = S.bay b) :
    S'.Place n o := by
  cases h with
  | queued h1 h2 h3 h4 => exact .queued h1 h2 h3 (hqueue h4)
  | stalled h1 h2 h3 => exact .stalled h1 h2 h3
  | waiting h1 h2 h3 h4 h5 =>
    obtain ⟨v, hv, hn⟩ := hhold _ h4 h5
    exact .waiting h1 h2 h3 hv hn
  | inBay h1 h2 h3 h4 h5 h6 h7 h8 =>
    exact .inBay h1 h2 h3 h4 h5 h6 ((hbay _ _ h8 (by rw [h7])).trans h7)
      ((hcart _ _ _ CartridgeState.inBay_not_spare h8).trans h8)
  | shelved h1 h2 h3 h4 h5 h6 =>
    exact .shelved h1 h2 h3 h4 h5 ((hcart _ _ _ (OrderState.shelved_not_spare h1) h6).trans h6)
  | copied h1 h2 h3 h4 h5 h6 h7 h8 =>
    obtain ⟨v, hv, hn⟩ := hcopy _ _ h7 h8
    exact .copied h1 h2 h3 h4 h5 h6 hv hn

theorem Berth.frame {b : Nat} {r : BayCore} (h : S.Berth b r)
    (hcart : ∀ c st x, S.cart c = some ⟨st, x, some b⟩ → r.cartridge = some c → S'.cart c = S.cart c)
    (horder : ∀ n o, S.order n = some o → o.bay = some b → S'.order n = some o) : S'.Berth b r := by
  cases h with
  | bare h => exact .bare h
  | spare h1 h2 => exact .spare h1 ((hcart _ _ _ h2 rfl).trans h2)
  | work h1 h2 h3 h4 => exact .work h1 (horder _ _ h2 h3) h3 h4

theorem Lent.frame {l : Nat} {v : LoanCore} (h : S.Lent l v)
    (hcart : ∀ c x, S.cart c = some ⟨.onLoan, .loan l, x⟩ → S'.cart c = S.cart c)
    (htitle : ∀ w, S.title v.title = some w → ∃ w', S'.title v.title = some w' ∧ w'.format = w.format ∧
      ∀ i, w.copies.getD i .absent = .onLoan l → w'.copies.getD i .absent = .onLoan l) : S'.Lent l v := by
  cases h with
  | cartridge h1 h2 h3 h4 =>
    obtain ⟨w, hw, hf, -⟩ := htitle _ h3
    exact .cartridge h1 ((hcart _ _ h2).trans h2) hw (hf.trans h4)
  | copy h1 h2 h3 h4 h5 =>
    obtain ⟨w, hw, hf, hc⟩ := htitle _ h3
    exact .copy h1 h2 hw (hf.trans h4) (hc _ h5)

/-! #### An act changes at most one record of each kind -/

/-- An act on the scene: the records outside `n`, `c`, `b`, `t` and `l` stay, nobody else has one of those changed,
and what the changed ones have afterwards stands. -/
structure Step (S S' : Scene) (n c b t l : Option Nat) : Prop where
  order : ∀ i, n ≠ some i → S'.order i = S.order i
  cart : ∀ i, c ≠ some i → S'.cart i = S.cart i
  bay : ∀ i, b ≠ some i → S'.bay i = S.bay i
  title : ∀ i, t ≠ some i → S'.title i = S.title i
  loan : ∀ i, l ≠ some i → S'.loan i = S.loan i
  bays : S'.bays = S.bays
  items : ∀ k v, S.container k = some v → ∃ v', S'.container k = some v' ∧ ∀ m ∈ v.items, m ∈ v'.items
  nodup : S'.queue.Nodup
  queue : ∀ i, n ≠ some i → (i ∈ S'.queue ↔ i ∈ S.queue)
  queued : ∀ i, n = some i → i ∈ S'.queue → ∃ o, S'.order i = some o ∧ o.state = .pending
  ordered : ∀ i o, n = some i → S'.order i = some o → S'.Place i o ∧ S'.Boxed i o ∧ S'.Catalogued o
  cart_order : ∀ i st m x, c = some i → S.cart i = some ⟨st, .order m, x⟩ → ¬ st.spare → n = some m
  cart_loan : ∀ i m x, c = some i → S.cart i = some ⟨.onLoan, .loan m, x⟩ → l = some m
  cart_bay : ∀ i st x j, c = some i → j < bayCount → S.cart i = some ⟨st, x, some j⟩ →
    (S.bay j).cartridge = some i → b = some j
  bay_order : ∀ i m j, b = some j → S.cart i = some ⟨.inBay, .order m, some j⟩ → (S.bay j).cartridge = some i →
    n = some m
  berthed : ∀ j, b = some j → S'.Berth j (S'.bay j)
  order_bay : ∀ i o j, n = some i → S.order i = some o → o.bay = some j → b = some j
  order_hold : ∀ i o, n = some i → S.order i = some o → o.state = .waitingCopy → t = some o.title
  titled : ∀ j v, t = some j → S.title j = some v → ∃ v', S'.title j = some v' ∧ v'.format = v.format ∧
    (∀ m ∈ v.hold, n = some m ∨ m ∈ v'.hold) ∧
    (∀ i m, v.copies.getD i .absent = .allocated m → n = some m ∨ v'.copies.getD i .absent = .allocated m) ∧
    (∀ i m, v.copies.getD i .absent = .onLoan m → l = some m ∨ v'.copies.getD i .absent = .onLoan m)
  stocked : ∀ j v, t = some j → S'.title j = some v → S'.Stocked j v
  lent : ∀ j v, l = some j → S'.loan j = some v → S'.Lent j v

theorem Step.title_kept {n c b t l : Option Nat} (h : S.Step S' n c b t l) {j : Nat} {v : TitleCore}
    (hv : S.title j = some v) : ∃ v', S'.title j = some v' ∧ v'.format = v.format ∧
      (∀ m ∈ v.hold, n = some m ∨ m ∈ v'.hold) ∧
      (∀ i m, v.copies.getD i .absent = .allocated m → n = some m ∨ v'.copies.getD i .absent = .allocated m) ∧
      (∀ i m, v.copies.getD i .absent = .onLoan m → l = some m ∨ v'.copies.getD i .absent = .onLoan m) := by
  by_cases hj : t = some j
  · exact h.titled j v hj hv
  · exact ⟨v, (h.title j hj).trans hv, rfl, fun m hm => .inr hm, fun i m hm => .inr hm, fun i m hm => .inr hm⟩

theorem Step.core (hS : S.Core) {n c b t l : Option Nat} (h : S.Step S' n c b t l) : S'.Core where
  bays := h.bays.trans hS.bays
  nodup := h.nodup
  queue := by
    intro i hi
    by_cases hn : n = some i
    · exact h.queued i hn hi
    · rw [h.order i hn]
      exact hS.queue i ((h.queue i hn).1 hi)
  place := by
    intro i o ho
    by_cases hn : n = some i
    · exact (h.ordered i o hn ho).1
    · rw [h.order i hn] at ho
      refine (hS.place i o ho).frame (h.queue i hn).2 (fun v hv hi => ?_) (fun v j hv hj => ?_)
        (fun j st x hst hj => h.cart j (fun hc => hn (h.cart_order j st i x hc hj hst))) (fun j k hk hj => ?_)
      · obtain ⟨v', hv', -, hold, -⟩ := h.title_kept hv
        exact ⟨v', hv', (hold i hi).resolve_left hn⟩
      · obtain ⟨v', hv', -, -, hcopy, -⟩ := h.title_kept hv
        exact ⟨v', hv', (hcopy j i hj).resolve_left hn⟩
      · exact h.bay j (fun hb => hn (h.bay_order k i j hb hk hj))
  boxed := by
    intro i o ho
    by_cases hn : n = some i
    · exact (h.ordered i o hn ho).2.1
    · rw [h.order i hn] at ho
      obtain ⟨hnone, hsome⟩ := hS.boxed i o ho
      refine ⟨hnone, fun hp => ?_⟩
      obtain ⟨k, v, hk, hv, hi⟩ := hsome hp
      obtain ⟨v', hv', hsub⟩ := h.items k v hv
      exact ⟨k, v', hk, hv', hsub i hi⟩
  catalogued := by
    intro i o ho
    by_cases hn : n = some i
    · exact (h.ordered i o hn ho).2.2
    · rw [h.order i hn] at ho
      obtain ⟨v, hv, hf⟩ := hS.catalogued i o ho
      obtain ⟨v', hv', hf', -⟩ := h.title_kept hv
      exact ⟨v', hv', hf'.trans hf⟩
  berth := by
    intro j hb'
    by_cases hb : b = some j
    · exact h.berthed j hb
    · rw [h.bay j hb]
      refine (hS.berth j hb').frame
        (fun i st x hi hj => h.cart i (fun hc => hb (h.cart_bay i st x j hc hb' hi hj))) (fun i o ho hi => ?_)
      rw [h.order i (fun hn => hb (h.order_bay i o j hn ho hi)), ho]
  stocked := by
    intro j v hv
    by_cases ht : t = some j
    · exact h.stocked j v ht hv
    · rw [h.title j ht] at hv
      obtain ⟨hlen, hold⟩ := hS.stocked j v hv
      refine ⟨hlen, fun i hi => ?_⟩
      obtain ⟨o, ho, hst, rfl⟩ := hold i hi
      exact ⟨o, (h.order i (fun hn => ht (h.order_hold i o hn ho hst))).trans ho, hst, rfl⟩
  lent := by
    intro j v hv
    by_cases hl : l = some j
    · exact h.lent j v hl hv
    · rw [h.loan j hl] at hv
      refine (hS.lent j v hv).frame (fun i x hi => h.cart i (fun hc => hl (h.cart_loan i j x hc hi))) (fun w hw => ?_)
      obtain ⟨w', hw', hf, -, -, hlo⟩ := h.title_kept hw
      exact ⟨w', hw', hf, fun k hk => (hlo k j hk).resolve_left hl⟩

theorem work_cases {st : BayState} {n : Nat} {ost : OrderState} {job : Option (Option Nat)}
    (h : st.work n = some (ost, job)) : (st = .writing ∧ ost = .writing ∧ job = some (some n)) ∨
      (st = .verifying ∧ ost = .verifying ∧ job = some (some n)) ∨ (st = .done ∧ ost = .ready ∧ job = none) := by
  cases st <;> simp_all [BayState.work]

/-- An order whose cartridge is in a bay. -/
theorem Core.inBay (hS : S.Core) {n b c : Nat} {o : OrderCore} (ho : S.order n = some o) (hb : o.bay = some b)
    (hc : o.serial = some c) : ∃ st job, st.work n = some (o.state, job) ∧ b < bayCount ∧
      S.bay b = ⟨st, some c, job⟩ ∧ S.cart c = some ⟨.inBay, .order n, some b⟩ := by
  cases hS.place n o ho with
  | queued _ _ h => exact absurd (h.2.1.symm.trans hb) (by simp)
  | stalled _ _ h => exact absurd (h.2.1.symm.trans hb) (by simp)
  | waiting _ _ h => exact absurd (h.2.1.symm.trans hb) (by simp)
  | inBay h1 _ _ h4 h5 h6 h7 h8 =>
    cases h5.symm.trans hb
    cases h6.symm.trans hc
    exact ⟨_, _, h1, h4, h7, h8⟩
  | shelved _ _ _ h => exact absurd (h.symm.trans hb) (by simp)
  | copied _ _ _ h => exact absurd (h.symm.trans hb) (by simp)

end Scene

end Sys2Proof.Machine

/-! ### The scene's acts

Each act changes the records of one order, and what that order has; the laws of the scene go from the scene before it
to the scene after it by `Scene.Step.core`. -/

namespace Sys2Proof.Machine.Scene

variable {S : Scene}

/-- What is asked of the record that an order number has after an act. -/
def Settled (S : Scene) (n : Nat) (v : Option OrderCore) : Prop :=
  ∀ o, v = some o → S.Place n o ∧ S.Boxed n o ∧ S.Catalogued o

/-- What is asked of the pending queue after an act on one order. -/
structure Queued (S : Scene) (n : Nat) (v : Option OrderCore) (q : List Nat) : Prop where
  nodup : q.Nodup
  others : ∀ i, i ≠ n → (i ∈ q ↔ i ∈ S.queue)
  self : n ∈ q → ∃ o, v = some o ∧ o.state = .pending

/-- What is asked of the containers: that each keeps its items. -/
def Keeps (S : Scene) (g : Nat → Option ContainerCore) : Prop :=
  ∀ k v, S.container k = some v → ∃ v', g k = some v' ∧ ∀ m ∈ v.items, m ∈ v'.items

theorem Keeps.refl : S.Keeps S.container :=
  fun _ v h => ⟨v, h, fun _ h => h⟩

/-- A queue that an order which is not PENDING is not in. -/
theorem Core.queued_same (hS : S.Core) {n : Nat} {v : Option OrderCore}
    (h : ∀ o, S.order n = some o → o.state ≠ .pending) : S.Queued n v S.queue := by
  refine ⟨hS.nodup, fun _ _ => Iff.rfl, fun hn => ?_⟩
  obtain ⟨o, ho, hp⟩ := hS.queue n hn
  exact absurd hp (h o ho)

/-! #### An order on its own -/

theorem Core.reorder (hS : S.Core) {n : Nat} {v : Option OrderCore} {q : List Nat} {g : Nat → Option ContainerCore}
    (hold : ∀ o, S.order n = some o → o.bay = none ∧ o.state ≠ .waitingCopy) (hq : S.Queued n v q) (hg : S.Keeps g)
    (hv : (((S.setOrder n v).setQueue q).setContainers g).Settled n v) :
    (((S.setOrder n v).setQueue q).setContainers g).Core := by
  have hstep : S.Step (((S.setOrder n v).setQueue q).setContainers g) (some n) none none none none := by
    constructor
    case nodup => exact hq.nodup
    case items => exact hg
    case queue => exact fun i hi => hq.others i (fun h => hi (h ▸ rfl))
    case queued =>
      rintro i ⟨⟩ hi
      simpa [setOrder, setQueue, setContainers] using hq.self hi
    case ordered =>
      rintro i o ⟨⟩ ho
      exact hv o (by simpa [setOrder, setQueue, setContainers] using ho)
    case order_bay => grind
    case order_hold => grind
    all_goals simp +contextual [setOrder, setQueue, setContainers, eq_comm]
  exact hstep.core hS

/-! #### An order and its cartridge, in a bay -/

section Bay
variable {n b c : Nat} {v : Option OrderCore} {k : Option CartCore} {r : BayCore} {q : List Nat}

theorem Core.reseat (hS : S.Core) {o : OrderCore} (ho : S.order n = some o) (hb : o.bay = some b)
    (hc : o.serial = some c) (hq : S.Queued n v q)
    (hv : ((((S.setOrder n v).setCart c k).setBay b r).setQueue q).Settled n v)
    (hr : ((((S.setOrder n v).setCart c k).setBay b r).setQueue q).Berth b r) :
    ((((S.setOrder n v).setCart c k).setBay b r).setQueue q).Core := by
  obtain ⟨st, job, hst, hbc, hbb, hcart⟩ := hS.inBay ho hb hc
  have hw := work_cases hst
  have hstep : S.Step ((((S.setOrder n v).setCart c k).setBay b r).setQueue q) (some n) (some c) (some b) none none := by
    constructor
    case nodup => exact hq.nodup
    case items => exact Keeps.refl
    case queue => exact fun i hi => hq.others i (fun h => hi (h ▸ rfl))
    case queued =>
      rintro i ⟨⟩ hi
      simpa [setOrder, setCart, setBay, setQueue] using hq.self hi
    case ordered =>
      rintro i o ⟨⟩ ho
      exact hv o (by simpa [setOrder, setCart, setBay, setQueue] using ho)
    case berthed =>
      rintro j ⟨⟩
      simpa [setOrder, setCart, setBay, setQueue] using hr
    case cart_order => grind
    case cart_loan => grind
    case cart_bay => grind
    case bay_order => grind
    case order_bay => grind
    case order_hold => grind
    all_goals simp +contextual [setOrder, setCart, setBay, setQueue, eq_comm]
  exact hstep.core hS

/-- R65: an order without a bay takes the cartridge of an ARMED bay. -/
theorem Core.seat (hS : S.Core) (hold : ∀ o, S.order n = some o → o.bay = none ∧ o.state ≠ .waitingCopy)
    {x : Binding} (hbb : S.bay b = ⟨.armed, some c, none⟩) (hcart : S.cart c = some ⟨.blank, x, some b⟩)
    (hq : S.Queued n v q) (hv : ((((S.setOrder n v).setCart c k).setBay b r).setQueue q).Settled n v)
    (hr : ((((S.setOrder n v).setCart c k).setBay b r).setQueue q).Berth b r) :
    ((((S.setOrder n v).setCart c k).setBay b r).setQueue q).Core := by
  have hstep : S.Step ((((S.setOrder n v).setCart c k).setBay b r).setQueue q) (some n) (some c) (some b) none none := by
    constructor
    case nodup => exact hq.nodup
    case items => exact Keeps.refl
    case queue => exact fun i hi => hq.others i (fun h => hi (h ▸ rfl))
    case queued =>
      rintro i ⟨⟩ hi
      simpa [setOrder, setCart, setBay, setQueue] using hq.self hi
    case ordered =>
      rintro i o ⟨⟩ ho
      exact hv o (by simpa [setOrder, setCart, setBay, setQueue] using ho)
    case berthed =>
      rintro j ⟨⟩
      simpa [setOrder, setCart, setBay, setQueue] using hr
    case cart_order => grind [CartridgeState.spare]
    case cart_loan => grind
    case cart_bay => grind
    case bay_order => grind
    case order_bay => grind
    case order_hold => grind
    all_goals simp +contextual [setOrder, setCart, setBay, setQueue, eq_comm]
  exact hstep.core hS

/-- A cartridge that no order or loan has, in a bay whose job is of no order. -/
theorem Core.rebay (hS : S.Core) (hcart : ∀ k, S.cart c = some k → k.state.spare ∧ ∀ j, k.bay = some j → j = b)
    (hbay : ∀ m st x, S.cart m = some ⟨st, x, some b⟩ → (S.bay b).cartridge = some m → st ≠ .inBay)
    (hr : ((S.setCart c k).setBay b r).Berth b r) : ((S.setCart c k).setBay b r).Core := by
  have hstep : S.Step ((S.setCart c k).setBay b r) none (some c) (some b) none none := by
    constructor
    case nodup => exact hS.nodup
    case items => exact Keeps.refl
    case berthed =>
      rintro j ⟨⟩
      simpa [setCart, setBay] using hr
    case cart_order => grind
    case cart_loan => grind [CartridgeState.spare]
    case cart_bay => grind
    case bay_order => grind
    all_goals simp +contextual [setCart, setBay, eq_comm]
  exact hstep.core hS

end Bay

/-- A cartridge outside the bays that no order or loan has. -/
theorem Core.recart (hS : S.Core) {c : Nat} {k : Option CartCore}
    (hcart : ∀ k, S.cart c = some k → k.state.spare ∧ k.bay = none) : (S.setCart c k).Core := by
  have hstep : S.Step (S.setCart c k) none (some c) none none none := by
    constructor
    case nodup => exact hS.nodup
    case items => exact Keeps.refl
    case cart_order => grind
    case cart_loan => grind [CartridgeState.spare]
    case cart_bay => grind
    all_goals simp +contextual [setCart, eq_comm]
  exact hstep.core hS

/-- An order whose cartridge is outside the bays. -/
theorem Core.shelved (hS : S.Core) {n c : Nat} {o : OrderCore} (ho : S.order n = some o) (hb : o.bay = none)
    (hc : o.serial = some c) : ∃ st, o.state.shelved = some st ∧ S.cart c = some ⟨st, .order n, none⟩ := by
  cases hS.place n o ho with
  | queued _ _ h => exact absurd (h.1.symm.trans hc) (by simp)
  | stalled _ _ h => exact absurd (h.1.symm.trans hc) (by simp)
  | waiting _ _ h => exact absurd (h.1.symm.trans hc) (by simp)
  | inBay _ _ _ _ h => exact absurd (h.symm.trans hb) (by simp)
  | shelved h1 _ _ _ h5 h6 =>
    cases h5.symm.trans hc
    exact ⟨_, h1, h6⟩
  | copied _ _ h => exact absurd (h.symm.trans hc) (by simp)

theorem shelved_cases {o : OrderState} {st : CartridgeState} (h : o.shelved = some st) :
    (o = .ready ∧ st = .written) ∨ (o = .packed ∧ st = .packed) := by
  cases o <;> simp_all [OrderState.shelved]

/-- An order and its cartridge outside the bays. -/
theorem Core.reshelve (hS : S.Core) {n c : Nat} {o : OrderCore} {v : Option OrderCore} {k : Option CartCore}
    {g : Nat → Option ContainerCore} (ho : S.order n = some o) (hb : o.bay = none) (hc : o.serial = some c)
    (hg : S.Keeps g) (hv : (((S.setOrder n v).setCart c k).setContainers g).Settled n v) :
    (((S.setOrder n v).setCart c k).setContainers g).Core := by
  obtain ⟨st, hst, hcart⟩ := hS.shelved ho hb hc
  have hw := shelved_cases hst
  have hq : S.Queued n v S.queue := hS.queued_same (by grind)
  have hstep : S.Step (((S.setOrder n v).setCart c k).setContainers g) (some n) (some c) none none none := by
    constructor
    case nodup => exact hq.nodup
    case items => exact hg
    case queued =>
      rintro i ⟨⟩ hi
      simpa [setOrder, setCart, setContainers] using hq.self hi
    case ordered =>
      rintro i o ⟨⟩ ho
      exact hv o (by simpa [setOrder, setCart, setContainers] using ho)
    case cart_order => grind
    case cart_loan => grind
    case cart_bay => grind
    case order_bay => grind
    case order_hold => grind
    all_goals simp +contextual [setOrder, setCart, setContainers, eq_comm]
  exact hstep.core hS

/-! #### An order and its copy, or its place in a hold queue -/

/-- What is asked of a title's record after an act on one order or loan. -/
structure Restocked (S : Scene) (n l : Option Nat) (t : Nat) (v w : TitleCore) : Prop where
  format : w.format = v.format
  hold : ∀ m ∈ v.hold, n = some m ∨ m ∈ w.hold
  allocated : ∀ i m, v.copies.getD i .absent = .allocated m → n = some m ∨ w.copies.getD i .absent = .allocated m
  onLoan : ∀ i m, v.copies.getD i .absent = .onLoan m → l = some m ∨ w.copies.getD i .absent = .onLoan m
  stocked : S.Stocked t w

theorem Core.recopy (hS : S.Core) {n t : Nat} {v : Option OrderCore} {w w' : TitleCore} (hw : S.title t = some w)
    (hold : ∀ o, S.order n = some o → o.bay = none ∧ o.state ≠ .pending ∧ (o.state = .waitingCopy → o.title = t))
    (hw' : ((S.setOrder n v).setTitle t (some w')).Restocked (some n) none t w w')
    (hv : ((S.setOrder n v).setTitle t (some w')).Settled n v) :
    ((S.setOrder n v).setTitle t (some w')).Core := by
  have hq : S.Queued n v S.queue := hS.queued_same (fun o ho => (hold o ho).2.1)
  obtain ⟨hformat, hhold, hallocated, honLoan, hstocked⟩ := hw'
  have hstep : S.Step ((S.setOrder n v).setTitle t (some w')) (some n) none none (some t) none := by
    constructor
    case nodup => exact hq.nodup
    case items => exact Keeps.refl
    case queued =>
      rintro i ⟨⟩ hi
      simpa [setOrder, setTitle] using hq.self hi
    case ordered =>
      rintro i o ⟨⟩ ho
      exact hv o (by simpa [setOrder, setTitle] using ho)
    case titled =>
      rintro j u ⟨⟩ hu
      cases hw.symm.trans hu
      exact ⟨w', by simp [setOrder, setTitle], hformat, hhold, hallocated, honLoan⟩
    case stocked =>
      rintro j u ⟨⟩ hu
      cases (show some w' = some u by simpa [setOrder, setTitle] using hu)
      exact hstocked
    case order_bay => grind
    case order_hold => grind
    all_goals simp +contextual [setOrder, setTitle, eq_comm]
  exact hstep.core hS

/-! #### Loans -/

/-- A cartridge that a bay holds is on loan to nobody. -/
theorem Core.berth_cart (hS : S.Core) {j i : Nat} {st : CartridgeState} {x : Binding} {y : Option Nat}
    (hj : j < bayCount) (hij : (S.bay j).cartridge = some i) (hi : S.cart i = some ⟨st, x, y⟩) : st ≠ .onLoan := by
  have hberth := hS.berth j hj
  generalize S.bay j = r at hberth hij
  cases hberth with
  | bare _ => cases hij
  | spare hsp hc =>
    cases hij
    cases hi.symm.trans hc
    rintro rfl
    simpa [CartridgeState.spare] using BayState.spare_cart hsp
  | work _ ho hb hc =>
    cases hij
    obtain ⟨_, _, _, _, _, hcart⟩ := hS.inBay ho hb hc
    cases hi.symm.trans hcart
    simp

theorem Core.lendCart (hS : S.Core) {l c : Nat} {v : Option LoanCore} {k : Option CartCore}
    (hcart : ∀ k, S.cart c = some k → (k.state.spare ∧ k.bay = none) ∨ (k.state = .onLoan ∧ k.bound = .loan l))
    (hv : ∀ u, v = some u → ((S.setCart c k).setLoan l v).Lent l u) : ((S.setCart c k).setLoan l v).Core := by
  have hstep : S.Step ((S.setCart c k).setLoan l v) none (some c) none none (some l) := by
    constructor
    case nodup => exact hS.nodup
    case items => exact Keeps.refl
    case lent =>
      rintro j u ⟨⟩ hu
      exact hv u (by simpa [setCart, setLoan] using hu)
    case cart_order => grind [CartridgeState.spare]
    case cart_loan => grind [CartridgeState.spare]
    case cart_bay =>
      rintro i st x j ⟨⟩ hj hi hij
      rcases hcart _ hi with ⟨-, hnone⟩ | ⟨honLoan, -⟩
      · cases hnone
      · exact absurd honLoan (hS.berth_cart hj hij hi)
    all_goals simp +contextual [setCart, setLoan, eq_comm]
  exact hstep.core hS

theorem Core.lendCopy (hS : S.Core) {l t : Nat} {v : Option LoanCore} {w w' : TitleCore} (hw : S.title t = some w)
    (hw' : ((S.setTitle t (some w')).setLoan l v).Restocked none (some l) t w w')
    (hv : ∀ u, v = some u → ((S.setTitle t (some w')).setLoan l v).Lent l u) :
    ((S.setTitle t (some w')).setLoan l v).Core := by
  obtain ⟨hformat, hhold, hallocated, honLoan, hstocked⟩ := hw'
  have hstep : S.Step ((S.setTitle t (some w')).setLoan l v) none none none (some t) (some l) := by
    constructor
    case nodup => exact hS.nodup
    case items => exact Keeps.refl
    case lent =>
      rintro j u ⟨⟩ hu
      exact hv u (by simpa [setTitle, setLoan] using hu)
    case titled =>
      rintro j u ⟨⟩ hu
      cases hw.symm.trans hu
      exact ⟨w', by simp [setTitle, setLoan], hformat, hhold, hallocated, honLoan⟩
    case stocked =>
      rintro j u ⟨⟩ hu
      cases (show some w' = some u by simpa [setTitle, setLoan] using hu)
      exact hstocked
    all_goals simp +contextual [setTitle, setLoan, eq_comm]
  exact hstep.core hS

/-! #### The catalogue -/

theorem Core.restock (hS : S.Core) {t : Nat} {w' : TitleCore}
    (hw' : ∀ w, S.title t = some w → (S.setTitle t (some w')).Restocked none none t w w')
    (hnew : S.title t = none → (S.setTitle t (some w')).Stocked t w') : (S.setTitle t (some w')).Core := by
  have hstep : S.Step (S.setTitle t (some w')) none none none (some t) none := by
    constructor
    case nodup => exact hS.nodup
    case items => exact Keeps.refl
    case titled =>
      rintro j u ⟨⟩ hu
      obtain ⟨hformat, hhold, hallocated, honLoan, -⟩ := hw' u hu
      exact ⟨w', by simp [setTitle], hformat, hhold, hallocated, honLoan⟩
    case stocked =>
      rintro j u ⟨⟩ hu
      cases (show some w' = some u by simpa [setTitle] using hu)
      cases ht : S.title t with
      | none => exact hnew ht
      | some w => exact (hw' w ht).stocked
    all_goals simp +contextual [setTitle, eq_comm]
  exact hstep.core hS

/-- R38: a title that no order and no loan is for may leave the catalogue. -/
theorem Core.dropTitle (hS : S.Core) {t : Nat} (ho : ∀ n o, S.order n = some o → o.title ≠ t)
    (hl : ∀ l v, S.loan l = some v → v.title ≠ t) : (S.setTitle t none).Core where
  bays := hS.bays
  nodup := hS.nodup
  queue := hS.queue
  place n o h := by
    have htitle : (S.setTitle t none).title o.title = S.title o.title := by simp [setTitle, ho n o h]
    exact (hS.place n o h).frame id (fun v hv hn => ⟨v, htitle.trans hv, hn⟩) (fun v i hv hn => ⟨v, htitle.trans hv, hn⟩)
      (fun _ _ _ _ _ => rfl) (fun _ _ _ _ => rfl)
  boxed := hS.boxed
  catalogued n o h := by
    have htitle : (S.setTitle t none).title o.title = S.title o.title := by simp [setTitle, ho n o h]
    obtain ⟨v, hv, hf⟩ := hS.catalogued n o h
    exact ⟨v, htitle.trans hv, hf⟩
  berth b hb := (hS.berth b hb).frame (fun _ _ _ _ _ => rfl) (fun _ _ h _ => h)
  stocked j v hv := by
    by_cases hj : j = t
    · simp [setTitle, hj] at hv
    · exact hS.stocked j v (by simpa [setTitle, hj] using hv)
  lent l v h := by
    have htitle : (S.setTitle t none).title v.title = S.title v.title := by simp [setTitle, hl l v h]
    exact (hS.lent l v h).frame (fun _ _ _ => rfl) (fun w hw => ⟨w, htitle.trans hw, rfl, fun _ h => h⟩)

end Sys2Proof.Machine.Scene

/-! ### The scene of a state after each act

One equation for each update of a state, and one for each act that leaves the scene. -/

namespace Sys2Proof.Machine

variable (s : State)

/-! #### The updates that change the scene -/

theorem Table.look_alter {α : Type} (t : Table α) (n m : Nat) (f : α → α) :
    (t.alter n f).look m = if m = n then (t.look n).map f else t.look m := by
  by_cases h : m = n
  · subst h
    simp
  · simp [h, Table.look_alter_other]

theorem Table.look_put {α : Type} (t : Table α) (n m : Nat) (v : α) :
    (t.put n v).look m = if m = n then some v else t.look m := by
  by_cases h : m = n
  · subst h
    simp
  · simp [h, Table.look_put_other]

theorem Table.look_drop {α : Type} (t : Table α) (n m : Nat) :
    (t.drop n).look m = if m = n then none else t.look m := by
  by_cases h : m = n
  · subst h
    simp
  · simp [h, Table.look_drop_other]

theorem State.scene_setQueue (q : List Nat) : (s.setQueue q).scene = s.scene.setQueue q := rfl

theorem State.scene_onOrder (n : Nat) (f : Order → Order) :
    (s.onOrder n f).scene = s.scene.setOrder n ((s.order n).map (fun o => (f o).core)) := by
  simp only [State.scene, Scene.setOrder]
  congr 1
  funext m
  simp only [State.order, State.onOrder_book, Table.look_alter, Function.update_apply]
  split <;> simp [Function.comp_def]

theorem State.scene_dropOrder (n : Nat) : (s.dropOrder n).scene = s.scene.setOrder n none := by
  simp only [State.scene, Scene.setOrder]
  congr 1
  funext m
  simp only [State.order, State.dropOrder, Table.look_drop, Function.update_apply]
  split <;> simp

theorem State.scene_onTitle (t : Nat) (f : Title → Title) :
    (s.onTitle t f).scene = s.scene.setTitle t ((s.title t).map (fun v => (f v).core)) := by
  simp only [State.scene, Scene.setTitle]
  congr 1
  funext m
  simp only [State.title, State.onTitle_titles, Table.look_alter, Function.update_apply]
  split <;> simp [Function.comp_def]

theorem State.scene_onCart (c : Nat) (f : Cartridge → Cartridge) :
    (s.onCart c f).scene = s.scene.setCart c ((s.cart c).map (fun k => (f k).core)) := by
  simp only [State.scene, Scene.setCart]
  congr 1
  funext m
  simp only [State.cart, State.onCart_carts, Table.look_alter, Function.update_apply]
  split <;> simp [Function.comp_def]

theorem State.scene_setBay {b : Nat} (hb : b < s.bays.length) (r : Bay) :
    (s.setBay b r).scene = s.scene.setBay b r.core := by
  simp only [State.scene, Scene.setBay, State.setBay_bays, List.length_set]
  congr 1
  funext a
  simp only [Function.update_apply]
  split
  · next h => rw [h, s.bay_setBay_same hb]
  · next h => rw [s.bay_setBay_other h]

theorem State.scene_onContainer (m : Nat) (f : Container → Container) :
    (s.onContainer m f).scene = s.scene.setContainers
      (Function.update s.scene.container m ((s.container m).map (fun c => (f c).core))) := by
  simp only [State.scene, Scene.setContainers]
  congr 1
  funext i
  simp only [State.container, State.onContainer_packing, Table.look_alter, Function.update_apply]
  split <;> simp [Function.comp_def]

theorem State.scene_onPatron (p : Nat) (f : Patron → Patron) :
    (s.onPatron p f).scene = s.scene.setOpen p ((s.patron p).bind (fun v => (f v).openContainer)) := by
  simp only [State.scene, Scene.setOpen]
  congr 1
  funext i
  simp only [State.patron, State.onPatron_patrons, Table.look_alter, Function.update_apply]
  split
  · cases s.patrons.look p <;> rfl
  · rfl

/-! #### The updates that leave the scene -/

@[simp] theorem State.scene_onUnit (p : Port) (f : PortUnit → PortUnit) : (s.onUnit p f).scene = s.scene := rfl
@[simp] theorem State.scene_raise (p : Port) (k : NoticeKind) (n : Nat) (d : List Field) :
    (s.raise p k n d).scene = s.scene := rfl
@[simp] theorem State.scene_clocked (h : Header) : (s.clocked h).scene = s.scene := rfl
@[simp] theorem State.scene_onRack (f : Scheduler → Scheduler) : (s.onRack f).scene = s.scene := rfl
@[simp] theorem State.scene_joinPool (n : Nat) : (s.joinPool n).scene = s.scene := rfl
@[simp] theorem State.scene_joinBacklog (n : Nat) : (s.joinBacklog n).scene = s.scene := rfl
@[simp] theorem State.scene_leaveQueues (n : Nat) : (s.leaveQueues n).scene = s.scene := rfl
@[simp] theorem State.scene_onBag (n : Nat) (f : Bag → Bag) : (s.onBag n f).scene = s.scene := rfl
@[simp] theorem State.scene_noteChange (e : Nat × Order) : (s.noteChange e).scene = s.scene := rfl
@[simp] theorem State.scene_withClock (c : Clock) : ({ s with clock := c } : State).scene = s.scene := rfl
@[simp] theorem State.scene_clearLaneCounts : s.clearLaneCounts.scene = s.scene := rfl

theorem State.scene_onOrders {f : Nat → Order → Order} (hf : ∀ n o, (f n o).core = o.core) :
    (s.onOrders f).scene = s.scene := by
  simp only [State.scene]
  congr 1
  funext m
  simp [State.order, State.onOrders, Function.comp_def, hf]

theorem Scene.setOrder_self (S : Scene) (n : Nat) : S.setOrder n (S.order n) = S :=
  congrArg (fun g => { S with order := g }) (Function.update_eq_self n S.order)

theorem Scene.setCart_self (S : Scene) (n : Nat) : S.setCart n (S.cart n) = S :=
  congrArg (fun g => { S with cart := g }) (Function.update_eq_self n S.cart)

theorem Scene.setBay_self (S : Scene) (n : Nat) : S.setBay n (S.bay n) = S :=
  congrArg (fun g => { S with bay := g }) (Function.update_eq_self n S.bay)

theorem Scene.setTitle_self (S : Scene) (n : Nat) : S.setTitle n (S.title n) = S :=
  congrArg (fun g => { S with title := g }) (Function.update_eq_self n S.title)

theorem Scene.setOpen_self (S : Scene) (n : Nat) : S.setOpen n (S.openOf n) = S :=
  congrArg (fun g => { S with openOf := g }) (Function.update_eq_self n S.openOf)

theorem State.scene_onOrder_of (n : Nat) {f : Order → Order} (hf : ∀ o, (f o).core = o.core) :
    (s.onOrder n f).scene = s.scene := by
  rw [s.scene_onOrder, funext hf]
  exact s.scene.setOrder_self n

theorem State.scene_onCart_of (n : Nat) {f : Cartridge → Cartridge} (hf : ∀ k, (f k).core = k.core) :
    (s.onCart n f).scene = s.scene := by
  rw [s.scene_onCart, funext hf]
  exact s.scene.setCart_self n

theorem State.scene_onPatron_of (n : Nat) {f : Patron → Patron} (hf : ∀ p, (f p).openContainer = p.openContainer) :
    (s.onPatron n f).scene = s.scene := by
  rw [s.scene_onPatron, funext hf]
  exact s.scene.setOpen_self n

theorem State.scene_onContainer_of (n : Nat) {f : Container → Container} (hf : ∀ c, (f c).core = c.core) :
    (s.onContainer n f).scene = s.scene := by
  rw [s.scene_onContainer, funext hf]
  exact congrArg (fun g => { s.scene with container := g }) (Function.update_eq_self n s.scene.container)

@[simp] theorem Order.stoppedForm_core (o : Order) : o.stoppedForm.core = o.core := rfl
@[simp] theorem State.project_core (o : Order) (r : Nat) : (s.project o r).core = o.core := rfl
@[simp] theorem State.verifyForm_core (o : Order) : (s.verifyForm o).core = o.core := rfl
@[simp] theorem State.readyForm_core (o : Order) : (s.readyForm o).core = o.core := rfl

@[simp] theorem State.writingForm_core (t : Nat) (o : Order) : (s.writingForm t o).core = o.core := by
  obtain ⟨q, tag, h⟩ := s.writingForm_fields t o
  rw [h]
  rfl

@[simp] theorem State.dayForm_core (d : Bool) (o : Order) : (s.dayForm d o).core = o.core := by
  unfold State.dayForm
  split <;> simp only [State.writingForm_core, State.verifyForm_core, State.project_core]

@[simp] theorem State.scene_recomputeWriting (t : Nat) : (s.recomputeWriting t).scene = s.scene :=
  s.scene_onOrders (fun _ o => by split <;> simp only [State.writingForm_core])

@[simp] theorem State.scene_stopProjections : s.stopProjections.scene = s.scene :=
  s.scene_onOrders (fun _ o => by split <;> simp only [Order.stoppedForm_core])

@[simp] theorem State.scene_dayRecompute (d : Bool) : (s.dayRecompute d).scene = s.scene :=
  s.scene_onOrders (fun _ o => s.dayForm_core d o)

@[simp] theorem State.scene_tagsLate : s.tagsLate.scene = s.scene :=
  s.scene_onOrders (fun _ o => by split <;> rfl)

@[simp] theorem State.scene_bagNotice (n : Nat) : (s.bagNotice n).scene = s.scene := by
  unfold State.bagNotice
  split <;> rfl

@[simp] theorem State.scene_hold (n : Nat) : (s.hold n).scene = s.scene :=
  s.scene_onContainer_of n (fun _ => rfl)

@[simp] theorem State.scene_idleSecond : s.idleSecond.scene = s.scene := by
  simp only [State.scene]
  congr 1
  funext m
  simp only [State.container, State.idleSecond, Table.look_mapRecords, Option.map_map]
  rfl

@[simp] theorem State.scene_overdueNotice (e : Nat × Nat) : (s.overdueNotice e).scene = s.scene := by
  unfold State.overdueNotice
  split <;> rfl

theorem Patron.sweep_openContainer (p : Patron) (n : Nat) : (p.sweep n).openContainer = p.openContainer := by
  unfold Patron.sweep
  split <;> rfl

@[simp] theorem State.scene_sweep : s.sweep.scene = s.scene := by
  simp only [State.sweep]
  rw [foldl_keeps State.scene _ (fun s e => s.scene_overdueNotice e)]
  simp only [State.scene]
  congr 1
  · funext l
    simp only [State.loan, Table.look_mapRecords, Option.map_map]
    refine congrArg (fun f => Option.map f _) (funext (fun v => ?_))
    simp only [Function.comp]
    split <;> rfl
  · funext p
    simp only [State.patron, Table.look_mapRecords]
    cases s.patrons.look p <;> simp [Patron.sweep_openContainer]

@[simp] theorem State.scene_startRound : s.startRound.scene = s.scene := by
  simp [State.startRound]

@[simp] theorem State.scene_stopRack : s.stopRack.scene = s.scene := by
  simp [State.stopRack]

@[simp] theorem State.scene_beginRound : s.beginRound.state.scene = s.scene := by
  simp only [State.beginRound]
  (repeat' split) <;> simp [answer, State.grantSlot]

@[simp] theorem State.scene_nextSlice : s.nextSlice.state.scene = s.scene := by
  unfold State.nextSlice
  (repeat' split) <;> simp [answer, State.grantSlot, State.roundDone]

@[simp] theorem State.scene_laneError (k : ErrorKind) (i : GivenItem) (c : Option Nat) :
    (s.laneError k i c).scene = s.scene := by
  simp only [State.laneError]
  split <;> rfl

theorem State.scene_credit {b : Nat} (hb : b < s.bays.length) (n : Nat) : (s.credit b n).scene = s.scene := by
  simp only [State.credit]
  have hcore : ({ s.bay b with job := (s.bay b).job.map (fun j => { j with remaining := j.remaining - n }) } : Bay).core =
      s.scene.bay b := by
    cases hj : (s.bay b).job <;> simp [State.scene, Bay.core, hj]
  rw [s.scene_setBay hb, hcore]
  exact s.scene.setBay_self b

end Sys2Proof.Machine

/-! ### The laws of the scene: containers closed, sealed and bagged -/

namespace Sys2Proof.Machine

namespace Scene

variable {S : Scene}

theorem Boxes.but (hS : S.Boxes) (j : Nat) : S.BoxesBut j :=
  fun m c hc => ⟨(hS m c hc).1, fun _ => (hS m c hc).2⟩

/-- What a container holds does not depend on the orders that are not PACKED. -/
theorem Filled.frame {S' : Scene} {m : Nat} {c : ContainerCore} (h : S.Filled m c)
    (horder : ∀ n o, S.order n = some o → o.state = .packed → o.container = some m → S'.order n = some o) : S'.Filled m c := by
  obtain ⟨hnodup, hone, hthree, hbraille, hitems⟩ := h
  refine ⟨hnodup, hone, hthree, hbraille, fun n hn => ?_⟩
  obtain ⟨o, ho, hst, hm, hrest⟩ := hitems n hn
  exact ⟨o, horder n o ho hst hm, hst, hm, hrest⟩

theorem Boxes.frame {S' : Scene} (hS : S.Boxes)
    (horder : ∀ n o, S.order n = some o → o.state = .packed → S'.order n = some o)
    (hcont : S'.container = S.container) (hopen : S'.openOf = S.openOf) : S'.Boxes := by
  intro m c hc
  rw [hcont] at hc
  obtain ⟨hfilled, hlid⟩ := hS m c hc
  exact ⟨hfilled.frame (fun n o ho hst _ => horder n o ho hst), by rwa [Lid, hopen]⟩

theorem Core.recontain (hS : S.Core) {g : Nat → Option ContainerCore} (hg : S.Keeps g) (p : Nat) (x : Option Nat) :
    ((S.setContainers g).setOpen p x).Core := by
  have hstep : S.Step ((S.setContainers g).setOpen p x) none none none none none := by
    constructor
    case nodup => exact hS.nodup
    case items => exact hg
    all_goals simp [setContainers, setOpen]
  exact hstep.core hS

/-- A container no longer OPEN. -/
def ContainerCore.shut (c : ContainerCore) : ContainerCore :=
  { c with opened := false }

/-- The containers with one no longer OPEN. -/
def shut (S : Scene) (m : Nat) : Nat → Option ContainerCore :=
  Function.update S.container m ((S.container m).map ContainerCore.shut)

theorem shut_eq_some {m k : Nat} {v : ContainerCore} (h : S.shut m k = some v) :
    (k = m ∧ ∃ c, S.container m = some c ∧ v = ContainerCore.shut c) ∨ (k ≠ m ∧ S.container k = some v) := by
  by_cases hk : k = m
  · subst hk
    obtain ⟨c, hc, rfl⟩ := Option.map_eq_some_iff.1 ((Function.update_self k _ _).symm.trans h)
    exact .inl ⟨rfl, c, hc, rfl⟩
  · exact .inr ⟨hk, (Function.update_of_ne hk _ _).symm.trans h⟩

theorem Keeps.shut (m : Nat) : S.Keeps (S.shut m) := by
  intro k v hv
  by_cases hk : k = m
  · subst hk
    exact ⟨ContainerCore.shut v, by simp [Scene.shut, hv], fun _ h => h⟩
  · exact ⟨v, by simp [Scene.shut, hk, hv], fun _ h => h⟩

/-- R130: a patron's open container field that named the container may name none, or stay. -/
theorem BoxesBut.shut {m : Nat} (hS : S.BoxesBut m) (p : Nat) {x : Option Nat}
    (hx : ∀ j, S.openOf p = some j → j ≠ m → x = some j) : ((S.setContainers (S.shut m)).setOpen p x).Boxes := by
  intro k v hv
  rcases shut_eq_some hv with ⟨rfl, c, hc, rfl⟩ | ⟨hk, hv⟩
  · exact ⟨(hS k c hc).1, nofun⟩
  · obtain ⟨hfilled, hlid⟩ := hS k v hv
    refine ⟨hfilled, fun h => ?_⟩
    obtain ⟨hb, hlen, hopen⟩ := hlid hk h
    refine ⟨hb, hlen, ?_⟩
    by_cases hp : v.patron = p
    · simp only [setOpen, hp, Function.update_self]
      exact hx k (hp ▸ hopen) hk
    · simpa [setOpen, setContainers, hp] using hopen

end Scene

/-- The laws that the scene of a state keeps. -/
structure State.Sound (s : State) : Prop where
  core : s.scene.Core
  boxes : s.scene.Boxes

/-- The laws that the scene of a state keeps, but for the OPEN state of one container. -/
structure State.SoundBut (s : State) (m : Nat) : Prop where
  core : s.scene.Core
  boxes : s.scene.BoxesBut m

theorem State.Sound.but {s : State} (hs : s.Sound) (m : Nat) : s.SoundBut m :=
  ⟨hs.core, hs.boxes.but m⟩

/-- R130. -/
theorem State.SoundBut.closeContainer {s : State} {m : Nat} (hs : s.SoundBut m) : (s.closeContainer m).Sound := by
  unfold State.closeContainer
  split
  · next hnone =>
    refine ⟨hs.core, fun k v hv => ⟨(hs.boxes k v hv).1, (hs.boxes k v hv).2 ?_⟩⟩
    rintro rfl
    simp [State.scene, hnone] at hv
  · next c _ =>
    have hg : Function.update s.scene.container m ((s.container m).map (fun c =>
        ({ c with state := .closed, idle := none, held := false } : Container).core)) = s.scene.shut m := by
      simp only [Scene.shut, State.scene, Option.map_map]
      rfl
    obtain ⟨x, hscene, hx⟩ : ∃ x, ((s.onContainer m (fun c => { c with state := .closed, idle := none, held := false })).onPatron
        c.patron (fun p => if p.openContainer = some m then { p with openContainer := none } else p)).scene =
        (s.scene.setContainers (s.scene.shut m)).setOpen c.patron x ∧
        ∀ j, s.scene.openOf c.patron = some j → j ≠ m → x = some j := by
      refine ⟨_, by rw [State.scene_onPatron, State.scene_onContainer, hg], fun j hj hne => ?_⟩
      obtain ⟨p, hp, hpj⟩ := Option.bind_eq_some_iff.1 hj
      have hp' : (s.onContainer m (fun c => { c with state := .closed, idle := none, held := false })).patron c.patron =
        some p := hp
      simp [hp', hpj, hne]
    exact ⟨hscene ▸ hs.core.recontain (Scene.Keeps.shut m) _ _, hscene ▸ hs.boxes.shut _ hx⟩

namespace State.Sound

variable {s : State}

theorem of_scene {t : State} (hs : s.Sound) (h : t.scene = s.scene) : t.Sound :=
  ⟨h ▸ hs.core, h ▸ hs.boxes⟩

theorem bays (hs : s.Sound) : s.bays.length = bayCount := hs.core.bays

/-- A container taken out of state OPEN, its patron's field left. -/
theorem onContainer (hs : s.Sound) (m : Nat) {f : Container → Container}
    (hf : ∀ c, (f c).core = Scene.ContainerCore.shut c.core) : (s.onContainer m f).Sound := by
  have hg : Function.update s.scene.container m ((s.container m).map (fun c => (f c).core)) = s.scene.shut m := by
    simp [Scene.shut, State.scene, Function.comp_def, hf]
  have hscene : (s.onContainer m f).scene =
      (s.scene.setContainers (s.scene.shut m)).setOpen m (s.scene.openOf m) := by
    rw [State.scene_onContainer, hg]
    exact (Scene.setOpen_self _ m).symm
  refine ⟨hscene ▸ hs.core.recontain (Scene.Keeps.shut m) _ _, hscene ▸ (hs.boxes.but m).shut m ?_⟩
  exact fun j hj _ => hj

theorem closeContainer (hs : s.Sound) (m : Nat) : (s.closeContainer m).Sound :=
  (hs.but m).closeContainer

theorem closeWithNotice (hs : s.Sound) (m : Nat) (c : CloseCause) : (s.closeWithNotice m c).Sound := by
  unfold State.closeWithNotice
  split
  · exact hs
  · exact (hs.closeContainer m).of_scene (State.scene_raise ..)

theorem reexamine (hs : s.Sound) (n : Nat) : (s.reexamine n).Sound := by
  obtain h | ⟨c, h⟩ := s.reexamine_cases n
  · rwa [h]
  · rw [h]
    exact hs.closeWithNotice c _

theorem reexamineOf (hs : s.Sound) (n : Nat) : (s.reexamineOf n).Sound := by
  unfold State.reexamineOf
  split
  · exact hs.reexamine _
  · exact hs

theorem foldl {α : Type} {f : State → α → State} (hf : ∀ s a, s.Sound → (f s a).Sound) (l : List α) {s : State}
    (hs : s.Sound) : (l.foldl f s).Sound := by
  induction l generalizing s with
  | nil => exact hs
  | cons a l ih => exact ih (hf s a hs)

theorem settle (hs : s.Sound) (b : Table Order) : (s.settle b).Sound := by
  refine foldl (fun s e h => h.reexamine e.1) _ (foldl (fun s e h => h.of_scene (State.scene_noteChange s e)) _ hs)

theorem idleExpire (hs : s.Sound) (m : Nat) : (s.idleExpire m).Sound := by
  unfold State.idleExpire
  split
  · exact hs
  · split
    · exact hs.of_scene (State.scene_hold s m)
    · exact hs.closeWithNotice m _

theorem lastCall (hs : s.Sound) : s.lastCall.Sound := by
  have hclosed := foldl (fun s m h => h.closeWithNotice m .lastCall) s.openContainers
    (hs.of_scene (State.scene_raise s .mail .lastCall s.clock.day [u2 s.openContainers.length]))
  exact hclosed.of_scene (State.scene_tagsLate _)

theorem closeBag (hs : s.Sound) (n : Nat) (c : Bool) : (s.closeBag n c).Sound := by
  unfold State.closeBag
  split
  · exact hs
  · exact foldl (fun s m h => h.onContainer m (fun _ => rfl)) _ (hs.of_scene (State.scene_onBag ..))

theorem cutOff (hs : s.Sound) : s.cutOff.Sound :=
  foldl (fun _ n h => (h.closeBag n true).of_scene (State.scene_bagNotice _ n)) _ (hs.of_scene (State.scene_raise ..))

theorem enterMailDay (hs : s.Sound) : s.enterMailDay.Sound := by
  have hderive : s.derive.Sound := hs.of_scene rfl
  have hcalled : (if runsLastCall s.clock.mailDay s.clock.derived then s.derive.lastCall else s.derive).Sound := by
    split
    · exact hderive.lastCall
    · exact hderive
  rw [State.enterMailDay_eq]
  split
  · exact hcalled.cutOff
  · exact hcalled

theorem rollover (hs : s.Sound) : s.rollover.Sound := by
  refine enterMailDay (hs.of_scene ?_)
  simp

theorem advanceSecond (hs : s.Sound) : s.advanceSecond.Sound := by
  refine settle ?_ _
  split
  · exact rollover (hs.of_scene (State.scene_idleSecond s))
  · exact enterMailDay (hs.of_scene (State.scene_idleSecond s))

theorem expireSlot (hs : s.Sound) : s.expireSlot.Sound := by
  unfold State.expireSlot
  split
  · exact hs
  · exact settle (hs.of_scene (by simp)) _

/-! #### Bags -/

theorem joinBag (hs : s.Sound) (m b : Nat) : (s.joinBag m b).Sound := by
  have hjoin : ((s.onBag b (fun g => { g with containers := g.containers ++ [m] })).onContainer m
      (fun c => { c with state := .sealed, bag := some b })).Sound :=
    onContainer (hs.of_scene (State.scene_onBag ..)) m (fun _ => rfl)
  simp only [State.joinBag]
  split
  · exact hjoin
  · split
    · exact (hjoin.closeBag b false).of_scene (State.scene_bagNotice _ b)
    · exact hjoin

theorem bagContainer (hs : s.Sound) {n region : Nat} {r : State × Nat} (hr : s.bagContainer n region = some r) :
    r.1.Sound := by
  unfold State.bagContainer at hr
  split at hr
  · cases hr
    exact hs.joinBag n _
  · split at hr
    · cases hr
      have hnew : (s.newBag region).1.Sound := hs.of_scene rfl
      exact hnew.joinBag n _
    · cases hr

theorem drainOne (hs : s.Sound) (n : Nat) : (s.drainOne n).Sound := by
  unfold State.drainOne
  split
  · exact hs
  · split
    · exact hs
    · next r hr =>
      have hbagged := hs.bagContainer hr
      exact ⟨hbagged.core, hbagged.boxes⟩

theorem drain (hs : s.Sound) : s.drain.Sound :=
  foldl (fun _ n h => h.drainOne n) _ hs

theorem waitForBag (hs : s.Sound) (n : Nat) : (s.waitForBag n).Sound := by
  have hwaits : (s.onContainer n (fun c => { c with state := .waitingBag })).Sound := hs.onContainer n (fun _ => rfl)
  exact ⟨hwaits.core, hwaits.boxes⟩

end State.Sound

end Sys2Proof.Machine

/-! ### The laws of the scene: one order, and what it has

The acts of the scene, as acts on a state: what the state's scene is afterwards, and what that asks of the records
that changed. -/

namespace Sys2Proof.Machine

/-! #### The pending queue -/

theorem joinTail_perm (rush : Nat → Bool) (n : Nat) (q : List Nat) : (joinTail rush n q).Perm (n :: q) := by
  unfold joinTail
  split
  · exact List.perm_middle.trans (by rw [List.takeWhile_append_dropWhile])
  · exact List.perm_append_singleton n q

theorem joinHead_perm (rush : Nat → Bool) (n : Nat) (q : List Nat) : (joinHead rush n q).Perm (n :: q) := by
  unfold joinHead
  split
  · exact .refl _
  · exact List.perm_middle.trans (by rw [List.takeWhile_append_dropWhile])

namespace Scene

variable {S : Scene}

theorem Core.not_queued (hS : S.Core) {n : Nat} (h : ∀ o, S.order n = some o → o.state ≠ .pending) : n ∉ S.queue := by
  intro hn
  obtain ⟨o, ho, hst⟩ := hS.queue n hn
  exact h o ho hst

/-- R9: an order that becomes PENDING joins the queue. -/
theorem Core.queued_join (hS : S.Core) {n : Nat} (h : ∀ o, S.order n = some o → o.state ≠ .pending) {q : List Nat}
    (hq : q.Perm (n :: S.queue)) {o : OrderCore} (ho : o.state = .pending) : S.Queued n (some o) q where
  nodup := hq.nodup_iff.2 (List.nodup_cons.2 ⟨hS.not_queued h, hS.nodup⟩)
  others i hi := by simp [hq.mem_iff, hi]
  self _ := ⟨o, rfl, ho⟩

/-- R16, R64: an order that is no longer PENDING leaves the queue. -/
theorem Core.queued_leave (hS : S.Core) (n : Nat) (v : Option OrderCore) :
    S.Queued n v (S.queue.filter (· != n)) where
  nodup := hS.nodup.filter _
  others i hi := by simp [List.mem_filter, hi]
  self h := by simp [List.mem_filter] at h

/-- An order outside the containers, for a title that stays in the catalogue. -/
theorem Core.settled (hS : S.Core) {S' : Scene} {n : Nat} {o o' : OrderCore} (ho : S.order n = some o)
    (htitle : ∀ w, S.title o.title = some w → ∃ w', S'.title o.title = some w' ∧ w'.format = w.format)
    (hplace : S'.Place n o') (hT : o'.title = o.title) (hF : o'.format = o.format) (hC : o'.container = none)
    (hst : o'.state ≠ .packed) : S'.Settled n (some o') := by
  rintro _ ⟨⟩
  obtain ⟨w, hw, hf⟩ := hS.catalogued n o ho
  obtain ⟨w', hw', hf'⟩ := htitle w hw
  exact ⟨hplace, ⟨fun _ => hC, fun h => absurd h hst⟩, w', hT ▸ hw', hf'.trans (hf.trans hF.symm)⟩

theorem settled_none {n : Nat} : S.Settled n none := nofun

theorem Core.container_none (hS : S.Core) {n : Nat} {o : OrderCore} (ho : S.order n = some o) (h : o.state ≠ .packed) :
    o.container = none :=
  (hS.boxed n o ho).1 h

theorem Boxes.of_unpacked {S' : Scene} (hS : S.Boxes) {n : Nat} (h : ∀ o, S.order n = some o → o.state ≠ .packed)
    (horder : ∀ i, i ≠ n → S'.order i = S.order i) (hcont : S'.container = S.container) (hopen : S'.openOf = S.openOf) :
    S'.Boxes := by
  refine hS.frame (fun i o ho hp => ?_) hcont hopen
  by_cases hi : i = n
  · subst hi
    exact absurd hp (h o ho)
  · exact (horder i hi).trans ho

end Scene

theorem State.scene_order {s : State} {n : Nat} {o : Order} (h : s.order n = some o) : s.scene.order n = some o.core := by
  simp [State.scene, h]

theorem State.scene_cart {s : State} {c : Nat} {k : Cartridge} (h : s.cart c = some k) : s.scene.cart c = some k.core := by
  simp [State.scene, h]

theorem State.scene_title {s : State} {t : Nat} {v : Title} (h : s.title t = some v) : s.scene.title t = some v.core := by
  simp [State.scene, h]

/-! #### The acts, as acts on a state -/

namespace State.Sound

open Scene

variable {s t : State} {n b c : Nat} {v : Option OrderCore} {k : Option CartCore} {r : BayCore} {q : List Nat}

/-- An order without a bay, a cartridge or a copy, before and after. -/
theorem reorder (hs : s.Sound)
    (hold : ∀ o, s.order n = some o → o.bay = none ∧ o.state ≠ .waitingCopy ∧ o.state ≠ .packed)
    (hscene : t.scene = (s.scene.setOrder n v).setQueue q) (hq : s.scene.Queued n v q)
    (hv : ((s.scene.setOrder n v).setQueue q).Settled n v) : t.Sound := by
  have hold' : ∀ o, s.scene.order n = some o → o.bay = none ∧ o.state ≠ .waitingCopy ∧ o.state ≠ .packed := by
    intro _ ho
    obtain ⟨o, hord, rfl⟩ := Option.map_eq_some_iff.1 ho
    exact hold o hord
  constructor
  · rw [hscene]
    exact hs.core.reorder (fun o ho => ⟨(hold' o ho).1, (hold' o ho).2.1⟩) hq Keeps.refl hv
  · rw [hscene]
    exact hs.boxes.of_unpacked (fun o ho => (hold' o ho).2.2) (fun i hi => Function.update_of_ne hi _ _) rfl rfl

theorem reseat (hs : s.Sound) {o : Order} (ho : s.order n = some o) (hb : o.bay = some b) (hc : o.serial = some c)
    (hscene : t.scene = (((s.scene.setOrder n v).setCart c k).setBay b r).setQueue q) (hq : s.scene.Queued n v q)
    (hv : ((((s.scene.setOrder n v).setCart c k).setBay b r).setQueue q).Settled n v)
    (hr : ((((s.scene.setOrder n v).setCart c k).setBay b r).setQueue q).Berth b r) : t.Sound := by
  have ho' := State.scene_order ho
  constructor
  · rw [hscene]
    exact hs.core.reseat ho' hb hc hq hv hr
  · obtain ⟨st, job, hst, -⟩ := hs.core.inBay ho' hb hc
    have hunpacked : ∀ o, s.scene.order n = some o → o.state ≠ .packed := by
      intro o hn
      cases ho'.symm.trans hn
      rcases work_cases hst with ⟨-, h, -⟩ | ⟨-, h, -⟩ | ⟨-, h, -⟩ <;> simp [h]
    rw [hscene]
    exact hs.boxes.of_unpacked hunpacked (fun i hi => Function.update_of_ne hi _ _) rfl rfl

theorem seat (hs : s.Sound)
    (hold : ∀ o, s.order n = some o → o.bay = none ∧ o.state ≠ .waitingCopy ∧ o.state ≠ .packed) {x : Binding}
    (hbay : s.scene.bay b = ⟨.armed, some c, none⟩) (hcart : s.scene.cart c = some ⟨.blank, x, some b⟩)
    (hscene : t.scene = (((s.scene.setOrder n v).setCart c k).setBay b r).setQueue q) (hq : s.scene.Queued n v q)
    (hv : ((((s.scene.setOrder n v).setCart c k).setBay b r).setQueue q).Settled n v)
    (hr : ((((s.scene.setOrder n v).setCart c k).setBay b r).setQueue q).Berth b r) : t.Sound := by
  have hold' : ∀ o, s.scene.order n = some o → o.bay = none ∧ o.state ≠ .waitingCopy ∧ o.state ≠ .packed := by
    intro _ ho
    obtain ⟨o, hord, rfl⟩ := Option.map_eq_some_iff.1 ho
    exact hold o hord
  constructor
  · rw [hscene]
    exact hs.core.seat (fun o ho => ⟨(hold' o ho).1, (hold' o ho).2.1⟩) hbay hcart hq hv hr
  · rw [hscene]
    exact hs.boxes.of_unpacked (fun o ho => (hold' o ho).2.2) (fun i hi => Function.update_of_ne hi _ _) rfl rfl

theorem rebay (hs : s.Sound) (hcart : ∀ k, s.scene.cart c = some k → k.state.spare ∧ ∀ j, k.bay = some j → j = b)
    (hbay : ∀ m st x, s.scene.cart m = some ⟨st, x, some b⟩ → (s.scene.bay b).cartridge = some m → st ≠ .inBay)
    (hscene : t.scene = (s.scene.setCart c k).setBay b r) (hr : ((s.scene.setCart c k).setBay b r).Berth b r) :
    t.Sound := by
  constructor
  · rw [hscene]
    exact hs.core.rebay hcart hbay hr
  · rw [hscene]
    exact hs.boxes.frame (fun _ _ h _ => h) rfl rfl

theorem recart (hs : s.Sound) (hcart : ∀ k, s.scene.cart c = some k → k.state.spare ∧ k.bay = none)
    (hscene : t.scene = s.scene.setCart c k) : t.Sound := by
  constructor
  · rw [hscene]
    exact hs.core.recart hcart
  · rw [hscene]
    exact hs.boxes.frame (fun _ _ h _ => h) rfl rfl

/-- A READY order's cartridge outside the bays. -/
theorem reshelve (hs : s.Sound) {o : Order} (ho : s.order n = some o) (hst : o.state ≠ .packed) (hb : o.bay = none)
    (hc : o.serial = some c) (hscene : t.scene = (s.scene.setOrder n v).setCart c k)
    (hv : ((s.scene.setOrder n v).setCart c k).Settled n v) : t.Sound := by
  have ho' := State.scene_order ho
  constructor
  · rw [hscene]
    exact hs.core.reshelve ho' hb hc Keeps.refl hv
  · have hunpacked : ∀ o, s.scene.order n = some o → o.state ≠ .packed := by
      intro o hn
      cases ho'.symm.trans hn
      exact hst
    rw [hscene]
    exact hs.boxes.of_unpacked hunpacked (fun i hi => Function.update_of_ne hi _ _) rfl rfl

theorem recopy (hs : s.Sound) {title : Nat} {w : Title} {w' : TitleCore} (hw : s.title title = some w)
    (hold : ∀ o, s.order n = some o → o.bay = none ∧ o.state ≠ .pending ∧ o.state ≠ .packed ∧
      (o.state = .waitingCopy → o.title = title))
    (hscene : t.scene = (s.scene.setOrder n v).setTitle title (some w'))
    (hw' : ((s.scene.setOrder n v).setTitle title (some w')).Restocked (some n) none title w.core w')
    (hv : ((s.scene.setOrder n v).setTitle title (some w')).Settled n v) : t.Sound := by
  have hold' : ∀ o, s.scene.order n = some o → o.bay = none ∧ o.state ≠ .pending ∧ o.state ≠ .packed ∧
      (o.state = .waitingCopy → o.title = title) := by
    intro _ ho
    obtain ⟨o, hord, rfl⟩ := Option.map_eq_some_iff.1 ho
    exact hold o hord
  constructor
  · rw [hscene]
    exact hs.core.recopy (State.scene_title hw) (fun o ho => ⟨(hold' o ho).1, (hold' o ho).2.1, (hold' o ho).2.2.2⟩)
      hw' hv
  · rw [hscene]
    exact hs.boxes.of_unpacked (fun o ho => (hold' o ho).2.2.1) (fun i hi => Function.update_of_ne hi _ _) rfl rfl

theorem lendCart (hs : s.Sound) {l : Nat} {u : Option LoanCore}
    (hcart : ∀ k, s.scene.cart c = some k → (k.state.spare ∧ k.bay = none) ∨ (k.state = .onLoan ∧ k.bound = .loan l))
    (hscene : t.scene = (s.scene.setCart c k).setLoan l u)
    (hu : ∀ v, u = some v → ((s.scene.setCart c k).setLoan l u).Lent l v) : t.Sound := by
  constructor
  · rw [hscene]
    exact hs.core.lendCart hcart hu
  · rw [hscene]
    exact hs.boxes.frame (fun _ _ h _ => h) rfl rfl

theorem lendCopy (hs : s.Sound) {l title : Nat} {u : Option LoanCore} {w : Title} {w' : TitleCore}
    (hw : s.title title = some w) (hscene : t.scene = (s.scene.setTitle title (some w')).setLoan l u)
    (hw' : ((s.scene.setTitle title (some w')).setLoan l u).Restocked none (some l) title w.core w')
    (hu : ∀ v, u = some v → ((s.scene.setTitle title (some w')).setLoan l u).Lent l v) : t.Sound := by
  constructor
  · rw [hscene]
    exact hs.core.lendCopy (State.scene_title hw) hw' hu
  · rw [hscene]
    exact hs.boxes.frame (fun _ _ h _ => h) rfl rfl

theorem restock (hs : s.Sound) {title : Nat} {w' : TitleCore} (hscene : t.scene = s.scene.setTitle title (some w'))
    (hw' : ∀ w, s.scene.title title = some w →
      (s.scene.setTitle title (some w')).Restocked none none title w w')
    (hnew : s.scene.title title = none → (s.scene.setTitle title (some w')).Stocked title w') : t.Sound := by
  constructor
  · rw [hscene]
    exact hs.core.restock hw' hnew
  · rw [hscene]
    exact hs.boxes.frame (fun _ _ h _ => h) rfl rfl

end State.Sound

end Sys2Proof.Machine

/-! ### The laws of the scene: the bay arbiter -/

namespace Sys2Proof.Machine

variable {s : State}

namespace Scene

variable {S : Scene}

theorem Core.spare_of (hS : S.Core) {b c : Nat} {kst : CartridgeState} {job : Option (Option Nat)} (hb : b < bayCount)
    (hst : (S.bay b).state.spare = some (kst, job)) (hc : (S.bay b).cartridge = some c) :
    S.bay b = ⟨(S.bay b).state, some c, job⟩ ∧ ∃ x, S.cart c = some ⟨kst, x, some b⟩ := by
  have hberth := hS.berth b hb
  generalize S.bay b = r at hberth hst hc
  cases hberth with
  | bare _ => cases hc
  | spare hsp hk =>
    cases hc
    cases hsp.symm.trans hst
    exact ⟨rfl, _, hk⟩
  | work hw _ _ _ => rcases work_cases hw with ⟨h, -⟩ | ⟨h, -⟩ | ⟨h, -⟩ <;> simp [h, BayState.spare] at hst

theorem Core.work_of (hS : S.Core) {b : Nat} (hb : b < bayCount)
    (hwork : (S.bay b).state = .writing ∨ (S.bay b).state = .verifying ∨ (S.bay b).state = .done) :
    ∃ m c o job, (S.bay b).state.work m = some (o.state, job) ∧ S.bay b = ⟨(S.bay b).state, some c, job⟩ ∧
      S.order m = some o ∧ o.bay = some b ∧ o.serial = some c := by
  have hberth := hS.berth b hb
  generalize S.bay b = r at hberth hwork
  cases hberth with
  | bare h => rcases h with rfl | rfl <;> simp at hwork
  | spare h _ => rcases hwork with rfl | rfl | rfl <;> cases h
  | work h ho hbay hc => exact ⟨_, _, _, _, h, rfl, ho, hbay, hc⟩

/-- A bay that is neither EMPTY nor FAULTED has a cartridge. -/
theorem Core.loaded (hS : S.Core) {b : Nat} (hb : b < bayCount) (he : (S.bay b).state ≠ .empty)
    (hf : (S.bay b).state ≠ .faulted) : ∃ c, (S.bay b).cartridge = some c := by
  have hberth := hS.berth b hb
  generalize S.bay b = r at hberth he hf
  cases hberth with
  | bare h => exact absurd h (by simp [he, hf])
  | spare _ _ => exact ⟨_, rfl⟩
  | work _ _ _ _ => exact ⟨_, rfl⟩

/-- R65: an ARMED bay has a BLANK cartridge. -/
theorem Core.armed (hS : S.Core) {b : Nat} (hb : b < bayCount) (h : (S.bay b).state = .armed) :
    ∃ c x, S.bay b = ⟨.armed, some c, none⟩ ∧ S.cart c = some ⟨.blank, x, some b⟩ := by
  obtain ⟨c, hc⟩ := hS.loaded hb (by simp [h]) (by simp [h])
  have hspare : (S.bay b).state.spare = some (.blank, none) := by
    rw [h]
    rfl
  obtain ⟨hbay, x, hcart⟩ := hS.spare_of hb hspare hc
  exact ⟨c, x, by rw [hbay, h], hcart⟩

end Scene

/-! #### Records behind the scene -/

theorem State.order_of_scene {n : Nat} {v : OrderCore} (h : s.scene.order n = some v) :
    ∃ o, s.order n = some o ∧ o.core = v :=
  Option.map_eq_some_iff.1 h

theorem State.cart_of_scene {c : Nat} {v : CartCore} (h : s.scene.cart c = some v) : ∃ k, s.cart c = some k ∧ k.core = v :=
  Option.map_eq_some_iff.1 h

theorem State.title_of_scene {t : Nat} {v : TitleCore} (h : s.scene.title t = some v) :
    ∃ u, s.title t = some u ∧ u.core = v :=
  Option.map_eq_some_iff.1 h

theorem State.cartridge_of_core (hcore : s.scene.Core) {n : Nat} {o : Order} (ho : s.order n = some o)
    (hf : o.format = .cartridge) : ∃ size sel, s.title o.title = some (.cartridge size sel) := by
  obtain ⟨_, hw, hfmt⟩ := hcore.catalogued n _ (State.scene_order ho)
  obtain ⟨u, hu, rfl⟩ := State.title_of_scene hw
  cases u with
  | cartridge size sel => exact ⟨size, sel, hu⟩
  | braille _ _ => cases hfmt.trans hf

theorem State.braille_of_core (hcore : s.scene.Core) {n : Nat} {o : Order} (ho : s.order n = some o)
    (hf : o.format = .braille) : ∃ copies hold, s.title o.title = some (.braille copies hold) := by
  obtain ⟨_, hw, hfmt⟩ := hcore.catalogued n _ (State.scene_order ho)
  obtain ⟨u, hu, rfl⟩ := State.title_of_scene hw
  cases u with
  | cartridge size sel => cases hfmt.trans hf
  | braille copies hold => exact ⟨copies, hold, hu⟩

/-! #### An order to an ARMED bay -/

theorem State.scene_startJob_write (s : State) (b n : Nat) (sel : Selector) (m : Nat) (hb : b < s.bays.length) :
    (s.startJob b (.write n sel) m).scene = s.scene.setBay b ⟨.writing, (s.bay b).cartridge, some (some n)⟩ :=
  s.scene_setBay hb ⟨.writing, (s.bay b).cartridge, some ⟨.write n sel, m, m⟩, (s.bay b).fault, (s.bay b).aborted⟩

theorem State.scene_startJob_blank (s : State) (b m : Nat) (hb : b < s.bays.length) :
    (s.startJob b .blank m).scene = s.scene.setBay b ⟨.blanking, (s.bay b).cartridge, some none⟩ :=
  s.scene_setBay hb ⟨.blanking, (s.bay b).cartridge, some ⟨.blank, m, m⟩, (s.bay b).fault, (s.bay b).aborted⟩

theorem State.scene_assign {n b c size : Nat} {sel : Selector} {o : Order} {k : Cartridge} (hb : b < s.bays.length)
    (ho : s.order n = some o) (hc : (s.bay b).cartridge = some c) (ht : s.title o.title = some (.cartridge size sel))
    (hk : s.cart c = some k) : (s.assign n b).scene =
      (((s.scene.setOrder n (some { o.core with state := .writing, bay := some b, serial := some c })).setCart c
        (some ⟨.inBay, .order n, k.bay⟩)).setBay b ⟨.writing, some c, some (some n)⟩).setQueue
        (s.book.queue.filter (· != n)) := by
  simp only [State.assign, ho, hc, ht]
  rw [State.scene_onOrder_of _ _ (fun o => State.writingForm_core _ _ o), State.scene_startJob_write,
    State.scene_onCart, State.scene_onOrder, State.scene_setQueue]
  simp only [State.order, State.cart, State.bay, State.onCart_bays, State.onOrder_bays, State.setQueue_bays,
    State.onOrder_carts, State.setQueue_carts, State.setQueue_book] at ho hk hc ⊢
  · rw [ho, hk, hc]
    rfl
  · exact hb

namespace State.Sound

open Scene

theorem assign (hs : s.Sound) {n b : Nat} (hn : n ∈ s.book.queue) (hb : b < bayCount)
    (harmed : (s.bay b).state = .armed) : (s.assign n b).Sound := by
  obtain ⟨_, ho', hst⟩ := hs.core.queue n hn
  obtain ⟨o, ho, rfl⟩ := State.order_of_scene ho'
  obtain ⟨c, x, hbay, hcart⟩ := hs.core.armed hb harmed
  obtain ⟨k, hk, hkc⟩ := State.cart_of_scene hcart
  have hkb : k.bay = some b := congrArg CartCore.bay hkc
  cases hs.core.place n _ ho' with
  | queued _ hf hloose _ =>
    obtain ⟨hserial, hobay, hcopy⟩ := hloose
    obtain ⟨size, sel, ht⟩ := State.cartridge_of_core hs.core ho hf
    have hscene := State.scene_assign (hs.bays ▸ hb) ho (congrArg BayCore.cartridge hbay) ht hk
    refine hs.seat (fun v hv => ?_) hbay hcart hscene (hs.core.queued_leave n _) ?_ ?_
    · cases ho.symm.trans hv
      exact ⟨hobay, by simp_all [Order.core], by simp_all [Order.core]⟩
    · have hnone := hs.core.container_none ho' (by simp [hst])
      refine hs.core.settled ho' (fun w hw => ⟨w, hw, rfl⟩) ?_ rfl rfl hnone nofun
      exact .inBay (show BayState.writing.work n = _ from rfl) hf hcopy hb rfl rfl (Function.update_self ..)
        ((Function.update_self ..).trans (by rw [hkb]))
    · exact .work (show BayState.writing.work n = some (.writing, _) from rfl) (Function.update_self ..) rfl rfl
  | stalled h => cases hst.symm.trans h
  | waiting h => cases hst.symm.trans h
  | inBay h => rcases work_cases h with ⟨-, h, -⟩ | ⟨-, h, -⟩ | ⟨-, h, -⟩ <;> cases hst.symm.trans h
  | shelved h => rcases shelved_cases h with ⟨h, -⟩ | ⟨h, -⟩ <;> cases hst.symm.trans h
  | copied h => rcases h with h | h <;> cases hst.symm.trans h

theorem arbiterLoop (fuel : Nat) {s : State} (hs : s.Sound) : (State.arbiterLoop fuel s).Sound := by
  induction fuel generalizing s with
  | zero => exact hs
  | succ fuel ih =>
    unfold State.arbiterLoop
    split
    · next n _ b _ hq hb =>
      have hb' : b ∈ s.armedBays := by simp [hb]
      obtain ⟨hlt, harmed⟩ : b < bayCount ∧ (s.bay b).state = .armed := by simpa [State.armedBays] using hb'
      exact ih (hs.assign (by simp [hq]) hlt harmed)
    · exact hs

theorem arbiter (hs : s.Sound) : s.arbiter.Sound :=
  arbiterLoop bayCount hs

end State.Sound

end Sys2Proof.Machine

/-! ### The laws of the scene: jobs and faults -/

namespace Sys2Proof.Machine

variable {s : State}

namespace Scene

variable {S : Scene} {n : Nat} {o : OrderCore}

theorem setBay_setBay (S : Scene) (b : Nat) (r r' : BayCore) : (S.setBay b r).setBay b r' = S.setBay b r' :=
  congrArg (fun g => { S with bay := g }) (Function.update_idem r r' S.bay)

theorem setCart_setCart (S : Scene) (c : Nat) (k k' : Option CartCore) : (S.setCart c k).setCart c k' = S.setCart c k' :=
  congrArg (fun g => { S with cart := g }) (@Function.update_idem ℕ _ (fun _ => Option CartCore) c k k' S.cart)

theorem setTitle_setTitle (S : Scene) (t : Nat) (w w' : Option TitleCore) :
    (S.setTitle t w).setTitle t w' = S.setTitle t w' :=
  congrArg (fun g => { S with title := g }) (@Function.update_idem ℕ _ (fun _ => Option TitleCore) t w w' S.title)

theorem setOrder_setOrder (S : Scene) (n : Nat) (v v' : Option OrderCore) :
    (S.setOrder n v).setOrder n v' = S.setOrder n v' :=
  congrArg (fun g => { S with order := g }) (@Function.update_idem ℕ _ (fun _ => Option OrderCore) n v v' S.order)

/-! #### What an order has, by its fields -/

theorem Place.loose (h : S.Place n o) (hst : o.state = .pending ∨ o.state = .stalled ∨ o.state = .waitingCopy) :
    o.Loose := by
  cases h with
  | queued _ _ h => exact h
  | stalled _ _ h => exact h
  | waiting _ _ h => exact h
  | inBay h => rcases work_cases h with ⟨-, h, -⟩ | ⟨-, h, -⟩ | ⟨-, h, -⟩ <;> simp [h] at hst
  | shelved h => rcases shelved_cases h with ⟨h, -⟩ | ⟨h, -⟩ <;> simp [h] at hst
  | copied h => rcases h with h | h <;> simp [h] at hst

theorem Place.copy_none (h : S.Place n o) (hf : o.format = .cartridge) : o.copy = none := by
  cases h with
  | queued _ _ h => exact h.2.2
  | stalled _ _ h => exact h.2.2
  | waiting _ _ h => exact h.2.2
  | inBay _ _ h => exact h
  | shelved _ _ h => exact h
  | copied _ h => cases h.symm.trans hf

theorem Place.format_of_serial (h : S.Place n o) {c : Nat} (hc : o.serial = some c) : o.format = .cartridge := by
  cases h with
  | queued _ h => exact h
  | stalled _ h => exact h
  | waiting _ _ h => cases h.1.symm.trans hc
  | inBay _ h => exact h
  | shelved _ h => exact h
  | copied _ _ h => cases h.symm.trans hc

theorem Place.format_of_waiting (h : S.Place n o) (hst : o.state = .waitingCopy) : o.format = .braille := by
  cases h with
  | queued h => cases hst.symm.trans h
  | stalled h => cases hst.symm.trans h
  | waiting _ h => exact h
  | inBay h => rcases work_cases h with ⟨-, h, -⟩ | ⟨-, h, -⟩ | ⟨-, h, -⟩ <;> cases hst.symm.trans h
  | shelved h => rcases shelved_cases h with ⟨h, -⟩ | ⟨h, -⟩ <;> cases hst.symm.trans h
  | copied h => rcases h with h | h <;> cases hst.symm.trans h

theorem Place.format_of_stalled (h : S.Place n o) (hst : o.state = .stalled) : o.format = .cartridge := by
  cases h with
  | queued _ h => exact h
  | stalled _ h => exact h
  | waiting h => cases hst.symm.trans h
  | inBay _ h => exact h
  | shelved _ h => exact h
  | copied h => rcases h with h | h <;> cases hst.symm.trans h

theorem Place.serial_of_bay (h : S.Place n o) {b : Nat} (hb : o.bay = some b) : ∃ c, o.serial = some c := by
  cases h with
  | queued _ _ h => cases h.2.1.symm.trans hb
  | stalled _ _ h => cases h.2.1.symm.trans hb
  | waiting _ _ h => cases h.2.1.symm.trans hb
  | inBay _ _ _ _ _ h => exact ⟨_, h⟩
  | shelved _ _ _ h => cases h.symm.trans hb
  | copied _ _ _ h => cases h.symm.trans hb

theorem Place.bay_of_rack (h : S.Place n o) (hst : o.state = .writing ∨ o.state = .verifying) : ∃ b, o.bay = some b := by
  cases h with
  | queued h => simp [h] at hst
  | stalled h => simp [h] at hst
  | waiting h => simp [h] at hst
  | inBay _ _ _ _ h => exact ⟨_, h⟩
  | shelved h => rcases shelved_cases h with ⟨h, -⟩ | ⟨h, -⟩ <;> simp [h] at hst
  | copied h => rcases h with h | h <;> simp [h] at hst

theorem Place.of_copy (h : S.Place n o) {i : Nat} (hi : o.copy = some i) : (o.state = .ready ∨ o.state = .packed) ∧
    o.format = .braille ∧ o.serial = none ∧ o.bay = none ∧ i < copyEntries ∧
    ∃ t, S.title o.title = some t ∧ t.copies.getD i .absent = .allocated n := by
  cases h with
  | queued _ _ h => cases h.2.2.symm.trans hi
  | stalled _ _ h => cases h.2.2.symm.trans hi
  | waiting _ _ h => cases h.2.2.symm.trans hi
  | inBay _ _ h => cases h.symm.trans hi
  | shelved _ _ h => cases h.symm.trans hi
  | copied hst hf hs hb hc hlt ht hn =>
    cases hc.symm.trans hi
    exact ⟨hst, hf, hs, hb, hlt, _, ht, hn⟩

theorem Place.cart_of_packed (h : S.Place n o) (hst : o.state = .packed) (hf : o.format = .cartridge) :
    ∃ c, o.serial = some c ∧ o.bay = none := by
  cases h with
  | queued h => cases hst.symm.trans h
  | stalled h => cases hst.symm.trans h
  | waiting h => cases hst.symm.trans h
  | inBay h => rcases work_cases h with ⟨-, h, -⟩ | ⟨-, h, -⟩ | ⟨-, h, -⟩ <;> cases hst.symm.trans h
  | shelved _ _ _ h4 h5 => exact ⟨_, h5, h4⟩
  | copied _ h => cases hf.symm.trans h

theorem Place.copy_of_packed (h : S.Place n o) (hst : o.state = .packed) (hf : o.format = .braille) :
    ∃ i, o.copy = some i := by
  cases h with
  | queued h => cases hst.symm.trans h
  | stalled h => cases hst.symm.trans h
  | waiting h => cases hst.symm.trans h
  | inBay h => rcases work_cases h with ⟨-, h, -⟩ | ⟨-, h, -⟩ | ⟨-, h, -⟩ <;> cases hst.symm.trans h
  | shelved _ h => cases hf.symm.trans h
  | copied _ _ _ _ h => exact ⟨_, h⟩

theorem Place.item_of_ready (h : S.Place n o) (hst : o.state = .ready) : ¬ (o.copy = none ∧ o.serial = none) := by
  rintro ⟨hcopy, hser⟩
  cases h with
  | queued h => cases hst.symm.trans h
  | stalled h => cases hst.symm.trans h
  | waiting h => cases hst.symm.trans h
  | inBay _ _ _ _ _ h => cases h.symm.trans hser
  | shelved _ _ _ _ h => cases h.symm.trans hser
  | copied _ _ _ _ h => cases h.symm.trans hcopy

/-- An order whose cartridge is in a bay is WRITING, VERIFYING or READY. -/
theorem Core.inBay_state (hS : S.Core) {b c : Nat} (ho : S.order n = some o) (hb : o.bay = some b)
    (hc : o.serial = some c) : o.state ≠ .pending ∧ o.state ≠ .packed := by
  obtain ⟨st, job, hw, -⟩ := hS.inBay ho hb hc
  rcases work_cases hw with ⟨-, h, -⟩ | ⟨-, h, -⟩ | ⟨-, h, -⟩ <;> simp [h]

/-- The order of a bay's WRITE job. -/
theorem Core.job_order (hS : S.Core) {b : Nat} (hb : b < bayCount) (hj : (S.bay b).job = some (some n)) :
    ∃ c o, S.bay b = ⟨(S.bay b).state, some c, some (some n)⟩ ∧ S.order n = some o ∧ o.bay = some b ∧
      o.serial = some c ∧ S.cart c = some ⟨.inBay, .order n, some b⟩ := by
  have hberth := hS.berth b hb
  generalize S.bay b = r at hberth hj
  cases hberth with
  | bare _ => cases hj
  | spare h _ =>
    cases hj
    rename_i st _ _ _ _
    cases st <;> cases h
  | work h ho hbay hc =>
    cases hj
    rcases work_cases h with ⟨-, -, h⟩ | ⟨-, -, h⟩ | ⟨-, -, h⟩ <;> cases h
    all_goals
      obtain ⟨_, _, _, _, _, hcart⟩ := hS.inBay ho hbay hc
      exact ⟨_, _, rfl, ho, hbay, hc, hcart⟩

/-- R63, R66: the cartridge of a bay's BLANK job. -/
theorem Core.job_blank (hS : S.Core) {b : Nat} (hb : b < bayCount) (hj : (S.bay b).job = some none) :
    ∃ c x, S.bay b = ⟨.blanking, some c, some none⟩ ∧ S.cart c = some ⟨.needsBlank, x, some b⟩ := by
  have hberth := hS.berth b hb
  generalize S.bay b = r at hberth hj
  cases hberth with
  | bare _ => cases hj
  | spare h hk =>
    cases hj
    rename_i st _ _ _
    cases st <;> cases h
    exact ⟨_, _, rfl, hk⟩
  | work h ho hbay hc =>
    cases hj
    rcases work_cases h with ⟨-, -, h⟩ | ⟨-, -, h⟩ | ⟨-, -, h⟩ <;> cases h

end Scene

/-! #### Cartridges that no order has, in a bay -/

namespace State.Sound

open Scene

variable {t : State} {b c : Nat} {k : Option CartCore} {r : BayCore}

/-- What a bay has changes, and no order has it. -/
theorem rebay_same (hs : s.Sound) {st : CartridgeState} {x : Binding} (hbay : (s.scene.bay b).cartridge = some c)
    (hcart : s.scene.cart c = some ⟨st, x, some b⟩) (hst : st.spare) (hscene : t.scene = (s.scene.setCart c k).setBay b r)
    (hr : ((s.scene.setCart c k).setBay b r).Berth b r) : t.Sound := by
  refine hs.rebay (fun _ h => ?_) (fun m st' x' hm hb h => ?_) hscene hr
  · cases hcart.symm.trans h
    exact ⟨hst, fun j hj => (Option.some.inj hj).symm⟩
  · cases hbay.symm.trans hb
    cases hcart.symm.trans hm
    exact CartridgeState.inBay_not_spare (h ▸ hst)

/-- A bay takes a cartridge that no order has. -/
theorem rebay_vacant (hs : s.Sound) {st : CartridgeState} {x : Binding} (hbay : (s.scene.bay b).cartridge = none)
    (hcart : s.scene.cart c = some ⟨st, x, none⟩) (hst : st.spare) (hscene : t.scene = (s.scene.setCart c k).setBay b r)
    (hr : ((s.scene.setCart c k).setBay b r).Berth b r) : t.Sound := by
  refine hs.rebay (fun _ h => ?_) (fun m st' x' hm hb h => ?_) hscene hr
  · cases hcart.symm.trans h
    exact ⟨hst, nofun⟩
  · cases hbay.symm.trans hb

end State.Sound

/-! #### Faults (R75, R77, R78) -/

section Fault

variable {b n c total left : Nat} {sel : Selector} {o : Order} {k : Cartridge}

theorem State.scene_abortJob_write (hb : b < s.bays.length) (hj : (s.bay b).job = some ⟨.write n sel, total, left⟩)
    (hc : (s.bay b).cartridge = some c) (hk : s.cart c = some k) (keep : Bool) : (s.abortJob b keep).scene =
      (s.scene.setCart c (some ⟨.needsBlank, .unbound, k.bay⟩)).setBay b ⟨(s.bay b).state, some c, none⟩ := by
  simp only [State.abortJob, hj, hc, State.scene_onRack]
  rw [State.scene_onCart, State.scene_setBay s hb]
  simp only [State.cart, State.setBay_carts] at hk ⊢
  rw [hk]
  rfl

theorem State.scene_abortJob_blank (hb : b < s.bays.length) (hj : (s.bay b).job = some ⟨.blank, total, left⟩)
    (keep : Bool) : (s.abortJob b keep).scene = s.scene.setBay b ⟨(s.bay b).state, (s.bay b).cartridge, none⟩ := by
  simp only [State.abortJob, hj, State.scene_onRack]
  rw [State.scene_setBay s hb]
  rfl

/-- R77: the bay a fault leaves. -/
def Bay.fails (r : Bay) (kind : FaultKind) (keep : Bool) : Bay :=
  { r with state := .faulted, fault := some kind, cartridge := if keep then r.cartridge else none }

theorem State.faultBay_write (hj : (s.bay b).job = some ⟨.write n sel, total, left⟩) (kind : FaultKind) (keep : Bool) :
    s.faultBay b kind keep =
      ((s.abortJob b true).setBay b (((s.abortJob b true).bay b).fails kind keep)).reenter n := by
  simp only [State.faultBay, hj]
  rfl

theorem State.faultBay_blank (hj : (s.bay b).job = some ⟨.blank, total, left⟩) (kind : FaultKind) (keep : Bool) :
    s.faultBay b kind keep = (s.abortJob b true).setBay b (((s.abortJob b true).bay b).fails kind keep) := by
  simp only [State.faultBay, hj]
  rfl

theorem State.scene_fails {t : State} (hb : b < s.bays.length) {S : Scene} {st : BayState} {x : Option Nat}
    (h : t.scene = S.setBay b ⟨st, x, none⟩) (hlen : t.bays.length = s.bays.length) (kind : FaultKind) (keep : Bool) :
    (t.setBay b ((t.bay b).fails kind keep)).scene = S.setBay b ⟨.faulted, if keep then x else none, none⟩ := by
  have hbay : (t.bay b).core = ⟨st, x, none⟩ :=
    (congrFun (congrArg Scene.bay h) b).trans (Function.update_self ..)
  have hcore : ((t.bay b).fails kind keep).core = ⟨.faulted, if keep then x else none, none⟩ := by
    have hx : (t.bay b).cartridge = x := congrArg BayCore.cartridge hbay
    have hjob : (t.bay b).job.map (fun j => j.kind.order) = none := congrArg BayCore.job hbay
    simp only [Bay.core, Bay.fails, hx, hjob]
  rw [State.scene_setBay t (hlen ▸ hb), hcore, h, Scene.setBay_setBay]

theorem State.scene_rejoin (ho : s.order n = some o) : ∃ (u : State) (q : List Nat), s.rejoin n = u.arbiter ∧
    u.scene = (s.scene.setOrder n (some (o.unseat .pending).core)).setQueue q ∧ q.Perm (n :: s.book.queue) := by
  refine ⟨_, _, rfl, ?_, joinHead_perm (s.onOrder n (fun o => o.unseat .pending)).isRush n _⟩
  rw [State.scene_setQueue, State.scene_onOrder, ho]
  rfl

/-- R72: an order that leaves a bay for the pending queue. -/
theorem State.Sound.reenters (hs : s.Sound) {t : State} {v : Option CartCore} {r : BayCore} {q : List Nat}
    (ho : s.order n = some o) (hbay : o.bay = some b) (hser : o.serial = some c)
    (hscene : t.scene = (((s.scene.setOrder n (some (o.unseat .pending).core)).setCart c v).setBay b r).setQueue q)
    (hq : q.Perm (n :: s.book.queue)) (hr : ∀ S : Scene, S.cart c = v → S.Berth b r) : t.Sound := by
  have ho' := State.scene_order ho
  have hplace := hs.core.place n _ ho'
  have hf := hplace.format_of_serial hser
  have hst := hs.core.inBay_state ho' hbay hser
  have hjoin : s.scene.Queued n (some (o.unseat .pending).core) q :=
    hs.core.queued_join (fun u hu => by cases ho'.symm.trans hu; exact hst.1) hq rfl
  refine hs.reseat ho hbay hser hscene hjoin ?_ (hr _ (Function.update_self ..))
  have hplaced : n ∈ q := hq.mem_iff.2 (by simp)
  have hnone := hs.core.container_none ho' hst.2
  exact hs.core.settled ho' (fun w hw => ⟨w, hw, rfl⟩) (.queued rfl hf ⟨rfl, rfl, hplace.copy_none hf⟩ hplaced) rfl rfl
    hnone nofun

/-- R73: a bay's WRITE job, and what it has. -/
theorem State.Sound.writeJob (hs : s.Sound) (hb : b < bayCount)
    (hj : (s.bay b).job = some ⟨.write n sel, total, left⟩) : ∃ c o k, (s.bay b).cartridge = some c ∧
      s.order n = some o ∧ o.bay = some b ∧ o.serial = some c ∧ s.cart c = some k ∧ k.bay = some b := by
  have hjob : (s.scene.bay b).job = some (some n) := by
    simp [State.scene, Bay.core, hj, JobKind.order]
  obtain ⟨c, _, hbay, ho', hobay, hser, hcart⟩ := hs.core.job_order hb hjob
  obtain ⟨o, ho, rfl⟩ := State.order_of_scene ho'
  obtain ⟨k, hk, hkc⟩ := State.cart_of_scene hcart
  exact ⟨c, o, k, congrArg BayCore.cartridge hbay, ho, hobay, hser, hk, congrArg CartCore.bay hkc⟩

theorem Scene.Berth.failed {S : Scene} {v : CartCore} (keep : Bool) (h : S.cart c = some v)
    (hst : v.state = .needsBlank) (hb : v.bay = if keep then some b else none) :
    S.Berth b ⟨.faulted, if keep then some c else none, none⟩ := by
  obtain ⟨st, x, y⟩ := v
  cases hst
  cases hb
  cases keep with
  | false => exact .bare (.inr rfl)
  | true => exact .spare (show BayState.faulted.spare = _ from rfl) h

/-- R75, R77, R78: a fault in a bay with a job, from the state whose cartridge it takes out or leaves. -/
theorem State.Sound.faultBay_write (hs : s.Sound) {t : State} (hb : b < bayCount)
    (hj : (s.bay b).job = some ⟨.write n sel, total, left⟩) (hc : (s.bay b).cartridge = some c) (keep : Bool)
    (hk : t.cart c = some k) (hkb : k.bay = if keep then some b else none) (hbays : t.bays = s.bays)
    (hbook : t.book = s.book) (hscene : t.scene = s.scene.setCart c (some k.core)) (kind : FaultKind) :
    (t.faultBay b kind keep).Sound := by
  obtain ⟨c', o, _, hc', ho, hobay, hser, -⟩ := hs.writeJob hb hj
  cases hc.symm.trans hc'
  have hlen : b < t.bays.length := by rw [hbays, hs.bays]; exact hb
  have hbay : t.bay b = s.bay b := t.bay_congr hbays b
  have habort := State.scene_abortJob_write hlen (hbay ▸ hj) (hbay ▸ hc) hk true
  have hfails := State.scene_fails hlen habort (congrArg Scene.bays habort) kind keep
  have hbook' : ((t.abortJob b true).setBay b (((t.abortJob b true).bay b).fails kind keep)).book = s.book :=
    by simp [hbook]
  have hfaulted : ((t.abortJob b true).setBay b (((t.abortJob b true).bay b).fails kind keep)).order n = some o := by
    rw [State.order, hbook']
    exact ho
  obtain ⟨u, q, hu, huscene, hq⟩ := State.scene_rejoin hfaulted
  rw [State.faultBay_write (hbay ▸ hj), State.reenter, hu]
  refine (State.Sound.reenters hs ho hobay hser ?_ (hbook' ▸ hq) (fun S
    (h : S.cart c = some ⟨.needsBlank, .unbound, k.bay⟩) => .failed keep h rfl hkb)).arbiter.reexamineOf n
  rw [huscene, hfails, hscene, Scene.setCart_setCart]
  rfl

/-- R75, R77: the same of a BLANK job. -/
theorem State.Sound.faultBay_blank (hs : s.Sound) {t : State} (hb : b < bayCount)
    (hj : (s.bay b).job = some ⟨.blank, total, left⟩) (hc : (s.bay b).cartridge = some c) (keep : Bool)
    (hkb : k.bay = if keep then some b else none) (hst : k.state = .needsBlank)
    (hscene : t.scene = s.scene.setCart c (some k.core)) (hbays : t.bays = s.bays) (kind : FaultKind) :
    (t.faultBay b kind keep).Sound := by
  obtain ⟨c', x, hsbay, hcart⟩ := hs.core.job_blank hb (by simp [State.scene, Bay.core, hj]; rfl)
  cases hc.symm.trans (congrArg BayCore.cartridge hsbay)
  have hlen : b < t.bays.length := by rw [hbays, hs.bays]; exact hb
  have hbay : t.bay b = s.bay b := t.bay_congr hbays b
  have habort := State.scene_abortJob_blank hlen (hbay ▸ hj) true
  have hfails := State.scene_fails hlen habort (congrArg Scene.bays habort) kind keep
  rw [State.faultBay_blank (hbay ▸ hj)]
  rw [hscene, hbay, hc] at hfails
  refine hs.rebay_same (congrArg BayCore.cartridge hsbay) hcart (.inr (.inl rfl)) hfails ?_
  exact .failed keep (Function.update_self ..) hst hkb

end Fault

end Sys2Proof.Machine

/-! ### The laws of the scene: slots, bays and verification -/

namespace Sys2Proof.Machine

variable {s : State}

/-! #### A bay's job while other bays are dealt with -/

/-- Whether a bay has a job. -/
def State.working (s : State) (a : Nat) : Prop :=
  (s.bay a).job.isSome = true

theorem State.working.congr {t : State} {a : Nat} (h : s.working a) (hbays : t.bays = s.bays) : t.working a := by
  rwa [State.working, t.bay_congr hbays]

theorem State.working.setBay_other {a b : Nat} (h : s.working a) (hne : a ≠ b) (r : Bay) : (s.setBay b r).working a := by
  rwa [State.working, State.bay_setBay_other _ hne]

theorem State.working.lt {a : Nat} (h : s.working a) : a < s.bays.length := by
  by_contra hlt
  rw [State.working, State.bay, List.getD_eq_default _ _ (Nat.le_of_not_lt hlt)] at h
  cases h

theorem State.working.startJob {a : Nat} (h : s.working a) (b : Nat) (k : JobKind) (m : Nat) :
    (s.startJob b k m).working a := by
  by_cases hab : a = b
  · subst hab
    exact congrArg (fun r : Bay => r.job.isSome) (s.bay_setBay_same h.lt _)
  · exact (congrArg (fun r : Bay => r.job.isSome) (s.bay_setBay_other hab _)).trans h

theorem State.working.assign {a : Nat} (h : s.working a) (n b : Nat) : (s.assign n b).working a := by
  simp only [State.assign]
  split
  · split
    · refine State.working.congr (State.working.startJob ?_ b _ _) (State.onOrder_bays ..)
      exact h
    · exact h
  · exact h

theorem State.working.arbiterLoop {a : Nat} (fuel : Nat) {s : State} (h : s.working a) :
    (State.arbiterLoop fuel s).working a := by
  induction fuel generalizing s with
  | zero => exact h
  | succ fuel ih =>
    unfold State.arbiterLoop
    split
    · exact ih (h.assign _ _)
    · exact h

theorem State.working.arbiter {a : Nat} (h : s.working a) : s.arbiter.working a :=
  State.working.arbiterLoop bayCount h

theorem State.working.reexamineOf {a : Nat} (h : s.working a) (n : Nat) : (s.reexamineOf n).working a :=
  h.congr (by simp)

theorem State.working.reenter {a : Nat} (h : s.working a) (n : Nat) : (s.reenter n).working a := by
  have hjoined : (s.rejoin n).working a := State.working.arbiter (h.congr rfl)
  exact hjoined.reexamineOf n

theorem State.working.abortJob_other {a b : Nat} (h : s.working a) (hne : a ≠ b) (keep : Bool) :
    (s.abortJob b keep).working a := by
  simp only [State.abortJob]
  split
  · exact h
  · next j _ =>
    have hset := h.setBay_other hne { s.bay b with job := none, aborted := if keep then some j else (s.bay b).aborted }
    refine hset.congr ?_
    simp only [State.onRack_bays]
    split <;> rfl

theorem State.working.applySlice_other {a b : Nat} (h : s.working a) (hne : a ≠ b) (g : Grant) (count : Nat) :
    (s.applySlice b g count).working a := by
  have hcredit : (s.credit b count).working a := h.setBay_other hne _
  unfold State.applySlice
  split
  · exact h
  · exact h
  · exact hcredit
  · unfold State.completeJob
    split
    · exact (hcredit.setBay_other hne _).congr rfl
    · simp only [State.completeBlank]
      have hset := hcredit.setBay_other hne { (s.credit b count).bay b with state := .armed, job := none }
      refine State.working.arbiter (hset.congr ?_)
      split <;> rfl
    · exact hcredit
  · simp only [State.faultBay]
    split
    · exact ((hcredit.abortJob_other hne true).setBay_other hne _).reenter _
    · exact (hcredit.abortJob_other hne true).setBay_other hne _

/-! #### A slot's report (R95) -/

theorem State.scene_setCart_self {c : Nat} {k : Cartridge} (hk : s.cart c = some k) :
    s.scene = s.scene.setCart c (some k.core) := by
  rw [← State.scene_cart hk]
  exact (s.scene.setCart_self c).symm

namespace State.Sound

open Scene

variable {b c n total left : Nat} {sel : Selector}

theorem fault (hs : s.Sound) (hb : b < bayCount) (hj : s.working b) (kind : FaultKind) : (s.faultBay b kind true).Sound := by
  obtain ⟨⟨kd, total, left⟩, hj⟩ := Option.isSome_iff_exists.1 hj
  cases kd with
  | write n sel =>
    obtain ⟨c, o, k, hc, -, -, -, hk, hkb⟩ := hs.writeJob hb hj
    exact hs.faultBay_write hb hj hc true hk hkb rfl rfl (State.scene_setCart_self hk) kind
  | blank =>
    obtain ⟨c, x, hbay, hcart⟩ := hs.core.job_blank hb (by simp [State.scene, Bay.core, hj]; rfl)
    obtain ⟨k, hk, hkc⟩ := State.cart_of_scene hcart
    exact hs.faultBay_blank hb hj (congrArg BayCore.cartridge hbay) true (congrArg CartCore.bay hkc)
      (congrArg CartCore.state hkc) (State.scene_setCart_self hk) rfl kind

theorem credit (hs : s.Sound) (hb : b < bayCount) (count : Nat) : (s.credit b count).Sound :=
  hs.of_scene (State.scene_credit s (hs.bays ▸ hb) count)

/-- R67. -/
theorem completeBlank (hs : s.Sound) (hb : b < bayCount) (hj : (s.bay b).job = some ⟨.blank, total, left⟩) :
    (s.completeBlank b).Sound := by
  obtain ⟨c, x, hbay, hcart⟩ := hs.core.job_blank hb (by simp [State.scene, Bay.core, hj]; rfl)
  obtain ⟨k, hk, hkc⟩ := State.cart_of_scene hcart
  have hc : (s.bay b).cartridge = some c := congrArg BayCore.cartridge hbay
  have hkb : k.bay = some b := congrArg CartCore.bay hkc
  simp only [State.completeBlank, hc]
  refine State.Sound.arbiter (hs.rebay_same hc hcart (.inr (.inl rfl))
    (?_ : _ = (s.scene.setCart c (some ⟨.blank, k.bound, some b⟩)).setBay b ⟨.armed, some c, none⟩) ?_)
  · rw [State.scene_onCart, State.scene_onRack, State.scene_setBay s (hs.bays ▸ hb)]
    simp only [State.cart, State.onRack_carts, State.setBay_carts] at hk ⊢
    rw [hk]
    simp only [Option.map_some, Cartridge.core, hkb]
    rfl
  · exact .spare (show BayState.armed.spare = _ from rfl) (Function.update_self ..)

/-- R68. -/
theorem completeWrite (hs : s.Sound) (hb : b < bayCount) (hj : (s.bay b).job = some ⟨.write n sel, total, left⟩) :
    (s.completeWrite b n).Sound := by
  obtain ⟨c, o, k, hc, ho, hobay, hser, hk, hkb⟩ := hs.writeJob hb hj
  have ho' := State.scene_order ho
  have hplace := hs.core.place n _ ho'
  have hf := hplace.format_of_serial hser
  obtain ⟨_, _, _, -, -, hcart⟩ := hs.core.inBay ho' hobay hser
  have hst := hs.core.inBay_state ho' hobay hser
  have hnone := hs.core.container_none ho' hst.2
  refine hs.reseat ho hobay hser
    (?_ : _ = (((s.scene.setOrder n (some { o.core with state := .verifying })).setCart c (s.scene.cart c)).setBay b
      ⟨.verifying, some c, some (some n)⟩).setQueue s.book.queue)
    (hs.core.queued_same (fun u hu => by cases ho'.symm.trans hu; exact hst.1)) ?_ ?_
  · have hself : ∀ v, (s.scene.setOrder n v).setCart c (s.scene.cart c) = s.scene.setOrder n v :=
      fun v => (s.scene.setOrder n v).setCart_self c
    rw [hself]
    simp only [State.completeWrite]
    rw [State.scene_onOrder, State.scene_onRack, State.scene_setBay s (hs.bays ▸ hb)]
    simp only [State.verifyForm_core, State.order, State.onRack_book, State.setBay_book] at ho ⊢
    rw [ho]
    simp only [Option.map_some, Bay.core, hj, hc]
    rfl
  · refine hs.core.settled ho' (fun w hw => ⟨w, hw, rfl⟩) ?_ rfl rfl hnone nofun
    exact .inBay (show BayState.verifying.work n = _ from rfl) hf (hplace.copy_none hf) hb hobay hser (Function.update_self ..)
      ((Function.update_self ..).trans hcart)
  · exact .work (show BayState.verifying.work n = some (.verifying, _) from rfl) (Function.update_self ..) hobay hser

theorem completeJob (hs : s.Sound) (hb : b < bayCount) : (s.completeJob b).Sound := by
  unfold State.completeJob
  split
  · next hj => exact hs.completeWrite hb hj
  · next hj => exact hs.completeBlank hb hj
  · exact hs

theorem applySlice (hs : s.Sound) (hb : b < bayCount) {g : Grant} (hg : 0 < g.blocks → g.lost = false → s.working b)
    (count : Nat) : (s.applySlice b g count).Sound := by
  unfold State.applySlice
  split
  · exact hs
  · exact hs
  · exact hs.credit hb count
  · exact (hs.credit hb count).completeJob hb
  · next hcase =>
    have hwork : s.working b := by
      unfold sliceCase at hcase
      split at hcase
      · cases hcase
      · split at hcase
        · cases hcase
        · next hblocks hlost => exact hg (Nat.pos_of_ne_zero hblocks) (Bool.eq_false_iff.2 hlost)
    have hcredit : (s.credit b count).working b := by
      rw [State.working, State.credit, State.bay_setBay_same _ hwork.lt]
      simpa [State.working] using hwork
    exact (hs.credit hb count).fault hb hcredit _

theorem takeReport (hs : s.Sound) (hjobs : s.JobLaw) {sl : Slot} (hsl : s.rack.slot = some sl) (even odd : Nat) :
    (s.takeReport sl even odd).Sound := by
  obtain ⟨-, -, hslots, -⟩ := hjobs
  obtain ⟨hpair, heven, hodd⟩ := hslots sl hsl
  have hlt : 2 * sl.pair + 1 < bayCount := by simp only [pairCount, bayCount] at *; omega
  have hworks : ∀ {b : Nat} {g : Grant}, s.GrantStands b g → 0 < g.blocks → g.lost = false → s.working b := by
    intro b g hg hblocks hlost
    obtain ⟨-, j, hj, -⟩ := hg hblocks hlost
    exact Option.isSome_iff_exists.2 ⟨j, hj⟩
  have hfirst := hs.applySlice (Nat.lt_of_succ_lt hlt) (hworks heven) even
  have hsecond := hfirst.applySlice hlt
    (fun hblocks hlost => (hworks hodd hblocks hlost).applySlice_other (by omega) sl.even even) odd
  exact hsecond.of_scene rfl

end State.Sound

end Sys2Proof.Machine

/-! ### The laws of the scene: the requests about a bay -/

namespace Sys2Proof.Machine

variable {s : State}

namespace Scene

variable {S : Scene} {b : Nat} {r : BayCore}

/-- R61: an EMPTY bay has nothing. -/
theorem Core.vacant (hS : S.Core) (hb : b < bayCount) (h : (S.bay b).state = .empty) : S.bay b = ⟨.empty, none, none⟩ := by
  have hberth := hS.berth b hb
  generalize S.bay b = r at hberth h
  cases hberth with
  | bare _ =>
    cases h
    rfl
  | spare hsp _ =>
    cases h
    cases hsp
  | work hw _ _ _ =>
    cases h
    cases hw

theorem Core.working (hS : S.Core) (hb : b < bayCount)
    (h : (S.bay b).state = .blanking ∨ (S.bay b).state = .writing ∨ (S.bay b).state = .verifying) :
    (S.bay b).job.isSome = true := by
  have hberth := hS.berth b hb
  generalize S.bay b = r at hberth h
  cases hberth with
  | bare hst => rcases hst with rfl | rfl <;> simp at h
  | spare hsp _ =>
    rcases h with rfl | rfl | rfl <;> cases hsp
    rfl
  | work hw _ _ _ =>
    rcases work_cases hw with ⟨-, -, rfl⟩ | ⟨-, -, rfl⟩ | ⟨rfl, -⟩
    · rfl
    · rfl
    · simp at h

/-- R79: a bay without a cartridge changes alone. -/
theorem Core.rebare (hS : S.Core) (hc : (S.bay b).cartridge = none) (hr : (S.setBay b r).Berth b r) :
    (S.setBay b r).Core := by
  have hstep : S.Step (S.setBay b r) none none (some b) none none := by
    constructor
    case nodup => exact hS.nodup
    case items => exact Keeps.refl
    case berthed =>
      rintro j ⟨⟩
      simpa [setBay] using hr
    case bay_order => grind
    all_goals simp +contextual [setBay, eq_comm]
  exact hstep.core hS

end Scene

/-- R61, R74, R77, R79: the check of a bay number. -/
theorem bay_of_range {b : Nat} {l : List Bool} (h : firstBad (decide (31 < b) :: l) = none) : b < bayCount := by
  have h31 : b ≤ 31 := by simpa using firstBad_eq_none.1 h _ (List.mem_cons_self ..)
  exact Nat.lt_succ_of_le h31

/-! #### The scene after a bay's request -/

section Requests

variable {b c : Nat} {k : Cartridge}

theorem State.scene_retire (s : State) (c : Nat) :
    (s.retire c).scene = s.scene.setCart c ((s.cart c).map (fun k => ⟨.retired, .unbound, k.bay⟩)) :=
  State.scene_onCart _ c _

theorem State.scene_emptyBay (hb : b < s.bays.length) (hk : s.cart c = some k) : (s.emptyBay b c).scene =
    (s.scene.setCart c (some ⟨k.state, k.bound, none⟩)).setBay b ⟨.empty, none, none⟩ := by
  rw [State.emptyBay, State.scene_onCart, State.scene_setBay s hb]
  simp only [State.cart, State.setBay_carts] at hk ⊢
  rw [hk]
  rfl

theorem State.scene_blankInPlace (hb : b < s.bays.length) (hc : (s.bay b).cartridge = some c) (hk : s.cart c = some k) :
    (s.blankInPlace b).scene =
      (s.scene.setCart c (some ⟨.needsBlank, .unbound, k.bay⟩)).setBay b ⟨.blanking, some c, some none⟩ := by
  obtain ⟨-, -, hpatrons, hbook, htitles, -, hpacking, hloans, -⟩ := s.blankInPlace_frame b
  have hscene : (s.blankInPlace b).scene =
      ((s.onCart c Cartridge.dirtied).setBay b ((s.bay b).blanks (units32 k.dirty))).scene := by
    simp only [State.scene, State.order, State.title, State.cart, State.bay, State.loan, State.container, State.patron,
      hpatrons, hbook, htitles, hpacking, hloans, s.blankInPlace_carts hc hk, s.blankInPlace_bays hc hk hb]
    rfl
  have hlen : b < (s.onCart c Cartridge.dirtied).bays.length := hb
  rw [hscene, State.scene_setBay _ hlen, State.scene_onCart, hk]
  simp only [Bay.core, Bay.blanks, hc]
  rfl

theorem State.job_of_order {n : Nat} (hn : (s.bay b).jobOrder = some n) : (s.scene.bay b).job = some (some n) := by
  obtain ⟨j, hj, hjn⟩ := Option.bind_eq_some_iff.1 hn
  simp [State.scene, Bay.core, hj, hjn]

end Requests

namespace State.Sound

open Scene

variable {b c : Nat} {k : Cartridge}

/-- R45: a cartridge that no order has, and no bay holds, is retired. -/
theorem retire (hs : s.Sound) (hk : s.cart c = some k) (hst : k.state.spare) (hkb : k.bay = none) : (s.retire c).Sound := by
  refine hs.recart (fun v hv => ?_) (State.scene_retire s c)
  cases (State.scene_cart hk).symm.trans hv
  exact ⟨hst, hkb⟩

/-- R62. -/
theorem insertBlank (hs : s.Sound) (hb : b < bayCount) (he : (s.bay b).state = .empty) (hk : s.cart c = some k)
    (hst : k.state = .blank) (hkb : k.bay = none) : (s.insertBlank b c).Sound := by
  have hbay := hs.core.vacant hb he
  have hcart : s.scene.cart c = some ⟨.blank, k.bound, none⟩ := by rw [State.scene_cart hk, Cartridge.core, hst, hkb]
  refine State.Sound.arbiter (hs.rebay_vacant (congrArg BayCore.cartridge hbay) hcart (.inl rfl)
    (?_ : _ = (s.scene.setCart c (some ⟨.blank, k.bound, some b⟩)).setBay b ⟨.armed, some c, none⟩) ?_)
  · rw [State.scene_setBay _ (by exact hs.bays ▸ hb), State.scene_onCart]
    simp only [State.cart, State.leaveQueues_carts] at hk ⊢
    rw [hk]
    simp only [Option.map_some, Cartridge.core, hst]
    rfl
  · exact .spare (show BayState.armed.spare = _ from rfl) (Function.update_self ..)

/-- R63. -/
theorem insertDirty (hs : s.Sound) (hb : b < bayCount) (he : (s.bay b).state = .empty) (hk : s.cart c = some k)
    (hst : k.state = .needsBlank) (hkb : k.bay = none) (dirty : Nat) : (s.insertDirty b c dirty).Sound := by
  have hbay := hs.core.vacant hb he
  have hcart : s.scene.cart c = some ⟨.needsBlank, k.bound, none⟩ := by rw [State.scene_cart hk, Cartridge.core, hst, hkb]
  refine hs.rebay_vacant (congrArg BayCore.cartridge hbay) hcart (.inr (.inl rfl))
    (?_ : _ = (s.scene.setCart c (some ⟨.needsBlank, k.bound, some b⟩)).setBay b ⟨.blanking, some c, some none⟩) ?_
  · have hlen : b < ((s.leaveQueues c).onCart c (fun c => { c with bay := some b })).bays.length := hs.bays ▸ hb
    rw [State.insertDirty, State.scene_startJob_blank, State.bay_setBay_same _ hlen, State.scene_setBay _ hlen,
      State.scene_onCart, Scene.setBay_setBay]
    · simp only [State.cart, State.leaveQueues_carts] at hk ⊢
      rw [hk]
      simp only [Option.map_some, Cartridge.core, hst]
      rfl
    · simpa using hlen
  · exact .spare (show BayState.blanking.spare = _ from rfl) (Function.update_self ..)

theorem bayInsert (hs : s.Sound) (b c : Nat) : (bayInsert b c s).state.Sound := by
  unfold Machine.bayInsert
  split
  · exact hs
  · next hbad =>
    have hb := bay_of_range hbad
    split
    · exact hs
    · next hempty =>
      have he : (s.bay b).state = .empty := by simpa using hempty
      split
      · exact hs
      · next k hk =>
        split
        · exact hs
        · next hfit =>
          obtain ⟨hst, hkb⟩ : (k.state ≠ .blank → k.state = .needsBlank) ∧ k.bay = none := by
            simpa [not_or, Option.isSome_iff_ne_none] using hfit
          split
          · have hspare : k.state.spare := by
              by_cases h : k.state = .blank
              · exact .inl h
              · exact .inr (.inl (hst h))
            exact hs.retire hk hspare hkb
          · split
            · next hblank => exact (hs.insertBlank hb he hk hblank hkb).settle _
            · next hblank => exact hs.insertDirty hb he hk (hst hblank) hkb _

/-- R74: the removal of a cartridge that no order has. -/
theorem emptyBay (hs : s.Sound) (hb : b < bayCount) (hc : (s.bay b).cartridge = some c)
    (hst : (s.bay b).state = .armed ∨ (s.bay b).state = .eject) : (s.emptyBay b c).Sound := by
  obtain ⟨kst, job, hsp⟩ : ∃ kst job, (s.bay b).state.spare = some (kst, job) := by
    rcases hst with h | h <;> rw [h] <;> exact ⟨_, _, rfl⟩
  obtain ⟨-, x, hcart⟩ := hs.core.spare_of hb hsp hc
  obtain ⟨k, hk, hkc⟩ := State.cart_of_scene hcart
  exact hs.rebay_same hc hcart (BayState.spare_cart hsp) (State.scene_emptyBay (hs.bays ▸ hb) hk) (.bare (.inl rfl))

/-- R76. -/
theorem removeFaulted (hs : s.Sound) (hb : b < bayCount) (hc : (s.bay b).cartridge = some c)
    (hst : (s.bay b).state = .faulted) : (s.removeFaulted b c).Sound := by
  obtain ⟨hbay, x, hcart⟩ := hs.core.spare_of hb (show (s.bay b).state.spare = _ by rw [hst]; rfl) hc
  obtain ⟨k, hk, hkc⟩ := State.cart_of_scene hcart
  refine hs.rebay_same hc hcart (.inr (.inl rfl))
    (?_ : _ = (s.scene.setCart c (some ⟨k.state, k.bound, none⟩)).setBay b ⟨.faulted, none, none⟩) (.bare (.inr rfl))
  rw [State.removeFaulted, State.scene_joinBacklog, State.scene_onCart, State.scene_setBay _ (hs.bays ▸ hb)]
  have hjob : (s.bay b).job.map (fun j => j.kind.order) = none := congrArg BayCore.job hbay
  simp only [State.cart, State.setBay_carts] at hk ⊢
  rw [hk]
  simp only [Option.map_some, Bay.core, hst, hjob]
  rfl

/-- R74: the removal from a DONE bay. -/
theorem removeDone (hs : s.Sound) (hb : b < bayCount) (hc : (s.bay b).cartridge = some c)
    (hst : (s.bay b).state = .done) : (s.removeDone b c).Sound := by
  obtain ⟨n, c', _, job, hw, hbay, ho', hobay, hser⟩ := hs.core.work_of hb (.inr (.inr hst))
  cases hc.symm.trans (congrArg BayCore.cartridge hbay)
  obtain ⟨o, ho, rfl⟩ := State.order_of_scene ho'
  obtain ⟨_, _, hw', -, -, hcart⟩ := hs.core.inBay ho' hobay hser
  obtain ⟨k, hk, hkc⟩ := State.cart_of_scene hcart
  have hready : o.core.state = .ready := by
    have hdone : BayState.done.work n = some (o.core.state, job) := hst ▸ hw
    exact (congrArg Prod.fst (Option.some.inj hdone)).symm
  have hplace := hs.core.place n _ ho'
  have hf := hplace.format_of_serial hser
  have hnone := hs.core.container_none ho' (by simp [hready])
  have hbound : s.boundOrder c = some n := by
    obtain ⟨_, _, _, _, _, _⟩ := k
    cases congrArg CartCore.bound hkc
    simp [State.boundOrder, hk]
  refine hs.reseat ho hobay hser
    (?_ : _ = (((s.scene.setOrder n (some { o.core with bay := none })).setCart c (some ⟨.written, .order n, none⟩)).setBay
      b ⟨.empty, none, none⟩).setQueue s.book.queue)
    (hs.core.queued_same (fun u hu => by cases ho'.symm.trans hu; simp [hready])) ?_ (.bare (.inl rfl))
  · have hkbound : k.bound = .order n := congrArg CartCore.bound hkc
    rw [State.removeDone, hbound, State.scene_onOrder, State.scene_onCart, State.scene_emptyBay (hs.bays ▸ hb) hk]
    simp only [State.order, State.cart, State.emptyBay, State.onCart_book, State.setBay_book, State.onCart_carts,
      State.setBay_carts, Table.look_alter_same] at ho hk ⊢
    rw [ho, hk]
    simp only [Option.map_some, Cartridge.core, hkbound]
    exact congrArg (fun T : Scene => (T.setOrder n (some { o.core with bay := none })).setBay b ⟨.empty, none, none⟩)
      (Scene.setCart_setCart s.scene c (some ⟨k.state, .order n, none⟩) (some ⟨.written, .order n, none⟩))
  · refine hs.core.settled ho' (fun w hw => ⟨w, hw, rfl⟩) ?_ rfl rfl hnone (by simp [hready])
    exact .shelved (show o.core.state.shelved = some .written by rw [hready]; rfl) hf (hplace.copy_none hf) rfl hser
      (Function.update_self ..)

/-- R75. -/
theorem removeInJob (hs : s.Sound) (hb : b < bayCount) (hc : (s.bay b).cartridge = some c) (hj : s.working b) :
    (s.removeInJob b c).Sound := by
  obtain ⟨⟨kd, total, left⟩, hj⟩ := Option.isSome_iff_exists.1 hj
  have hscene : ∀ k, s.cart c = some k → ((s.onCart c (fun c => { c with bay := none })).joinBacklog c).scene =
      s.scene.setCart c (some ({ k with bay := none } : Cartridge).core) := by
    intro k hk
    rw [State.scene_joinBacklog, State.scene_onCart, hk]
    rfl
  have hcart : ∀ k, s.cart c = some k → ((s.onCart c (fun c => { c with bay := none })).joinBacklog c).cart c =
      some { k with bay := none } := by
    intro k hk
    exact (s.cart_onCart_same c (fun c => { c with bay := none })).trans (by rw [hk]; rfl)
  change (State.faultBay ((s.onCart c (fun c => { c with bay := none })).joinBacklog c) b .removedInJob false).Sound
  cases kd with
  | write n sel =>
    obtain ⟨c', o, k, hc', -, -, -, hk, -⟩ := hs.writeJob hb hj
    cases hc.symm.trans hc'
    exact hs.faultBay_write hb hj hc false (hcart k hk) rfl rfl rfl (hscene k hk) _
  | blank =>
    obtain ⟨c', x, hbay, hcartc⟩ := hs.core.job_blank hb (by simp [State.scene, Bay.core, hj]; rfl)
    cases hc.symm.trans (congrArg BayCore.cartridge hbay)
    obtain ⟨k, hk, hkc⟩ := State.cart_of_scene hcartc
    have hst : k.state = .needsBlank := congrArg CartCore.state hkc
    exact hs.faultBay_blank hb hj hc false rfl (show ({ k with bay := none } : Cartridge).state = _ from hst)
      (hscene k hk) rfl _

theorem bayRemove (hs : s.Sound) (b : Nat) : (bayRemove b s).state.Sound := by
  unfold Machine.bayRemove
  split
  · exact hs
  · next hbad =>
    have hb := bay_of_range hbad
    split
    · exact hs
    · next c hc =>
      have hjob : (s.bay b).state = .blanking ∨ (s.bay b).state = .writing ∨ (s.bay b).state = .verifying → s.working b := by
        intro h
        simpa [State.working, State.scene, Bay.core] using hs.core.working hb h
      split
      · exact hs
      · next h => exact (hs.emptyBay hb hc (.inl h)).of_scene (State.scene_joinPool ..)
      · next h => exact hs.removeDone hb hc h
      · next h => exact hs.emptyBay hb hc (.inr h)
      · next h => exact hs.removeFaulted hb hc h
      · next h => exact (hs.removeInJob hb hc (hjob (.inl h))).settle _
      · next h => exact (hs.removeInJob hb hc (hjob (.inr (.inl h)))).settle _
      · next h => exact (hs.removeInJob hb hc (hjob (.inr (.inr h)))).settle _

theorem bayFault (hs : s.Sound) (b fault : Nat) : (bayFault b fault s).state.Sound := by
  unfold Machine.bayFault
  split
  · exact hs
  · next hbad =>
    have hb := bay_of_range hbad
    split
    · exact hs
    · next hholds =>
      have hst : (s.bay b).state = .blanking ∨ (s.bay b).state = .writing ∨ (s.bay b).state = .verifying := by
        cases h : (s.bay b).state <;> simp [h, BayState.holdsJob] at hholds ⊢
      have hjob : s.working b := by simpa [State.working, State.scene, Bay.core] using hs.core.working hb hst
      exact (hs.fault hb hjob _).settle _

theorem bayClear (hs : s.Sound) (b : Nat) : (bayClear b s).state.Sound := by
  unfold Machine.bayClear
  split
  · exact hs
  · next hbad =>
    have hb := bay_of_range hbad
    split
    · exact hs
    · next h =>
      have hc : (s.bay b).cartridge = none := by simp at h; exact h.2
      have hscene := s.scene_setBay (hs.bays ▸ hb) Bay.vacant
      constructor
      · rw [answer_state, hscene]
        exact hs.core.rebare hc (.bare (.inl rfl))
      · rw [answer_state, hscene]
        exact hs.boxes.frame (fun _ _ h _ => h) rfl rfl

/-! #### Verification (R69 to R71) -/

/-- R69. -/
theorem verifyPass (hs : s.Sound) {n : Nat} (hb : b < bayCount)
    (hn : (s.bay b).jobOrder = some n) : (s.verifyPass b n).Sound := by
  obtain ⟨c, _, hbay, ho', hobay, hser, hcart⟩ := hs.core.job_order hb (State.job_of_order hn)
  obtain ⟨o, ho, rfl⟩ := State.order_of_scene ho'
  have hplace := hs.core.place n _ ho'
  have hf := hplace.format_of_serial hser
  have hst := hs.core.inBay_state ho' hobay hser
  have hnone := hs.core.container_none ho' hst.2
  refine hs.reseat ho hobay hser
    (?_ : _ = (((s.scene.setOrder n (some { o.core with state := .ready })).setCart c (s.scene.cart c)).setBay b
      ⟨.done, some c, none⟩).setQueue s.book.queue)
    (hs.core.queued_same (fun u hu => by cases ho'.symm.trans hu; exact hst.1)) ?_ ?_
  · have hself : ∀ v, (s.scene.setOrder n v).setCart c (s.scene.cart c) = s.scene.setOrder n v :=
      fun v => (s.scene.setOrder n v).setCart_self c
    have hc : (s.bay b).cartridge = some c := congrArg BayCore.cartridge hbay
    rw [hself, State.verifyPass, State.scene_onOrder, State.scene_setBay s (hs.bays ▸ hb)]
    simp only [State.readyForm_core, State.order, State.setBay_book] at ho ⊢
    rw [ho]
    simp only [Option.map_some, Bay.core, hc]
    rfl
  · refine hs.core.settled ho' (fun w hw => ⟨w, hw, rfl⟩) ?_ rfl rfl hnone nofun
    exact .inBay (show BayState.done.work n = _ from rfl) hf (hplace.copy_none hf) hb hobay hser (Function.update_self ..)
      ((Function.update_self ..).trans hcart)
  · exact .work (show BayState.done.work n = some (.ready, _) from rfl) (Function.update_self ..) hobay hser

/-- R71: a STALLED order, out of its bay. -/
theorem stalls (hs : s.Sound) {t : State} {n : Nat} {o : Order} {v : Option CartCore} {r : BayCore} (ho : s.order n = some o)
    (hbay : o.bay = some b) (hser : o.serial = some c)
    (hscene : t.scene = ((s.scene.setOrder n (some (o.unseat .stalled).core)).setCart c v).setBay b r)
    (hr : ∀ S : Scene, S.cart c = v → S.Berth b r) : t.Sound := by
  have ho' := State.scene_order ho
  have hplace := hs.core.place n _ ho'
  have hf := hplace.format_of_serial hser
  have hst := hs.core.inBay_state ho' hbay hser
  have hq : s.scene.Queued n (some (o.unseat .stalled).core) s.book.queue :=
    hs.core.queued_same (fun u hu => by cases ho'.symm.trans hu; exact hst.1)
  have hnone := hs.core.container_none ho' hst.2
  refine hs.reseat ho hbay hser hscene hq ?_ (hr _ (Function.update_self ..))
  exact hs.core.settled ho' (fun w hw => ⟨w, hw, rfl⟩) (.stalled rfl hf ⟨rfl, rfl, hplace.copy_none hf⟩) rfl rfl hnone nofun

/-- R70: what a failed verification makes of the bay and its cartridge. -/
theorem failCartridge (hs : s.Sound) (hb : b < bayCount) (hc : (s.bay b).cartridge = some c) (hk : s.cart c = some k)
    (hkb : k.bay = some b) : ∃ v r, (s.failCartridge b c).scene = (s.scene.setCart c (some v)).setBay b r ∧
      (s.failCartridge b c).book = s.book ∧ ∀ S : Scene, S.cart c = some v → S.Berth b r := by
  have hk1 : (s.onCart c (fun c => { c with failures := c.failures + 1 })).cart c =
      some { k with failures := k.failures + 1 } := by
    rw [State.cart_onCart_same, hk]
    rfl
  have hscene : (s.onCart c (fun c => { c with failures := c.failures + 1 })).scene = s.scene :=
    s.scene_onCart_of c (fun _ => rfl)
  have hlen : b < (s.onCart c (fun c => { c with failures := c.failures + 1 })).bays.length := hs.bays ▸ hb
  simp only [State.failCartridge]
  split
  · refine ⟨⟨.needsBlank, .unbound, some b⟩, ⟨.blanking, some c, some none⟩, ?_, by simp, fun S h => ?_⟩
    · rw [State.scene_blankInPlace hlen hc hk1, hscene]
      simp only [hkb]
    · exact .spare (show BayState.blanking.spare = _ from rfl) h
  · refine ⟨⟨.retired, .unbound, some b⟩, ⟨.eject, some c, none⟩, ?_, by simp, fun S h => ?_⟩
    · rw [State.scene_retire, State.scene_setBay _ hlen, hscene]
      simp only [State.cart, State.setBay_carts] at hk1 ⊢
      rw [hk1]
      simp only [Option.map_some, hkb]
      rw [← hc]
      rfl
    · exact .spare (show BayState.eject.spare = _ from rfl) h

/-- R70, R71: a failed verification. -/
theorem verifyFail (hs : s.Sound) {n : Nat} (hb : b < bayCount) (hn : (s.bay b).jobOrder = some n)
    (hc : (s.bay b).cartridge = some c) : ((s.failCartridge b c).failOrder n c).Sound := by
  obtain ⟨c', _, hbay, ho', hobay, hser, hcart⟩ := hs.core.job_order hb (State.job_of_order hn)
  cases hc.symm.trans (congrArg BayCore.cartridge hbay)
  obtain ⟨o, ho, rfl⟩ := State.order_of_scene ho'
  obtain ⟨k, hk, hkc⟩ := State.cart_of_scene hcart
  obtain ⟨v, r, hscene, hbook, hr⟩ := hs.failCartridge hb hc hk (congrArg CartCore.bay hkc)
  have hof : (s.failCartridge b c).order n = some o := by rw [State.order, hbook]; exact ho
  simp only [State.failOrder, hof]
  split
  · have hretried : ((s.failCartridge b c).onOrder n (fun o => { o with retry := 1 })).order n =
        some { o with retry := 1 } := by
      simp only [State.order, State.onOrder_book, Table.look_alter_same] at hof ⊢
      rw [hof]
      rfl
    obtain ⟨u, q, hu, huscene, hq⟩ := State.scene_rejoin hretried
    have hq' : q.Perm (n :: s.book.queue) := by simpa [hbook] using hq
    rw [hu]
    refine (hs.reenters ho hobay hser ?_ hq' hr).arbiter.reexamineOf n
    have hsame : ((s.failCartridge b c).onOrder n (fun o => { o with retry := 1 })).scene = (s.failCartridge b c).scene :=
      State.scene_onOrder_of _ n (fun _ => rfl)
    rw [huscene, hsame, hscene]
    rfl
  · refine (hs.stalls ho hobay hser ?_ hr).reexamineOf n
    rw [State.scene_raise, State.scene_onOrder, hof, hscene]
    rfl

theorem verifyDone (hs : s.Sound) (b result : Nat) : (verifyDone b result s).state.Sound := by
  unfold Machine.verifyDone
  split
  · exact hs
  · next hbad =>
    have hb := bay_of_range hbad
    split
    · exact hs
    · split
      · next hn hc =>
        split
        · exact (hs.verifyPass hb hn).settle _
        · exact (hs.verifyFail hb hn hc).settle _
      · exact hs

end State.Sound

end Sys2Proof.Machine

/-! ### The laws of the scene: copies and hold queues -/

namespace Sys2Proof.Machine

variable {s : State}

namespace Scene

variable {S : Scene} {n l : Option Nat} {t i : Nat} {copies : List Copy} {hold hold' : List Nat}

/-- A title's copy map with one entry set that nobody else has. -/
theorem Restocked.set (x : Copy) (hlen : copies.length = copyEntries)
    (hallocated : ∀ m, copies.getD i .absent = .allocated m → n = some m)
    (honLoan : ∀ m, copies.getD i .absent = .onLoan m → l = some m) (hhold : ∀ m ∈ hold, n = some m ∨ m ∈ hold')
    (hwaits : ∀ m ∈ hold', ∃ o, S.order m = some o ∧ o.state = .waitingCopy ∧ o.title = t) :
    S.Restocked n l t ⟨.braille, copies, hold⟩ ⟨.braille, copies.set i x, hold'⟩ where
  format := rfl
  hold := hhold
  allocated j m hj := by
    by_cases hij : j = i
    · subst hij
      exact .inl (hallocated m hj)
    · refine .inr ?_
      simpa [List.getD_eq_getElem?_getD, List.getElem?_set_ne (Ne.symm hij)] using hj
  onLoan j m hj := by
    by_cases hij : j = i
    · subst hij
      exact .inl (honLoan m hj)
    · refine .inr ?_
      simpa [List.getD_eq_getElem?_getD, List.getElem?_set_ne (Ne.symm hij)] using hj
  stocked := ⟨fun _ => by simpa using hlen, hwaits⟩

/-- A title's hold queue changed. -/
theorem Restocked.rehold (hlen : copies.length = copyEntries) (hhold : ∀ m ∈ hold, n = some m ∨ m ∈ hold')
    (hwaits : ∀ m ∈ hold', ∃ o, S.order m = some o ∧ o.state = .waitingCopy ∧ o.title = t) :
    S.Restocked n l t ⟨.braille, copies, hold⟩ ⟨.braille, copies, hold'⟩ where
  format := rfl
  hold := hhold
  allocated _ _ h := .inr h
  onLoan _ _ h := .inr h
  stocked := ⟨fun _ => hlen, hwaits⟩

theorem getD_set (hi : i < copies.length) (x : Copy) : (copies.set i x).getD i .absent = x := by
  simp [List.getD_eq_getElem?_getD, hi]

end Scene

section Allocate

variable {title i n : Nat} {copies : List Copy} {hold : List Nat}

theorem State.scene_allocate (ht : s.title title = some (.braille copies hold)) (i n : Nat) : (s.allocate title i n).scene =
    (s.scene.setOrder n ((s.order n).map (fun o => { o.core with copy := some i, state := .ready }))).setTitle title
      (some ⟨.braille, copies.set i (.allocated n), hold.filter (· != n)⟩) := by
  rw [State.allocate, State.scene_raise, State.scene_onOrder, State.scene_onTitle, ht]
  rfl

end Allocate

namespace State.Sound

open Scene

variable {title i n : Nat} {copies : List Copy} {hold : List Nat}

theorem copies_length (hs : s.Sound) (ht : s.title title = some (.braille copies hold)) : copies.length = copyEntries :=
  (hs.core.stocked title _ (State.scene_title ht)).1 rfl

theorem hold_waits (hs : s.Sound) (ht : s.title title = some (.braille copies hold)) :
    ∀ m ∈ hold, ∃ o, s.scene.order m = some o ∧ o.state = .waitingCopy ∧ o.title = title :=
  (hs.core.stocked title _ (State.scene_title ht)).2

/-- R30: a copy on the shelf goes to an order that waits, or that is new. -/
theorem picks (hs : s.Sound) {t : State} (ht : s.title title = some (.braille copies hold)) (hi : i < copyEntries)
    (hfree : copies.getD i .absent = .onShelf) (p : Nat)
    (hwas : ∀ o, s.order n = some o → o.bay = none ∧ o.state = .waitingCopy ∧ o.title = title)
    (hscene : t.scene = (s.scene.setOrder n (some ⟨p, title, .braille, .ready, none, none, some i, none⟩)).setTitle title
      (some ⟨.braille, copies.set i (.allocated n), hold.filter (· != n)⟩)) : t.Sound := by
  have hlen := hs.copies_length ht
  refine hs.recopy ht (fun u hu => ?_) hscene (.set _ hlen (fun m h => nomatch hfree.symm.trans h)
    (fun m h => nomatch hfree.symm.trans h) (fun m hm => ?_) (fun m hm => ?_)) ?_
  · obtain ⟨hbay, hst, htitle⟩ := hwas u hu
    exact ⟨hbay, by simp [hst], by simp [hst], fun _ => htitle⟩
  · by_cases hmn : n = m
    · exact .inl (congrArg some hmn)
    · exact .inr (List.mem_filter.2 ⟨hm, by simpa using Ne.symm hmn⟩)
  · obtain ⟨hm, hne⟩ := List.mem_filter.1 hm
    obtain ⟨u, hu, hrest⟩ := hs.hold_waits ht m hm
    exact ⟨u, (Function.update_of_ne (by simpa using hne) _ _).trans hu, hrest⟩
  · rintro _ ⟨⟩
    exact ⟨.copied (.inl rfl) rfl rfl rfl rfl hi (Function.update_self ..) (getD_set (hlen ▸ hi) _),
      ⟨fun _ => rfl, nofun⟩, _, Function.update_self .., rfl⟩

/-- R31: a copy on the shelf goes to an order of the hold queue. -/
theorem allocate (hs : s.Sound) (ht : s.title title = some (.braille copies hold)) (hi : i < copyEntries)
    (hfree : copies.getD i .absent = .onShelf) (hn : n ∈ hold) : (s.allocate title i n).Sound := by
  obtain ⟨_, ho', hst, htitle⟩ := hs.hold_waits ht n hn
  obtain ⟨o, ho, rfl⟩ := State.order_of_scene ho'
  have hplace := hs.core.place n _ ho'
  have hf := hplace.format_of_waiting hst
  obtain ⟨hser, hbay, -⟩ := hplace.loose (.inr (.inr hst))
  have hnone := hs.core.container_none ho' (by simp [hst])
  have hscene : (s.allocate title i n).scene =
      (s.scene.setOrder n (some ⟨o.patron, title, .braille, .ready, none, none, some i, none⟩)).setTitle title
        (some ⟨.braille, copies.set i (.allocated n), hold.filter (· != n)⟩) := by
    rw [State.scene_allocate ht, ho]
    simp only [Option.map_some, hser, hbay, hnone, hf, htitle]
    rfl
  refine hs.picks ht hi hfree o.patron (fun u hu => ?_) hscene
  cases ho.symm.trans hu
  exact ⟨hbay, hst, htitle⟩

/-- R31: a copy that reaches the shelf, which may go on to an order. -/
theorem shelve (h : (s.onTitle title (fun t => t.setCopy i .onShelf)).Sound) (hi : i < copyEntries) :
    (s.shelve title i).Sound := by
  simp only [State.shelve]
  split
  · next copies head rest ht =>
    have hlen := h.copies_length ht
    obtain ⟨t, ht0, htset⟩ := Option.map_eq_some_iff.1 (show (s.title title).map (fun t => t.setCopy i .onShelf) = _ by
      rw [← ht]
      exact (Table.look_alter_same ..).symm)
    cases t with
    | cartridge _ _ => cases htset
    | braille old hold =>
      cases htset
      rw [List.length_set] at hlen
      exact h.allocate ht hi (getD_set (hlen.symm ▸ hi) _) (List.mem_cons_self ..)
  · exact h

/-- R37: an entry of a copy map that nobody has is set. -/
theorem setCopy (hs : s.Sound) (ht : s.title title = some (.braille copies hold)) (x : Copy)
    (hallocated : ∀ m, copies.getD i .absent ≠ .allocated m) (honLoan : ∀ m, copies.getD i .absent ≠ .onLoan m) :
    (s.onTitle title (fun t => t.setCopy i x)).Sound := by
  have hscene : (s.onTitle title (fun t => t.setCopy i x)).scene =
      s.scene.setTitle title (some ⟨.braille, copies.set i x, hold⟩) := by
    rw [State.scene_onTitle, ht]
    rfl
  refine hs.restock hscene (fun w hw => ?_) (fun h => ?_)
  · cases (State.scene_title ht).symm.trans hw
    exact .set _ (hs.copies_length ht) (fun m h => absurd h (hallocated m)) (fun m h => absurd h (honLoan m))
      (fun m hm => .inr hm) (hs.hold_waits ht)
  · cases (State.scene_title ht).symm.trans h

/-- R37. -/
theorem bringCopies (l : List Nat) {r : State × Nat × Nat} (hr : r.1.Sound) (hl : ∀ i ∈ l, i < copyEntries) :
    (State.bringCopies title l r).1.Sound := by
  induction l generalizing r with
  | nil => exact hr
  | cons i rest ih =>
    obtain ⟨s, needed, allocated⟩ := r
    have hrest : ∀ i ∈ rest, i < copyEntries := fun j hj => hl j (List.mem_cons_of_mem _ hj)
    unfold State.bringCopies
    split
    · next ht =>
      split
      · next habsent =>
        have hi := hl i (List.mem_cons_self ..)
        have hentry : ∀ {copies : List Copy}, copies.length = copyEntries → copies.getD i .onShelf = .absent →
            copies.getD i .absent = .absent := by
          intro copies hlen h
          simp only [List.getD_eq_getElem _ _ (hlen ▸ hi)] at h ⊢
          exact h
        have hentry := hentry (hr.copies_length ht) habsent
        have hset := hr.setCopy ht .onShelf (fun m h => nomatch hentry.symm.trans h) (fun m h => nomatch hentry.symm.trans h)
        exact ih (hset.shelve hi) hrest
      · exact ih hr hrest
    · exact hr

/-- R29: an order joins a hold queue. -/
theorem waits (hs : s.Sound) {t : State} (ht : s.title title = some (.braille copies hold)) (p : Nat)
    (hnew : s.order n = none) {hold' : List Nat} (hperm : hold'.Perm (n :: hold))
    (hscene : t.scene = (s.scene.setOrder n (some ⟨p, title, .braille, .waitingCopy, none, none, none, none⟩)).setTitle title
      (some ⟨.braille, copies, hold'⟩)) : t.Sound := by
  have hlen := hs.copies_length ht
  refine hs.recopy ht (fun u hu => nomatch hnew.symm.trans hu) hscene (.rehold hlen
    (fun m hm => .inr (hperm.mem_iff.2 (List.mem_cons_of_mem _ hm))) (fun m hm => ?_)) ?_
  · by_cases hmn : m = n
    · subst hmn
      exact ⟨_, Function.update_self .., rfl, rfl⟩
    · obtain ⟨u, hu, hrest⟩ := hs.hold_waits ht m ((List.mem_cons.1 (hperm.mem_iff.1 hm)).resolve_left hmn)
      exact ⟨u, (Function.update_of_ne hmn _ _).trans hu, hrest⟩
  · rintro _ ⟨⟩
    exact ⟨.waiting rfl rfl ⟨rfl, rfl, rfl⟩ (Function.update_self ..) (hperm.mem_iff.2 (List.mem_cons_self ..)),
      ⟨fun _ => rfl, nofun⟩, _, Function.update_self .., rfl⟩

/-- R16: an order leaves the hold queue and the book. -/
theorem leavesHold (hs : s.Sound) {t : State} {o : Order} (ho : s.order n = some o) (hst : o.state = .waitingCopy)
    (hscene : t.scene = (s.scene.setOrder n none).setTitle o.title
      ((s.title o.title).map (fun t => (t.leaveHold n).core))) : t.Sound := by
  have hplace := hs.core.place n _ (State.scene_order ho)
  obtain ⟨copies, hold, ht⟩ := State.braille_of_core hs.core ho (hplace.format_of_waiting hst)
  obtain ⟨-, hbay, -⟩ := hplace.loose (.inr (.inr hst))
  rw [ht] at hscene
  refine hs.recopy ht (fun u hu => ?_) hscene (.rehold (hs.copies_length ht) (fun m hm => ?_) (fun m hm => ?_)) settled_none
  · cases ho.symm.trans hu
    exact ⟨hbay, by simp [hst], by simp [hst], fun _ => rfl⟩
  · by_cases hmn : n = m
    · exact .inl (congrArg some hmn)
    · exact .inr (List.mem_filter.2 ⟨hm, by simpa using Ne.symm hmn⟩)
  · obtain ⟨hm, hne⟩ := List.mem_filter.1 hm
    obtain ⟨u, hu, hrest⟩ := hs.hold_waits ht m hm
    exact ⟨u, (Function.update_of_ne (by simpa using hne) _ _).trans hu, hrest⟩

/-- R16: an order leaves the book, and its copy goes to the shelf. -/
theorem leavesCopy (hs : s.Sound) {t : State} {o : Order} (ho : s.order n = some o) (hst : o.state = .ready)
    (hi : o.copy = some i) (hscene : t.scene = (s.scene.setOrder n none).setTitle o.title
      ((s.title o.title).map (fun t => (t.setCopy i .onShelf).core))) : t.Sound ∧ i < copyEntries := by
  have hplace := hs.core.place n _ (State.scene_order ho)
  obtain ⟨-, hf, -, hbay, hlt, v, hv, hentry⟩ := hplace.of_copy hi
  obtain ⟨copies, hold, ht⟩ := State.braille_of_core hs.core ho hf
  cases (State.scene_title ht).symm.trans hv
  have hentry : copies.getD i .absent = .allocated n := hentry
  rw [ht] at hscene
  refine ⟨hs.recopy ht (fun u hu => ?_) hscene (.set _ (hs.copies_length ht) (fun m hm => ?_)
    (fun m hm => nomatch hentry.symm.trans hm) (fun m hm => .inr hm) (fun m hm => ?_)) settled_none, hlt⟩
  · cases ho.symm.trans hu
    exact ⟨hbay, by simp [hst], by simp [hst], fun h => nomatch hst.symm.trans h⟩
  · cases hentry.symm.trans hm
    rfl
  · obtain ⟨u, hu, hwait, htitle⟩ := hs.hold_waits ht m hm
    have hmn : m ≠ n := by
      rintro rfl
      cases (State.scene_order ho).symm.trans hu
      cases hst.symm.trans hwait
    exact ⟨u, (Function.update_of_ne hmn _ _).trans hu, hwait, htitle⟩

end State.Sound

end Sys2Proof.Machine

/-! ### The laws of the scene: orders placed, released and cancelled -/

namespace Sys2Proof.Machine

variable {s : State}

/-! #### Acts on a patron's own record leave the scene -/

theorem Patron.relimit_openContainer (p : Patron) : p.relimit.openContainer = p.openContainer := rfl
theorem Patron.lose_openContainer (p : Patron) : p.lose.openContainer = p.openContainer := rfl

theorem Patron.returned_openContainer (p : Patron) (st : LoanState) : (p.returned st).openContainer = p.openContainer := by
  cases st with
  | out => rfl
  | overdue =>
    simp only [Patron.returned, Patron.relimit_openContainer, Patron.overdueReturned]

theorem State.scene_enterOrder (s : State) (n p title : Nat) (f : Format) (pr : Priority) :
    (s.enterOrder n p title f pr).scene = s.scene.setOrder n (some (s.newOrder p title f pr).core) := by
  simp only [State.scene, Scene.setOrder]
  congr 1
  · funext m
    simp only [State.order, State.enterOrder, Table.look_put, Function.update_apply]
    split <;> rfl
  · funext m
    simp only [State.patron, State.enterOrder, Table.look_alter]
    split
    · next h =>
      subst h
      cases s.patrons.look m <;> rfl
    · rfl

theorem onShelf_of_lowestOnShelf {copies : List Copy} {i : Nat} (h : lowestOnShelf copies = some i) :
    i < copies.length ∧ copies.getD i .absent = .onShelf := by
  obtain ⟨hi, hon, -⟩ := List.findIdx?_eq_some_iff_getElem.1 h
  exact ⟨hi, by simpa [hi] using hon⟩

namespace State.Sound

open Scene

variable {n : Nat}

/-! #### Orders that join the pending queue -/

/-- R9, R13: a new order for a cartridge title joins the pending queue. -/
theorem pends (hs : s.Sound) {t : State} {p title size : Nat} {sel : Selector} (hnew : s.order n = none)
    (ht : s.title title = some (.cartridge size sel)) {q : List Nat} (hq : q.Perm (n :: s.book.queue))
    (hscene : t.scene = (s.scene.setOrder n (some ⟨p, title, .cartridge, .pending, none, none, none, none⟩)).setQueue q) :
    t.Sound := by
  have hnone : s.scene.order n = none := by simp [State.scene, hnew]
  refine hs.reorder (fun u hu => nomatch hnew.symm.trans hu) hscene
    (hs.core.queued_join (fun u hu => nomatch hnone.symm.trans hu) hq rfl) ?_
  rintro _ ⟨⟩
  exact ⟨.queued rfl rfl ⟨rfl, rfl, rfl⟩ (hq.mem_iff.2 (List.mem_cons_self ..)), ⟨fun _ => rfl, nofun⟩, _,
    State.scene_title ht, rfl⟩

theorem createOrder (hs : s.Sound) (hf : s.FirstLaw) (p title : Nat) (pr : Priority) : (s.createOrder p title pr).Sound := by
  have hnew : s.order s.nextOrder = none := hf.nextOrder_free
  cases ht : s.title title with
  | none => rwa [s.createOrder_of_no_title ht]
  | some t =>
    obtain ⟨e, he⟩ : ∃ e, e = s.enterOrder s.nextOrder p title t.format pr := ⟨_, rfl⟩
    have hscene : e.scene = s.scene.setOrder s.nextOrder (some (s.newOrder p title t.format pr).core) :=
      he ▸ s.scene_enterOrder s.nextOrder p title t.format pr
    have hord : e.order s.nextOrder = some (s.newOrder p title t.format pr) := he ▸ s.enterOrder_order_same ..
    have htitle : e.title title = some t := he ▸ ht
    have hqueue : e.book.queue = s.book.queue := he ▸ rfl
    cases t with
    | cartridge size sel =>
      have hcreate : s.createOrder p title pr = e.joinPending s.nextOrder := by rw [he, s.createOrder_cartridge ht]; rfl
      have hjoin : (e.setQueue (joinTail e.isRush s.nextOrder e.book.queue)).scene =
          (s.scene.setOrder s.nextOrder (some ⟨p, title, .cartridge, .pending, none, none, none, none⟩)).setQueue
            (joinTail e.isRush s.nextOrder s.book.queue) := by
        rw [State.scene_setQueue, hscene, hqueue]
        rfl
      rw [hcreate]
      exact (hs.pends hnew ht (joinTail_perm ..) hjoin).arbiter
    | braille copies hold =>
      cases hlow : lowestOnShelf copies with
      | some i =>
        have hcreate : s.createOrder p title pr = e.allocate title i s.nextOrder := by
          rw [he, s.createOrder_picked ht p pr hlow]
          rfl
        obtain ⟨hlt, hon⟩ := onShelf_of_lowestOnShelf hlow
        refine hs.picks ht (hs.copies_length ht ▸ hlt) hon p (fun u hu => nomatch hnew.symm.trans hu) ?_
        rw [hcreate, State.scene_allocate htitle, hord, hscene]
        exact congrArg (fun S : Scene => S.setTitle title
          (some ⟨.braille, copies.set i (.allocated s.nextOrder), hold.filter (· != s.nextOrder)⟩))
          (Scene.setOrder_setOrder ..)
      | none =>
        have hcreate : s.createOrder p title pr = e.onTitle title (Title.joinHold e.isRush s.nextOrder) := by
          rw [he, s.createOrder_held ht p pr hlow]
          rfl
        refine hs.waits ht p hnew (joinTail_perm e.isRush s.nextOrder hold) ?_
        rw [hcreate, State.scene_onTitle, hscene, htitle]
        rfl

/-- R15: the release pass. -/
theorem releaseLoop {p : Nat} (l : List Nat) {r : State × Nat} (hs : r.1.Sound) (hf : r.1.FirstLaw)
    (hl : ∀ q, r.1.patron p = some q → q.deferred = l) : (State.releaseLoop p l r).1.Sound := by
  induction l generalizing r with
  | nil => exact hs
  | cons title rest ih =>
    unfold State.releaseLoop
    split
    · next hmay =>
      obtain ⟨q, hq, hc, -, hroom⟩ := (r.1.mayRelease_iff p).1 hmay
      have hstrip : (r.1.onPatron p (fun p => { p with deferred := rest })).Sound :=
        hs.of_scene (State.scene_onPatron_of _ p (fun _ => rfl))
      have hstripf : (r.1.onPatron p (fun p => { p with deferred := rest })).FirstLaw :=
        hf.onPatron p _ (fun _ => rfl)
      have hp : (r.1.onPatron p (fun p => { p with deferred := rest })).patron p = some { q with deferred := rest } := by
        simp [hq]
      dsimp only
      split
      · refine ih hstrip hstripf (fun u hu => ?_)
        cases hp.symm.trans hu
        rfl
      · have hlimit : q.causes.limit = false := by
          simp only [Causes.any, Bool.or_eq_false_iff] at hc
          exact hc.1.1
        refine ih (hstrip.createOrder hstripf p title .standard)
          (firstLaw_shapeLaw.createOrder hstripf hp hlimit hroom) (fun u hu => ?_)
        have hkept := State.createOrder_deferred (r.1.onPatron p (fun p => { p with deferred := rest })) p title .standard
        rw [hu, hp] at hkept
        simpa using hkept
    · exact hs

theorem releasePass (hs : s.Sound) (hf : s.FirstLaw) (p : Nat) : (s.releasePass p).1.Sound := by
  unfold State.releasePass
  split
  · next q hq =>
    refine releaseLoop _ hs hf (fun u hu => ?_)
    cases hq.symm.trans hu
    rfl
  · exact hs

/-! #### ORDER_PLACE, ORDER_RETRY and the patron's requests -/

theorem orderPlace (hs : s.Sound) (hf : s.FirstLaw) (p title pr : Nat) : (Machine.orderPlace p title pr s).state.Sound := by
  simp only [Machine.orderPlace]
  split
  · exact hs
  split
  · exact hs
  split
  · exact hs
  split
  · exact hs
  split
  · exact hs
  split
  · split
    · exact hs
    · have hdeferred : (s.onPatron p (fun q => { q with deferred := q.deferred ++ [title] })).Sound :=
        hs.of_scene (State.scene_onPatron_of _ p (fun _ => rfl))
      exact (hdeferred.releasePass (hf.onPatron p _ (fun _ => rfl)) p).settle _
  · exact (hs.createOrder hf p title _).settle _

/-- R19: a STALLED order joins the pending queue. -/
theorem orderRetry (hs : s.Sound) (n : Nat) : (Machine.orderRetry n s).state.Sound := by
  simp only [Machine.orderRetry]
  split
  · exact hs
  split
  · exact hs
  next o ho =>
  split
  · exact hs
  · next hstalled =>
    have hst : o.state = .stalled := by simpa using hstalled
    have ho' := State.scene_order ho
    have hplace := hs.core.place n _ ho'
    obtain ⟨-, hbay, hcopy⟩ := hplace.loose (.inr (.inl hst))
    have hf : o.format = .cartridge := hplace.format_of_stalled hst
    have hnone := hs.core.container_none ho' (show o.state ≠ .packed by simp [hst])
    obtain ⟨e, he⟩ : ∃ e, e = s.onOrder n (fun o => { o.unseat .pending with retry := 0 }) := ⟨_, rfl⟩
    have hjoin : (e.setQueue (joinTail e.isRush n e.book.queue)).scene =
        (s.scene.setOrder n (some (o.unseat .pending).core)).setQueue (joinTail e.isRush n s.book.queue) := by
      rw [State.scene_setQueue, he, State.scene_onOrder, ho]
      rfl
    have hperm := joinTail_perm e.isRush n s.book.queue
    rw [← he]
    refine (hs.reorder (fun u hu => ?_) hjoin (hs.core.queued_join (fun u hu => ?_) hperm rfl) ?_).arbiter.settle _
    · cases ho.symm.trans hu
      exact ⟨hbay, by simp [hst], by simp [hst]⟩
    · cases ho'.symm.trans hu
      simp [Order.core, hst]
    · exact hs.core.settled ho' (fun w hw => ⟨w, hw, rfl⟩) (.queued rfl hf ⟨rfl, rfl, hcopy⟩
        (hperm.mem_iff.2 (List.mem_cons_self ..))) rfl rfl hnone nofun

theorem patronOpen (hs : s.Sound) (p region high restore : Nat) : (Machine.patronOpen p region high restore s).state.Sound := by
  simp only [Machine.patronOpen]
  split
  · exact hs
  split
  · exact hs
  next hnew =>
  split
  · exact hs
  · have hfree : s.patrons.look p = none := (Table.has_false_iff _ p).1 (by simpa using hnew)
    refine hs.of_scene ?_
    simp only [answer_state, State.scene]
    congr 1
    funext m
    simp only [State.patron, Table.look_put]
    split
    · next h =>
      subst h
      rw [hfree]
      rfl
    · rfl

theorem patronSet (hs : s.Sound) (hf : s.FirstLaw) (p region high restore sus : Nat) :
    (Machine.patronSet p region high restore sus s).state.Sound := by
  simp only [Machine.patronSet]
  split
  · exact hs
  split
  · exact hs
  split
  · exact hs
  · have hset : (s.onPatron p (fun q => q.setFields region (setLimits high restore).1 (setLimits high restore).2
        (decide (sus = 1)))).Sound := hs.of_scene (State.scene_onPatron_of _ p (fun _ => rfl))
    exact (hset.releasePass (hf.onPatron p _ (fun _ => rfl)) p).settle _

/-- R22: a patron without an outstanding item has no OPEN container. -/
theorem patronClose (hs : s.Sound) (hf : s.FirstLaw) (p : Nat) : (Machine.patronClose p s).state.Sound := by
  simp only [Machine.patronClose]
  split
  · exact hs
  split
  · exact hs
  next q hq =>
  split
  · exact hs
  · next hzero =>
    have hscene : ({ s with patrons := s.patrons.drop p } : State).scene = s.scene.setOpen p none := by
      simp only [State.scene, Scene.setOpen]
      congr 1
      funext m
      simp only [State.patron, Table.look_drop, Function.update_apply]
      split <;> rfl
    constructor
    · rw [answer_state, hscene]
      exact hs.core.recontain Keeps.refl p none
    · rw [answer_state, hscene]
      intro m c hm
      obtain ⟨hfilled, hlid⟩ := hs.boxes m c hm
      obtain ⟨-, hone, -, -, hitems⟩ := (hs.boxes m c hm).1
      refine ⟨hfilled, fun h => ?_⟩
      obtain ⟨hb, hlen, hopen⟩ := hlid h
      refine ⟨hb, hlen, (Function.update_of_ne ?_ _ _).trans hopen⟩
      rintro rfl
      obtain ⟨n, hn⟩ := List.exists_mem_of_length_pos hone
      obtain ⟨_, ho', -, -, hp, -⟩ := hitems n hn
      obtain ⟨o, ho, rfl⟩ := State.order_of_scene ho'
      have hnone := (State.holdings_eq_zero.1 ((hf.holdings_eq hq).symm.trans (by omega))).1
      exact hnone (n, o) (Table.mem_of_look _ ho) hp

/-! #### ORDER_CANCEL -/

/-- R16: the item of an order that leaves the book. -/
theorem releaseItem (hs : s.Sound) {o : Order} (ho : s.order n = some o) (hst : o.state ≠ .packed) :
    ((s.dropOrder n).releaseItem n o).Sound := by
  have ho' := State.scene_order ho
  have hplace := hs.core.place n _ ho'
  have hdrop := s.scene_dropOrder n
  have hblank : ∀ b, o.bay = some b → ((s.dropOrder n).blankInPlace b).Sound := by
    intro b hb
    obtain ⟨c, hc⟩ := hplace.serial_of_bay hb
    obtain ⟨st, job, -, hlt, hbay, hcart⟩ := hs.core.inBay ho' hb hc
    obtain ⟨k, hk, hkc⟩ := State.cart_of_scene hcart
    have hkb : k.bay = some b := congrArg CartCore.bay hkc
    have hscene : ((s.dropOrder n).blankInPlace b).scene =
        (((s.scene.setOrder n none).setCart c (some ⟨.needsBlank, .unbound, some b⟩)).setBay b
          ⟨.blanking, some c, some none⟩).setQueue s.scene.queue := by
      have hlen : b < (s.dropOrder n).bays.length := hs.bays ▸ hlt
      have hbc : ((s.dropOrder n).bay b).cartridge = some c := congrArg BayCore.cartridge hbay
      have hkd : (s.dropOrder n).cart c = some k := hk
      rw [State.scene_blankInPlace hlen hbc hkd, hdrop, hkb]
      rfl
    refine hs.reseat ho hb hc hscene (hs.core.queued_same fun u hu => ?_) settled_none ?_
    · cases ho'.symm.trans hu
      exact (hs.core.inBay_state ho' hb hc).1
    · exact .spare (show BayState.blanking.spare = _ from rfl) (Function.update_self ..)
  unfold State.releaseItem
  split
  · next hst =>
    obtain ⟨-, hbay, -⟩ := hplace.loose (.inl hst)
    refine hs.reorder (fun u hu => ?_) (by rw [State.scene_setQueue, hdrop]; rfl) (hs.core.queued_leave n none) settled_none
    cases ho.symm.trans hu
    exact ⟨hbay, by simp [hst], by simp [hst]⟩
  · next hst => exact hs.leavesHold ho hst (by rw [State.scene_onTitle, hdrop]; rfl)
  · next hst =>
    obtain ⟨b, hb⟩ := hplace.bay_of_rack (.inl hst)
    rw [show o.bay = some b from hb]
    exact hblank b hb
  · next hst =>
    obtain ⟨b, hb⟩ := hplace.bay_of_rack (.inr hst)
    rw [show o.bay = some b from hb]
    exact hblank b hb
  · next hst =>
    split
    · next i hi =>
      have hscene : ((s.dropOrder n).onTitle o.title (fun t => t.setCopy i .onShelf)).scene =
          (s.scene.setOrder n none).setTitle o.title ((s.title o.title).map (fun t => (t.setCopy i .onShelf).core)) := by
        rw [State.scene_onTitle, hdrop]
        rfl
      obtain ⟨hset, hlt⟩ := hs.leavesCopy ho hst hi hscene
      exact hset.shelve hlt
    · next hb => exact hblank _ hb
    · next c _ hb hc =>
      obtain ⟨st, hsh, hcart⟩ := hs.core.shelved ho' hb hc
      obtain ⟨k, hk, hkc⟩ := State.cart_of_scene hcart
      have hscene : (((s.dropOrder n).onCart c (fun c => { c with state := .needsBlank, bound := .unbound })).joinBacklog
          c).scene = (s.scene.setOrder n none).setCart c (some ⟨.needsBlank, .unbound, k.bay⟩) := by
        rw [State.scene_joinBacklog, State.scene_onCart, hdrop, show (s.dropOrder n).cart c = some k from hk]
        rfl
      exact hs.reshelve ho (by simp [hst]) hb hc hscene settled_none
    · next hcopy _ hser => exact absurd ⟨hcopy, hser⟩ (hplace.item_of_ready hst)
  · next h => exact absurd h hst
  · next hst =>
    obtain ⟨-, hbay, -⟩ := hplace.loose (.inr (.inl hst))
    refine hs.reorder (fun u hu => ?_) hdrop (hs.core.queued_same fun u hu => ?_) settled_none
    · cases ho.symm.trans hu
      exact ⟨hbay, by simp [hst], by simp [hst]⟩
    · cases ho'.symm.trans hu
      simp [Order.core, hst]

theorem orderCancel (hs : s.Sound) (hf : s.FirstLaw) (n : Nat) : (Machine.orderCancel n s).state.Sound := by
  simp only [Machine.orderCancel]
  split
  · exact hs
  split
  · exact hs
  next o ho =>
  split
  · exact hs
  · next hst =>
    have hreleased : (((s.dropOrder n).releaseItem n o).onPatron o.patron Patron.lose).Sound :=
      (hs.releaseItem ho hst).of_scene (State.scene_onPatron_of _ _ Patron.lose_openContainer)
    refine ((hreleased.reexamine o.patron).releasePass (firstLaw_shapeLaw.congr ?_ (firstLaw_shapeLaw.cancelled hf ho))
      o.patron).settle _
    simp only [State.shape_reexamine]
    exact State.shape_onPatron_congr (by simp) _ (fun _ => rfl)

end State.Sound

end Sys2Proof.Machine

/-! ### The laws of the scene: items placed in containers (8.2) -/

namespace Sys2Proof.Machine

variable {s : State}

/-- R129: an order PACKED in a container. -/
def OrderCore.packed (o : OrderCore) (k : Nat) : OrderCore :=
  { o with state := .packed, container := some k }

/-- R129: a container with an item more. -/
def ContainerCore.with (c : ContainerCore) (n : Nat) : ContainerCore :=
  { c with items := c.items ++ [n] }

namespace Scene

variable {S : Scene}

/-- The containers with one replaced. -/
def box (S : Scene) (k : Nat) (c : ContainerCore) : Nat → Option ContainerCore :=
  Function.update S.container k (some c)

theorem Keeps.box {k : Nat} {c : ContainerCore} (h : ∀ v, S.container k = some v → ∀ m ∈ v.items, m ∈ c.items) :
    S.Keeps (S.box k c) := by
  intro j v hv
  by_cases hj : j = k
  · subst hj
    exact ⟨c, Function.update_self .., h v hv⟩
  · exact ⟨v, (Function.update_of_ne hj _ _).trans hv, fun _ h => h⟩

/-- What is asked of a container, and of the others, before an item is placed in it. -/
structure Ready (S : Scene) (n : Nat) (o : OrderCore) (k : Nat) (c : ContainerCore) : Prop where
  patron : c.patron = o.patron
  braille : c.braille = decide (o.format = .braille)
  nodup : c.items.Nodup
  room : c.items.length < containerCapacity
  alone : c.braille = true → c.items = []
  items : ∀ m ∈ c.items, ∃ u, S.order m = some u ∧ u.state = .packed ∧ u.container = some k ∧ u.patron = c.patron ∧
    c.braille = decide (u.format = .braille)
  others : ∀ j v, S.container j = some v → j ≠ k → S.Filled j v ∧ S.Lid j v

/-- R129: the containers once an item has been placed. -/
theorem Ready.boxes {S' : Scene} {n k : Nat} {o : OrderCore} {c : ContainerCore} (h : S.Ready n o k c)
    (hn : S.order n = some o) (hst : o.state ≠ .packed) (horder : ∀ m, m ≠ n → S'.order m = S.order m)
    (hpacked : S'.order n = some (o.packed k)) (hcont : S'.container = S.box k (c.with n))
    (hopen : S'.openOf = S.openOf) : S'.BoxesBut k := by
  have hother : ∀ m u, S.order m = some u → u.state = .packed → S'.order m = some u := by
    intro m u hu hp
    have hm : m ≠ n := by
      rintro rfl
      cases hn.symm.trans hu
      exact hst hp
    exact (horder m hm).trans hu
  intro j v hv
  rw [hcont] at hv
  by_cases hj : j = k
  · subst hj
    cases (Function.update_self ..).symm.trans hv
    refine ⟨⟨?_, by simp [ContainerCore.with], ?_, fun hb => ?_, fun m hm => ?_⟩, fun h => absurd rfl h⟩
    · refine List.nodup_append.2 ⟨h.nodup, List.nodup_singleton n, fun m hm x hx => ?_⟩
      obtain ⟨u, hu, hp, -⟩ := h.items m hm
      rintro rfl
      cases List.mem_singleton.1 hx
      cases hn.symm.trans hu
      exact hst hp
    · simpa [ContainerCore.with] using h.room
    · simp [ContainerCore.with, h.alone hb]
    · rcases List.mem_append.1 hm with hm | hm
      · obtain ⟨u, hu, hp, hrest⟩ := h.items m hm
        exact ⟨u, hother m u hu hp, hp, hrest⟩
      · cases List.mem_singleton.1 hm
        exact ⟨_, hpacked, rfl, rfl, h.patron.symm, h.braille⟩
  · obtain ⟨hfilled, hlid⟩ := h.others j v ((Function.update_of_ne hj _ _).symm.trans hv) hj
    exact ⟨hfilled.frame (fun m u hu hp _ => hother m u hu hp), fun _ => by rwa [Lid, hopen]⟩

end Scene

/-! #### The scene once an item has been placed -/

section Placed

variable {n k : Nat} {o : Order} {c : Container}

theorem State.scene_placeItem_copy (ho : s.order n = some o) (hk : s.container k = some c) (hser : o.serial = none) :
    (s.placeItem n o k).scene =
      (s.scene.setOrder n (some (o.core.packed k))).setContainers (s.scene.box k (c.core.with n)) := by
  simp only [State.placeItem, hser]
  rw [State.scene_onContainer, State.scene_onOrder, ho]
  simp only [State.container, State.onOrder_packing] at hk ⊢
  rw [hk]
  rfl

theorem State.scene_placeItem_cartridge {serial : Nat} {v : Cartridge} (ho : s.order n = some o)
    (hk : s.container k = some c) (hser : o.serial = some serial) (hv : s.cart serial = some v) :
    (s.placeItem n o k).scene = ((s.scene.setOrder n (some (o.core.packed k))).setCart serial
      (some ⟨.packed, v.bound, v.bay⟩)).setContainers (s.scene.box k (c.core.with n)) := by
  simp only [State.placeItem, hser]
  rw [State.scene_onCart, State.scene_onContainer, State.scene_onOrder, ho]
  simp only [State.container, State.cart, State.onContainer_carts, State.onOrder_packing, State.onOrder_carts] at hk hv ⊢
  rw [hk, hv]
  rfl

/-- R129. -/
theorem State.Sound.placeItem (hcore : s.scene.Core) (ho : s.order n = some o) (hst : o.state = .ready)
    (hbay : o.bay = none) (hk : s.container k = some c) (hready : s.scene.Ready n o.core k c.core) :
    (s.placeItem n o k).SoundBut k := by
  have ho' := State.scene_order ho
  have hplace := hcore.place n _ ho'
  have hkeeps : s.scene.Keeps (s.scene.box k (c.core.with n)) := by
    refine .box (fun v hv m hm => ?_)
    cases (show s.scene.container k = some c.core by simp [State.scene, hk]).symm.trans hv
    exact List.mem_append_left _ hm
  have hunpacked : o.core.state ≠ .packed := by simp [Order.core, hst]
  have hboxed : ∀ S : Scene, S.container = s.scene.box k (c.core.with n) → S.Boxed n (o.core.packed k) := by
    intro S hS
    refine ⟨fun h => absurd rfl h, fun _ => ⟨k, c.core.with n, rfl, ?_, ?_⟩⟩
    · rw [hS]
      exact Function.update_self ..
    · exact List.mem_append_right _ (List.mem_singleton.2 rfl)
  have hboxes {S : Scene} (hscene : (s.placeItem n o k).scene = S)
      (horder : S.order = Function.update s.scene.order n (some (o.core.packed k)))
      (hcont : S.container = s.scene.box k (c.core.with n)) (hopen : S.openOf = s.scene.openOf) :
      (s.placeItem n o k).scene.BoxesBut k := by
    rw [hscene]
    refine hready.boxes ho' hunpacked (fun m hm => ?_) ?_ hcont hopen
    · rw [horder]
      exact Function.update_of_ne hm _ _
    · rw [horder]
      exact Function.update_self ..
  cases hser : o.serial with
  | none =>
    have hscene := State.scene_placeItem_copy ho hk hser
    refine ⟨?_, hboxes hscene rfl rfl rfl⟩
    rw [hscene]
    refine hcore.reorder (fun u hu => ?_) (hcore.queued_same (fun u hu => ?_)) hkeeps ?_
    · cases ho'.symm.trans hu
      exact ⟨hbay, by simp [Order.core, hst]⟩
    · cases ho'.symm.trans hu
      simp [Order.core, hst]
    · rintro _ ⟨⟩
      obtain ⟨w, hw, hfmt⟩ := hcore.catalogued n _ ho'
      refine ⟨?_, hboxed _ rfl, w, hw, hfmt⟩
      cases hplace with
      | queued h => cases hst.symm.trans h
      | stalled h => cases hst.symm.trans h
      | waiting h => cases hst.symm.trans h
      | inBay _ _ _ _ _ h => cases hser.symm.trans h
      | shelved _ _ _ _ h => cases hser.symm.trans h
      | copied _ h2 h3 h4 h5 h6 h7 h8 => exact .copied (.inr rfl) h2 h3 h4 h5 h6 h7 h8
  | some serial =>
    obtain ⟨st, -, hcart⟩ := hcore.shelved ho' hbay hser
    obtain ⟨v, hv, hvc⟩ := State.cart_of_scene hcart
    have hscene := State.scene_placeItem_cartridge ho hk hser hv
    refine ⟨?_, hboxes hscene rfl rfl rfl⟩
    rw [hscene]
    refine hcore.reshelve ho' hbay hser hkeeps ?_
    rintro _ ⟨⟩
    obtain ⟨w, hw, hfmt⟩ := hcore.catalogued n _ ho'
    have hf := hplace.format_of_serial hser
    have hbound : v.bound = .order n := congrArg CartCore.bound hvc
    have hvbay : v.bay = none := congrArg CartCore.bay hvc
    exact ⟨.shelved (show OrderState.packed.shelved = some .packed from rfl) hf (hplace.copy_none hf) hbay hser
      ((Function.update_self ..).trans (by rw [hbound, hvbay])), hboxed _ rfl, w, hw, hfmt⟩

theorem State.order_of_readyTarget {m : Nat} (h : s.readyTarget m = .order n) (ho : s.order n = some o) :
    m = n ∧ o.state = .ready := by
  unfold State.readyTarget at h
  split at h
  · next o' ho' =>
    split at h
    · next hst =>
      cases h
      cases ho.symm.trans ho'
      exact ⟨rfl, hst⟩
    · cases h
  · cases h

/-- R128 step 5: the containers with a new one. -/
def State.withContainer (s : State) (k : Nat) (c : Container) : State :=
  { s with packing := { s.packing with
    containers := s.packing.containers.put k c, containerCounter := nextNumber maxNumber k } }

theorem State.scene_withContainer (s : State) (k : Nat) (c : Container) :
    (s.withContainer k c).scene = s.scene.setContainers (s.scene.box k c.core) := by
  simp only [State.scene, Scene.setContainers, Scene.box]
  congr 1
  funext m
  simp only [State.container, State.withContainer, Table.look_put, Function.update_apply]
  split <;> rfl

end Placed

namespace State.Sound

open Scene

variable {n k : Nat} {o : Order} {c : Container}

/-- R128, R130, R131: what follows the placement. -/
theorem afterPlacing (hs : s.SoundBut k) (hk : s.container k = some c)
    (hopen : c.braille = false → s.scene.openOf c.patron = some k) (created : Bool) : (s.afterPlacing k created).Sound := by
  simp only [State.afterPlacing, hk]
  split
  · exact hs.closeContainer
  · next hstays =>
    simp only [closesOnPlacing, Bool.or_eq_true, decide_eq_true_eq, not_or, Bool.not_eq_true, Nat.not_le] at hstays
    obtain ⟨⟨hbraille, -⟩, hlen⟩ := hstays
    have hsound : s.Sound := by
      refine ⟨hs.core, fun j v hv => ⟨(hs.boxes j v hv).1, ?_⟩⟩
      by_cases hj : j = k
      · subst hj
        cases (show s.scene.container j = some c.core by simp [State.scene, hk]).symm.trans hv
        exact fun _ => ⟨hbraille, hlen, hopen hbraille⟩
      · exact (hs.boxes j v hv).2 hj
    unfold State.expireAtOnce
    split
    · split
      · exact hsound.of_scene (State.scene_hold s k)
      · exact hsound.closeContainer k
    · exact hsound

/-- R128: the item of a READY order goes into a container. -/
theorem packInto (hcore : s.scene.Core) (ho : s.order n = some o) (hst : o.state = .ready) (hbay : o.bay = none)
    (hk : s.container k = some c) (hready : s.scene.Ready n o.core k c.core)
    (hopen : c.braille = false → s.scene.openOf c.patron = some k) (created : Bool) :
    (s.packInto n o k created).state.Sound := by
  have hplaced := State.Sound.placeItem hcore ho hst hbay hk hready
  have hbox : ∃ c', (s.placeItem n o k).container k = some c' ∧ c'.braille = c.braille ∧ c'.patron = c.patron ∧
      (s.placeItem n o k).scene.openOf = s.scene.openOf := by
    refine ⟨{ c with items := c.items ++ [n], lastItem := s.clock.second, held := false, idle := some 0 }, ?_, rfl, rfl, ?_⟩
    · have hlook := Table.look_alter_same s.packing.containers k (fun c =>
        { c with items := c.items ++ [n], lastItem := s.clock.second, held := false, idle := some 0 })
      rw [show s.packing.containers.look k = some c from hk] at hlook
      cases hser : o.serial <;> (simp only [State.placeItem, hser]; exact hlook)
    · cases hser : o.serial <;> simp only [State.placeItem, hser] <;> rfl
  obtain ⟨c', hk', hb, hp, ho⟩ := hbox
  exact (afterPlacing hplaced hk' (fun h => by rw [ho, hp]; exact hopen (hb.symm.trans h)) created).reexamine _

/-- R128 steps 2 and 3: the patron's own container takes an item. -/
theorem ready_open (hs : s.Sound) (hbags : s.BagLaw) {p : Patron} (hp : s.patron o.patron = some p)
    (hopen : p.openContainer = some k) (hf : o.format = .cartridge) :
    ∃ c, s.container k = some c ∧ c.patron = o.patron ∧ s.scene.Ready n o.core k c.core := by
  obtain ⟨-, -, -, -, -, -, -, -, hnamed⟩ := hbags
  obtain ⟨c, hk, hopened, hpat⟩ := hnamed _ (Table.mem_of_look _ hp) k hopen
  have hkc : s.scene.container k = some c.core := by simp [State.scene, show s.container k = some c from hk]
  obtain ⟨⟨hnodup, hone, hthree, hbraille, hitems⟩, hlid⟩ := hs.boxes k c.core hkc
  obtain ⟨hnot, hlen, -⟩ := hlid (by simp [Container.core, hopened])
  refine ⟨c, hk, hpat, ⟨hpat, ?_, hnodup, hlen, fun h => ?_, hitems, fun j v hv _ => hs.boxes j v hv⟩⟩
  · rw [hnot]
    simp [Order.core, hf]
  · exact absurd h (by simp [hnot])

/-- R128 step 5: a new container takes an item. -/
theorem ready_new (hs : s.Sound) (hbags : s.BagLaw) (hroom : s.packing.containers.length < maxContainers) {p : Patron}
    (hp : s.patron o.patron = some p) (hopen : o.format = .cartridge → p.openContainer = none) :
    ∃ (t : State) (k : Nat) (c : Container), s.newContainer o.patron (decide (o.format = .braille)) = (t, k) ∧
      t.order = s.order ∧ t.container k = some c ∧ t.scene.Core ∧ t.scene.Ready n o.core k c.core ∧
      (c.braille = false → t.scene.openOf c.patron = some k) := by
  obtain ⟨-, -, -, ⟨h1, h2⟩, -⟩ := hbags
  have hfree : s.packing.containers.look (assignNumber maxNumber s.packing.containers s.packing.containerCounter) = none :=
    assignNumber_free _ h1 h2 (by simp only [maxContainers, maxNumber] at *; omega)
  obtain ⟨k, hkdef⟩ : ∃ k, k = assignNumber maxNumber s.packing.containers s.packing.containerCounter := ⟨_, rfl⟩
  obtain ⟨c, hcdef⟩ : ∃ c, c = s.freshContainer o.patron (decide (o.format = .braille)) := ⟨_, rfl⟩
  have hnone : s.scene.container k = none := by simp [State.scene, State.container, hkdef, hfree]
  have hkeeps : s.scene.Keeps (s.scene.box k c.core) := .box (fun v hv => nomatch hnone.symm.trans hv)
  have hready : ∀ x, (∀ j v, s.scene.container j = some v → v.opened = true → v.patron = o.patron → x = s.scene.openOf o.patron) →
      ((s.scene.setContainers (s.scene.box k c.core)).setOpen o.patron x).Ready n o.core k c.core := by
    intro x hx
    refine ⟨hcdef ▸ rfl, hcdef ▸ rfl, hcdef ▸ List.nodup_nil, hcdef ▸ Nat.succ_pos 2, fun _ => hcdef ▸ rfl,
      fun m hm => absurd hm (by simp [hcdef, Container.core, State.freshContainer]), fun j v hv hj => ?_⟩
    have hv' : s.scene.container j = some v := (Function.update_of_ne hj _ _).symm.trans hv
    obtain ⟨hfilled, hlid⟩ := hs.boxes j v hv'
    refine ⟨hfilled.frame (fun _ _ h _ _ => h), fun h => ?_⟩
    obtain ⟨hb, hlen, hopened⟩ := hlid h
    refine ⟨hb, hlen, ?_⟩
    by_cases hpat : v.patron = o.patron
    · rw [hpat] at hopened ⊢
      exact (Function.update_self ..).trans ((hx j v hv' h hpat).trans hopened)
    · exact (Function.update_of_ne hpat _ _).trans hopened
  have hbox : (s.withContainer k c).container k = some c := Table.look_put_same ..
  have hfmt : c.braille = decide (o.format = .braille) := hcdef ▸ rfl
  have hpat : c.patron = o.patron := hcdef ▸ rfl
  by_cases hf : o.format = .braille
  · have hscene : (s.withContainer k c).scene =
        (s.scene.setContainers (s.scene.box k c.core)).setOpen o.patron (s.scene.openOf o.patron) :=
      (s.scene_withContainer k c).trans (Scene.setOpen_self _ _).symm
    refine ⟨s.withContainer k c, k, c, ?_, rfl, hbox, ?_, ?_, fun h => ?_⟩
    · simp only [State.newContainer, hf, hkdef, hcdef, decide_true, if_true]
      rfl
    · rw [hscene]
      exact hs.core.recontain hkeeps _ _
    · rw [hscene]
      exact hready _ (fun _ _ _ _ _ => rfl)
    · simp [hfmt, hf] at h
  · have hcart : o.format = .cartridge := by cases h : o.format <;> simp_all
    have hscene : ((s.withContainer k c).onPatron o.patron (fun p => { p with openContainer := some k })).scene =
        (s.scene.setContainers (s.scene.box k c.core)).setOpen o.patron (some k) := by
      rw [State.scene_onPatron, s.scene_withContainer]
      simp only [State.patron, State.withContainer] at hp ⊢
      rw [hp]
      rfl
    refine ⟨(s.withContainer k c).onPatron o.patron (fun p => { p with openContainer := some k }), k, c, ?_, rfl, hbox, ?_, ?_,
      fun _ => ?_⟩
    · simp only [State.newContainer, hf, hkdef, hcdef, decide_false]
      rfl
    · rw [hscene]
      exact hs.core.recontain hkeeps _ _
    · rw [hscene]
      refine hready _ (fun j v hv h hvp => ?_)
      obtain ⟨-, -, hnamed⟩ := (hs.boxes j v hv).2 h
      rw [hvp] at hnamed
      simp [State.scene, hp, hopen hcart] at hnamed
    · rw [hscene, hpat]
      exact Function.update_self ..

/-- R128: placement finds the container for an order. -/
theorem packOrder (hs : s.Sound) (hf : s.FirstLaw) (hbags : s.BagLaw) (ho : s.order n = some o) (hst : o.state = .ready)
    (hbay : o.bay = none) : (s.packOrder n o).state.Sound := by
  obtain ⟨p, hp⟩ : ∃ p, s.patron o.patron = some p := (Table.has_iff ..).1 (hf.order_known ho)
  have hopenOf : s.openContainerOf o.patron = p.openContainer := by simp only [State.openContainerOf, hp]
  unfold State.packOrder
  split
  · next k hfmt hk =>
    obtain ⟨c, hc, hpat, hready⟩ := hs.ready_open hbags hp (hopenOf.symm.trans hk) hfmt
    refine packInto hs.core ho hst hbay hc hready (fun _ => ?_) false
    simp [State.scene, hpat, hp, ← hopenOf, hk]
  · next hother =>
    split
    · exact hs
    · next hroom =>
      have hnone : o.format = .cartridge → p.openContainer = none := by
        intro hfmt
        rw [← hopenOf]
        exact Option.eq_none_iff_forall_ne_some.2 (fun k hk => hother k hfmt hk)
      obtain ⟨t, k, c, hnew, horder, hc, hcore, hready, hopen⟩ := hs.ready_new hbags (Nat.lt_of_not_le hroom) hp hnone
      rw [hnew]
      exact packInto hcore (horder ▸ ho) hst hbay hc hready hopen true

/-- R127: the order a PACK_ITEM finds is READY, its cartridge in no bay. -/
theorem target_ready (hs : s.Sound) (hcarts : s.CartridgeLaw) (hcopies : s.CopyLaw) {item identity copy : Nat}
    (h : (if item = 0 then s.cartridgeTarget identity else s.copyTarget identity copy) = .order n)
    (ho : s.order n = some o) : o.state = .ready ∧ o.bay = none := by
  split at h
  · unfold State.cartridgeTarget at h
    split at h
    · cases h
    · next k hk =>
      split at h
      · next m hst hbound =>
        obtain ⟨rfl, hready⟩ := State.order_of_readyTarget h ho
        obtain ⟨-, -, -, -, hstands⟩ := hcarts
        obtain ⟨-, -, -, hwritten, -⟩ := hstands _ (Table.mem_of_look _ hk)
        obtain ⟨-, m, hm, o', ho', -, hbay, -⟩ := hwritten hst
        simp only [hbound, Binding.boundOrder, Option.mem_def, Option.some.injEq] at hm
        subst hm
        cases ho.symm.trans ho'
        exact ⟨hready, hbay⟩
      · cases h
  · unfold State.copyTarget at h
    split at h
    · next copies hold ht =>
      split at h
      · cases h
      · next m hentry =>
        obtain ⟨rfl, hready⟩ := State.order_of_readyTarget h ho
        have hlt : copy < copyEntries := by
          by_contra hge
          rw [List.getD_eq_default _ _ (by rw [hs.copies_length ht]; omega)] at hentry
          cases hentry
        obtain ⟨-, -, -, hmaps⟩ := hcopies
        obtain ⟨o', ho', -, -, hcopy⟩ := (hmaps _ (Table.mem_of_look _ ht) copy hlt).1 m (by
          simp only [Title.copies, hentry, Copy.order, Option.mem_def])
        cases ho.symm.trans ho'
        obtain ⟨-, -, -, hbay, -⟩ := (hs.core.place m _ (State.scene_order ho)).of_copy hcopy
        exact ⟨hready, hbay⟩
      · cases h
      · cases h
    · cases h

theorem packItem (hs : s.Sound) (hf : s.FirstLaw) (hbags : s.BagLaw) (hcarts : s.CartridgeLaw) (hcopies : s.CopyLaw)
    (item identity copy : Nat) : (Machine.packItem item identity copy s).state.Sound := by
  unfold Machine.packItem
  split
  · exact hs
  · split
    · exact hs
    · next hn =>
      split
      · next ho =>
        obtain ⟨hst, hbay⟩ := hs.target_ready hcarts hcopies hn ho
        exact hs.packOrder hf hbags ho hst hbay
      · exact hs

/-! #### Containers and bags closed and sealed -/

theorem containerClose (hs : s.Sound) (m : Nat) : (Machine.containerClose m s).state.Sound := by
  unfold Machine.containerClose
  split
  · exact hs
  · split
    · exact hs
    · split
      · exact hs
      · exact hs.closeContainer m

theorem containerSealed (hs : s.Sound) (m : Nat) : (Machine.containerSealed m s).state.Sound := by
  unfold Machine.containerSealed
  split
  · exact hs
  · split
    · exact hs
    · split
      · exact hs
      · split
        · next hr => exact hs.bagContainer hr
        · exact hs.waitForBag m

theorem bagClose (hs : s.Sound) (b : Nat) : (Machine.bagClose b s).state.Sound := by
  unfold Machine.bagClose
  split
  · exact hs
  · split
    · exact hs
    · split
      · exact hs
      · exact hs.closeBag b false

end State.Sound

end Sys2Proof.Machine

/-! ### The laws of the scene: bags handed over (8.5) -/

namespace Sys2Proof.Machine

variable {s : State}

namespace Scene

variable {S : Scene} {n l : Nat} {o : OrderCore}

/-- R140: a PACKED order becomes a loan of its cartridge. -/
theorem Core.dispatchCart (hS : S.Core) {c : Nat} (ho : S.order n = some o) (hb : o.bay = none) (hc : o.serial = some c)
    {x : Option Nat} :
    (((S.setOrder n none).setCart c (some ⟨.onLoan, .loan l, x⟩)).setLoan l (some ⟨o.title, .cartridge c⟩)).Core := by
  have hfree : ((S.setOrder n none).setCart c (some ⟨.blank, .unbound, none⟩)).Core :=
    hS.reshelve ho hb hc Keeps.refl settled_none
  obtain ⟨w, hw, hfmt⟩ := hS.catalogued n o ho
  have hf := (hS.place n o ho).format_of_serial hc
  rw [← setCart_setCart (S.setOrder n none) c (some ⟨.blank, .unbound, none⟩)]
  refine hfree.lendCart (fun k hk => ?_) (fun u hu => ?_)
  · cases (Function.update_self ..).symm.trans hk
    exact .inl ⟨.inl rfl, rfl⟩
  · cases hu
    exact .cartridge rfl (Function.update_self ..) hw (hfmt.trans hf)

/-- R140: a PACKED order becomes a loan of its copy. -/
theorem Core.dispatchCopy (hS : S.Core) {i : Nat} {copies : List Copy} {hold : List Nat} (ho : S.order n = some o)
    (hst : o.state = .packed) (hi : o.copy = some i) (ht : S.title o.title = some ⟨.braille, copies, hold⟩) :
    (((S.setOrder n none).setTitle o.title (some ⟨.braille, copies.set i (.onLoan l), hold⟩)).setLoan l
      (some ⟨o.title, .copy i⟩)).Core := by
  obtain ⟨-, -, -, hb, hlt, w, hw, hentry⟩ := (hS.place n o ho).of_copy hi
  cases ht.symm.trans hw
  obtain ⟨hlen, hwaits⟩ := hS.stocked _ _ ht
  have hlen : copies.length = copyEntries := hlen rfl
  have hstill : ∀ m ∈ hold, ∃ u, (S.setOrder n none).order m = some u ∧ u.state = .waitingCopy ∧ u.title = o.title := by
    intro m hm
    obtain ⟨u, hu, hwait, htitle⟩ := hwaits m hm
    have hmn : m ≠ n := by
      rintro rfl
      cases ho.symm.trans hu
      cases hst.symm.trans hwait
    exact ⟨u, (Function.update_of_ne hmn _ _).trans hu, hwait, htitle⟩
  have hfree : ((S.setOrder n none).setTitle o.title (some ⟨.braille, copies.set i .onShelf, hold⟩)).Core := by
    refine hS.recopy ht (fun u hu => ?_) (.set _ hlen (fun m hm => ?_) (fun m hm => nomatch hentry.symm.trans hm)
      (fun m hm => .inr hm) hstill) settled_none
    · cases ho.symm.trans hu
      exact ⟨hb, by simp [hst], fun h => nomatch hst.symm.trans h⟩
    · cases hentry.symm.trans hm
      rfl
  have hset : (copies.set i .onShelf).getD i .absent = .onShelf := getD_set (hlen ▸ hlt) _
  have hlent : ((((S.setOrder n none).setTitle o.title (some ⟨.braille, copies.set i .onShelf, hold⟩)).setTitle o.title
      (some ⟨.braille, (copies.set i .onShelf).set i (.onLoan l), hold⟩)).setLoan l (some ⟨o.title, .copy i⟩)).Core := by
    refine hfree.lendCopy (Function.update_self ..) (.set _ (by simpa using hlen) (fun m hm => nomatch hset.symm.trans hm)
      (fun m hm => nomatch hset.symm.trans hm) (fun m hm => .inr hm) hstill) (fun u hu => ?_)
    cases hu
    exact .copy rfl hlt (Function.update_self ..) rfl (getD_set (by simpa using hlen ▸ hlt) _)
  rwa [setTitle_setTitle, List.set_set] at hlent

/-- R141: containers that no order is in leave the table. -/
theorem Core.uncontain (hS : S.Core) {g : Nat → Option ContainerCore}
    (hg : ∀ n o m v, S.order n = some o → o.container = some m → S.container m = some v → g m = some v) :
    (S.setContainers g).Core where
  bays := hS.bays
  nodup := hS.nodup
  queue := hS.queue
  place n o h := (hS.place n o h).frame id (fun v hv hn => ⟨v, hv, hn⟩) (fun v i hv hn => ⟨v, hv, hn⟩)
    (fun _ _ _ _ _ => rfl) (fun _ _ _ _ => rfl)
  boxed n o h := by
    refine ⟨(hS.boxed n o h).1, fun hp => ?_⟩
    obtain ⟨m, v, hm, hv, hn⟩ := (hS.boxed n o h).2 hp
    exact ⟨m, v, hm, hg n o m v h hm hv, hn⟩
  catalogued := hS.catalogued
  berth b hb := (hS.berth b hb).frame (fun _ _ _ _ _ => rfl) (fun _ _ h _ => h)
  stocked := hS.stocked
  lent l v h := (hS.lent l v h).frame (fun _ _ _ => rfl) (fun w hw => ⟨w, hw, rfl, fun _ h => h⟩)

end Scene

/-! #### The scene once an order has become a loan -/

theorem State.scene_lend (s : State) (n : Nat) (o : Order) : (s.lend n o).scene = (s.scene.setOrder n none).setLoan
    (assignNumber maxNumber s.loans.loans s.loans.counter) (some ⟨o.title, o.item⟩) := by
  simp only [State.scene, Scene.setOrder, Scene.setLoan]
  congr 1
  · funext m
    simp only [State.order, State.lend, State.dropOrder, Table.look_drop, Function.update_apply]
    split <;> rfl
  · funext m
    simp only [State.loan, State.lend, Table.look_put, Function.update_apply]
    split <;> rfl

theorem State.order_dispatchOrder (s : State) (n m : Nat) :
    (s.dispatchOrder n).order m = if m = n then none else s.order m := by
  have hdrop : (s.dropOrder n).order m = if m = n then none else s.order m := Table.look_drop ..
  unfold State.dispatchOrder
  split
  · next h =>
    split
    · next hmn => rw [hmn, h]
    · rfl
  · rw [← hdrop]
    dsimp only
    split <;> rfl

theorem State.packing_dispatchOrder (s : State) (n : Nat) : (s.dispatchOrder n).packing = s.packing := by
  unfold State.dispatchOrder
  split
  · rfl
  · dsimp only
    split <;> rfl

theorem State.patrons_dispatchOrder (s : State) (n : Nat) : (s.dispatchOrder n).patrons = s.patrons := by
  unfold State.dispatchOrder
  split
  · rfl
  · dsimp only
    split <;> rfl

/-- R140: a PACKED order becomes a loan. -/
theorem State.core_dispatchOrder (hcore : s.scene.Core) {n : Nat} {o : Order} (ho : s.order n = some o)
    (hst : o.state = .packed) : (s.dispatchOrder n).scene.Core := by
  have ho' := State.scene_order ho
  have hplace := hcore.place n _ ho'
  cases hf : o.format with
  | cartridge =>
    obtain ⟨c, hser, hbay⟩ := hplace.cart_of_packed hst hf
    obtain ⟨_, -, hcart⟩ := hcore.shelved ho' hbay hser
    obtain ⟨k, hk, -⟩ := State.cart_of_scene hcart
    have hitem : o.item = .cartridge c := by simp only [Order.item, hf, show o.serial = some c from hser]; rfl
    have hscene : (s.dispatchOrder n).scene = ((s.scene.setOrder n none).setCart c (some ⟨.onLoan,
        .loan (assignNumber maxNumber s.loans.loans s.loans.counter), k.bay⟩)).setLoan
        (assignNumber maxNumber s.loans.loans s.loans.counter) (some ⟨o.title, .cartridge c⟩) := by
      have hd : s.dispatchOrder n = (s.lend n o).onCart c (fun c =>
          { c with state := .onLoan, bound := .loan (assignNumber maxNumber s.loans.loans s.loans.counter) }) := by
        simp only [State.dispatchOrder, ho, hitem]
        rfl
      rw [hd, State.scene_onCart, s.scene_lend, hitem, show (s.lend n o).cart c = some k from hk]
      rfl
    rw [hscene]
    exact hcore.dispatchCart ho' hbay hser
  | braille =>
    obtain ⟨i, hi⟩ := hplace.copy_of_packed hst hf
    obtain ⟨copies, hold, ht⟩ := State.braille_of_core hcore ho hf
    have hitem : o.item = .copy i := by simp only [Order.item, hf, show o.copy = some i from hi]; rfl
    have hscene : (s.dispatchOrder n).scene = ((s.scene.setOrder n none).setTitle o.title (some ⟨.braille,
        copies.set i (.onLoan (assignNumber maxNumber s.loans.loans s.loans.counter)), hold⟩)).setLoan
        (assignNumber maxNumber s.loans.loans s.loans.counter) (some ⟨o.title, .copy i⟩) := by
      have hd : s.dispatchOrder n = (s.lend n o).onTitle o.title (fun t =>
          t.setCopy i (.onLoan (assignNumber maxNumber s.loans.loans s.loans.counter))) := by
        simp only [State.dispatchOrder, ho, hitem]
        rfl
      rw [hd, State.scene_onTitle, s.scene_lend, hitem, show (s.lend n o).title o.title = some (.braille copies hold) from ht]
      rfl
    rw [hscene]
    exact hcore.dispatchCopy ho' hst hi (State.scene_title ht)

/-- The laws of the scene while the orders of some containers are handed over. -/
structure State.Handing (s : State) (gone items : List Nat) : Prop where
  core : s.scene.Core
  first : s.FirstLaw
  kept : ∀ k v, s.scene.container k = some v → k ∉ gone → s.scene.Filled k v ∧ s.scene.Lid k v
  inside : ∀ n ∈ items, ∀ o, s.order n = some o → o.state = .packed ∧ ∃ k ∈ gone, o.container = some k

theorem State.Handing.dispatchOrder {gone items : List Nat} (h : s.Handing gone items) {n : Nat} (hn : n ∈ items) :
    (s.dispatchOrder n).Handing gone items := by
  cases ho : s.order n with
  | none => rwa [s.dispatchOrder_of_none ho]
  | some o =>
    have ho' := State.scene_order ho
    obtain ⟨hst, k, hk, hin⟩ := h.inside n hn o ho
    refine ⟨State.core_dispatchOrder h.core ho hst, firstLaw_shapeLaw.dispatchOrder h.first n, fun j v hv hj => ?_, fun m hm u hu => ?_⟩
    · have hv' : s.scene.container j = some v := by
        rw [← hv]
        simp only [State.scene, State.container, s.packing_dispatchOrder]
      obtain ⟨hfilled, hlid⟩ := h.kept j v hv' hj
      refine ⟨hfilled.frame (fun m u hu hp hm => ?_), ?_⟩
      · have hmn : m ≠ n := by
          rintro rfl
          cases ho'.symm.trans hu
          cases hin.symm.trans hm
          exact hj hk
        simp only [State.scene, s.order_dispatchOrder, if_neg hmn]
        exact hu
      · have hopen : (s.dispatchOrder n).scene.openOf = s.scene.openOf := by
          simp only [State.scene, State.patron, s.patrons_dispatchOrder]
        rwa [Scene.Lid, hopen]
    · rw [s.order_dispatchOrder] at hu
      split at hu
      · cases hu
      · exact h.inside m hm u hu

theorem State.Handing.dispatchAll {gone items : List Nat} (l : List Nat) {s : State} (h : s.Handing gone items)
    (hl : ∀ n ∈ l, n ∈ items) : (l.foldl State.dispatchOrder s).Handing gone items ∧
      (∀ m, (l.foldl State.dispatchOrder s).order m = if m ∈ l then none else s.order m) ∧
      (l.foldl State.dispatchOrder s).packing = s.packing := by
  induction l generalizing s with
  | nil => exact ⟨h, fun m => by simp, rfl⟩
  | cons n rest ih =>
    obtain ⟨hrest, horder, hpacking⟩ := ih (h.dispatchOrder (hl n (List.mem_cons_self ..)))
      (fun m hm => hl m (List.mem_cons_of_mem _ hm))
    refine ⟨hrest, fun m => ?_, hpacking.trans (s.packing_dispatchOrder n)⟩
    rw [List.foldl_cons, horder m, s.order_dispatchOrder]
    by_cases hmn : m = n <;> simp [hmn]

/-- R141. -/
theorem State.scene_removeBag (s : State) (bag : Nat) (gone : List Nat) : (s.removeBag bag gone).scene =
    s.scene.setContainers (fun k => if k ∈ gone then none else s.scene.container k) := by
  have hlook : ∀ (l : List Nat) (t : Table Container) (m : Nat),
      (l.foldl (fun t n => t.drop n) t).look m = if m ∈ l then none else t.look m := by
    intro l
    induction l with
    | nil => simp
    | cons n rest ih =>
      intro t m
      rw [List.foldl_cons, ih, Table.look_drop]
      by_cases hmn : m = n <;> simp [hmn]
  simp only [State.scene, Scene.setContainers]
  congr 1
  funext k
  simp only [State.container, State.removeBag, hlook]
  split <;> rfl

namespace State.Sound

/-- R140, R141. -/
theorem handed (hs : s.Sound) (hf : s.FirstLaw) (bag : Nat) (gone : List Nat) :
    (((gone.map s.itemsOf).flatten.foldl State.dispatchOrder s).removeBag bag gone).Sound := by
  have hitems : ∀ k c n, s.container k = some c → k ∈ gone → n ∈ c.items → n ∈ (gone.map s.itemsOf).flatten := by
    intro k c n hc hk hn
    refine List.mem_flatten.2 ⟨s.itemsOf k, List.mem_map_of_mem hk, ?_⟩
    simpa only [State.itemsOf, hc] using hn
  have hbegin : s.Handing gone (gone.map s.itemsOf).flatten := by
    refine ⟨hs.core, hf, fun k v hv _ => hs.boxes k v hv, fun n hn o ho => ?_⟩
    obtain ⟨l, hl, hnl⟩ := List.mem_flatten.1 hn
    obtain ⟨k, hk, rfl⟩ := List.mem_map.1 hl
    unfold State.itemsOf at hnl
    split at hnl
    · next c hc =>
      obtain ⟨⟨-, -, -, -, hfilled⟩, -⟩ := hs.boxes k c.core (by simp [State.scene, hc])
      obtain ⟨o', ho', hst, hin, -⟩ := hfilled n hnl
      cases (State.scene_order ho).symm.trans ho'
      exact ⟨hst, k, hk, hin⟩
    · cases hnl
  obtain ⟨hdone, horder, hpacking⟩ := hbegin.dispatchAll _ (fun _ h => h)
  obtain ⟨t, ht⟩ : ∃ t, t = (gone.map s.itemsOf).flatten.foldl State.dispatchOrder s := ⟨_, rfl⟩
  rw [← ht] at hdone horder hpacking ⊢
  have hleft : ∀ n o k, t.scene.order n = some o → o.container = some k → k ∉ gone := by
    intro n o k ho hin hk
    obtain ⟨o, hord, rfl⟩ := State.order_of_scene ho
    rw [horder n] at hord
    split at hord
    · cases hord
    · next hnot =>
      obtain ⟨hunpacked, hpacked⟩ := hs.core.boxed n _ (State.scene_order hord)
      obtain ⟨m, v, hm, hv, hn⟩ := hpacked (by_contra fun h => nomatch (hunpacked h).symm.trans hin)
      cases hm.symm.trans hin
      obtain ⟨c, hc, rfl⟩ := Option.map_eq_some_iff.1 hv
      exact hnot (hitems k c n hc hk hn)
  constructor
  · rw [State.scene_removeBag]
    refine hdone.core.uncontain (fun n o k v ho hk hv => ?_)
    simp only [if_neg (hleft n o k ho hk), hv]
  · rw [State.scene_removeBag]
    intro k v hv
    by_cases hk : k ∈ gone
    · simp [Scene.setContainers, hk] at hv
    · obtain ⟨hfilled, hlid⟩ := hdone.kept k v (by simpa [Scene.setContainers, hk] using hv) hk
      exact ⟨hfilled.frame (fun _ _ h _ _ => h), hlid⟩

theorem bagHanded (hs : s.Sound) (hf : s.FirstLaw) (bag : Nat) : (Machine.bagHanded bag s).state.Sound := by
  unfold Machine.bagHanded
  split
  · exact hs
  · split
    · exact hs
    · split
      · exact hs
      · exact ((hs.handed hf bag _).of_scene (State.scene_raise ..)).drain

end State.Sound

end Sys2Proof.Machine

/-! ### The laws of the scene: returns, titles and cartridges -/

namespace Sys2Proof.Machine

variable {s : State}

/-! #### Returns (R153 to R156) -/

theorem State.scene_closeLoan (s : State) (n : Nat) (l : Loan) : (s.closeLoan n l).scene = s.scene.setLoan n none := by
  simp only [State.scene, Scene.setLoan]
  congr 1
  · funext m
    simp only [State.loan, State.closeLoan, Table.look_drop, Function.update_apply]
    split <;> rfl
  · funext m
    simp only [State.patron, State.closeLoan, Table.look_alter]
    split
    · next h =>
      subst h
      cases s.patrons.look l.patron <;> simp [Patron.returned_openContainer]
    · rfl

theorem withdrawCopies_length (copies : List Copy) (k : Nat) : (withdrawCopies copies k).length = copies.length := by
  induction copies with
  | nil => rfl
  | cons c rest ih =>
    simp only [withdrawCopies]
    split <;> simp [ih]

/-- R36: only entries ON_SHELF change. -/
theorem withdrawCopies_getD (copies : List Copy) (k i : Nat) (h : copies.getD i .absent ≠ .onShelf) :
    (withdrawCopies copies k).getD i .absent = copies.getD i .absent := by
  induction copies generalizing i with
  | nil => rfl
  | cons c rest ih =>
    simp only [withdrawCopies]
    cases i with
    | zero =>
      rw [List.getD_cons_zero] at h
      simp [h]
    | succ j =>
      rw [List.getD_cons_succ] at h
      split <;> simpa only [List.getD_cons_succ] using ih j h

theorem State.scene_stripDeferred (s : State) (title n : Nat) : (State.stripDeferred title s n).scene = s.scene := by
  have hstrip : (s.onPatron n (fun p => { p with deferred := p.deferred.filter (· != title) })).scene = s.scene :=
    s.scene_onPatron_of n (fun _ => rfl)
  simp only [State.stripDeferred]
  split
  · exact (State.scene_raise ..).trans hstrip
  · exact hstrip

namespace State.Sound

open Scene

variable {n : Nat} {l : Loan}

/-- R153, R154, R155: a loan closes, and its item is sent on. -/
theorem returned (hs : s.Sound) (hl : s.loan n = some l) (condition : Nat) :
    ((s.closeLoan n l).sendOn l condition).Sound := by
  have hlent := hs.core.lent n l.core (by simp [State.scene, hl])
  have hclosed := s.scene_closeLoan n l
  unfold State.sendOn
  split
  · next c hitem =>
    obtain ⟨x, hcart⟩ : ∃ x, s.scene.cart c = some ⟨.onLoan, .loan n, x⟩ := by
      cases hlent with
      | cartridge h1 h2 => cases h1.symm.trans hitem; exact ⟨_, h2⟩
      | copy h1 => cases h1.symm.trans hitem
    have hloaned : ∀ k, s.scene.cart c = some k → (k.state.spare ∧ k.bay = none) ∨ (k.state = .onLoan ∧ k.bound = .loan n) := by
      intro k hk
      cases hcart.symm.trans hk
      exact .inr ⟨rfl, rfl⟩
    split
    · exact hs.lendCart hloaned (by rw [State.scene_joinBacklog, State.scene_onCart, hclosed]; rfl) (fun u (hu : none = some u) => nomatch hu)
    · exact hs.lendCart hloaned (by rw [State.scene_retire, hclosed]; rfl) (fun u (hu : none = some u) => nomatch hu)
  · next i hitem =>
    obtain ⟨hi, v, hv, hf, hentry⟩ : i < copyEntries ∧ ∃ v, s.scene.title l.title = some v ∧ v.format = .braille ∧
        v.copies.getD i .absent = .onLoan n := by
      cases hlent with
      | cartridge h1 => cases h1.symm.trans hitem
      | copy h1 h2 h3 h4 h5 => cases h1.symm.trans hitem; exact ⟨h2, _, h3, h4, h5⟩
    obtain ⟨u, ht, rfl⟩ := State.title_of_scene hv
    cases u with
    | cartridge _ _ => cases hf
    | braille copies hold =>
      have hentry : copies.getD i .absent = .onLoan n := hentry
      have hset : ∀ x, ((s.closeLoan n l).onTitle l.title (fun t => t.setCopy i x)).Sound := by
        intro x
        have hscene : ((s.closeLoan n l).onTitle l.title (fun t => t.setCopy i x)).scene =
            (s.scene.setTitle l.title (some ⟨.braille, copies.set i x, hold⟩)).setLoan n none := by
          rw [State.scene_onTitle, hclosed, show (s.closeLoan n l).title l.title = some (.braille copies hold) from ht]
          rfl
        refine hs.lendCopy ht hscene (.set _ (hs.copies_length ht) (fun m hm => nomatch hentry.symm.trans hm)
          (fun m hm => ?_) (fun m hm => .inr hm) (hs.hold_waits ht)) (fun u (hu : none = some u) => nomatch hu)
        cases hentry.symm.trans hm
        rfl
      split
      · exact (hset _).shelve hi
      · exact hset _

theorem returnItem (hs : s.Sound) (hf : s.FirstLaw) (item identity copy condition : Nat) :
    (Machine.returnItem item identity copy condition s).state.Sound := by
  simp only [Machine.returnItem]
  split
  · exact hs
  split
  · exact hs
  split
  · next n l hcase =>
    have hl := s.loan_of_classify hcase
    have hfirst : ((s.closeLoan n l).sendOn l condition).FirstLaw :=
      firstLaw_shapeLaw.congr (State.shape_sendOn _ _ _) (firstLaw_shapeLaw.loanClosed hf hl)
    exact ((hs.returned hl condition).releasePass hfirst l.patron).settle _
  · exact hs.of_scene (State.scene_laneError ..)

/-! #### The catalogue (2.6) -/

theorem titleLoad (hs : s.Sound) (title f size sel copies : Nat) : (Machine.titleLoad title f size sel copies s).state.Sound := by
  have hput : ∀ t : Title, s.titles.has title = false → (t.format = .braille → t.copies.length = copyEntries) → t.hold = [] →
      ({ s with titles := s.titles.put title t } : State).Sound := by
    intro t hnew hlen hhold
    have hfree : s.titles.look title = none := (Table.has_false_iff _ title).1 hnew
    have hnone : s.scene.title title = none := by simp [State.scene, State.title, hfree]
    have hscene : ({ s with titles := s.titles.put title t } : State).scene = s.scene.setTitle title (some t.core) := by
      simp only [State.scene, Scene.setTitle]
      congr 1
      funext m
      simp only [State.title, Table.look_put, Function.update_apply]
      split <;> rfl
    refine hs.restock hscene (fun w hw => nomatch hnone.symm.trans hw) (fun _ => ⟨hlen, fun m hm => ?_⟩)
    simp [Title.core, hhold] at hm
  simp only [Machine.titleLoad]
  split
  · exact hs
  split
  · exact hs
  next hnew =>
  split
  · exact hs
  split
  · exact hput _ (by simpa using hnew) nofun rfl
  · refine hput _ (by simpa using hnew) (fun _ => ?_) rfl
    simp [Title.copies, freshCopies]

/-- R36: copies withdrawn from the shelf. -/
theorem withdrawn (hs : s.Sound) {title : Nat} {copies : List Copy} {hold : List Nat}
    (ht : s.title title = some (.braille copies hold)) (k : Nat) : (s.onTitle title (fun t => match t with
      | .braille _ hold => .braille (withdrawCopies copies k) hold
      | t => t)).Sound := by
  have hscene : (s.onTitle title (fun t => match t with
      | .braille _ hold => .braille (withdrawCopies copies k) hold
      | t => t)).scene = s.scene.setTitle title (some ⟨.braille, withdrawCopies copies k, hold⟩) := by
    rw [State.scene_onTitle, ht]
    rfl
  refine hs.restock hscene (fun w hw => ?_) (fun hnone => nomatch (State.scene_title ht).symm.trans hnone)
  cases (State.scene_title ht).symm.trans hw
  refine ⟨rfl, fun m hm => .inr hm, fun i m hi => .inr ?_, fun i m hi => .inr ?_, fun _ => ?_, hs.hold_waits ht⟩
  · have hi : copies.getD i .absent = .allocated m := hi
    exact (withdrawCopies_getD copies k i (by rw [hi]; nofun)).trans hi
  · have hi : copies.getD i .absent = .onLoan m := hi
    exact (withdrawCopies_getD copies k i (by rw [hi]; nofun)).trans hi
  · simp [withdrawCopies_length, hs.copies_length ht]

theorem titleSet (hs : s.Sound) (title size sel copies : Nat) : (Machine.titleSet title size sel copies s).state.Sound := by
  simp only [Machine.titleSet]
  split
  · exact hs
  split
  · exact hs
  · next stored oldSel ht =>
    unfold setCartridgeTitle
    split
    · exact hs
    · split
      · exact hs
      · refine hs.of_scene ?_
        rw [answer_state, State.scene_onTitle, ht]
        exact (congrArg (s.scene.setTitle title) (State.scene_title ht).symm).trans (Scene.setTitle_self ..)
  · next map hold ht =>
    simp only [setBrailleTitle]
    split
    · split
      · exact hs
      · exact hs.withdrawn ht _
    · exact (hs.bringCopies (List.range copyEntries) (fun i hi => List.mem_range.1 hi)).settle _

theorem titleDrop (hs : s.Sound) (title : Nat) : (Machine.titleDrop title s).state.Sound := by
  simp only [Machine.titleDrop]
  split
  · exact hs
  split
  · exact hs
  split
  · exact hs
  · next huse =>
    simp only [State.titleInUse, Bool.or_eq_true, not_or, Bool.not_eq_true, List.any_eq_false, decide_eq_true_eq] at huse
    obtain ⟨⟨horders, hloans⟩, -⟩ := huse
    have hscene : ({ s with titles := s.titles.drop title } : State).scene = s.scene.setTitle title none := by
      simp only [State.scene, Scene.setTitle]
      congr 1
      funext m
      simp only [State.title, Table.look_drop, Function.update_apply]
      split <;> rfl
    have hdrop : ({ s with titles := s.titles.drop title } : State).Sound := by
      constructor
      · rw [hscene]
        refine hs.core.dropTitle (fun n v hv => ?_) (fun l v hv => ?_)
        · obtain ⟨o, ho, rfl⟩ := State.order_of_scene hv
          exact horders (n, o) (Table.mem_of_look _ ho)
        · obtain ⟨u, hu, rfl⟩ := Option.map_eq_some_iff.1 hv
          exact hloans (l, u) (Table.mem_of_look _ hu)
      · rw [hscene]
        exact hs.boxes.frame (fun _ _ h _ => h) rfl rfl
    exact foldl (fun s n h => h.of_scene (State.scene_stripDeferred s title n)) _ hdrop

/-! #### The cartridges (3.5) -/

theorem cartridgeAdd (hs : s.Sound) (c : Nat) : (Machine.cartridgeAdd c s).state.Sound := by
  simp only [Machine.cartridgeAdd]
  split
  · exact hs
  split
  · exact hs
  next hnew =>
  split
  · exact hs
  · have hfree : s.carts.table.look c = none := (Table.has_false_iff _ c).1 (by simpa using hnew)
    have hnone : s.scene.cart c = none := by simp [State.scene, State.cart, hfree]
    have hscene : ({ s with carts := { s.carts with table := s.carts.table.put c .created } } : State).scene =
        s.scene.setCart c (some Cartridge.created.core) := by
      simp only [State.scene, Scene.setCart]
      congr 1
      funext m
      simp only [State.cart, Table.look_put, Function.update_apply]
      split <;> rfl
    exact hs.recart (fun k hk => nomatch hnone.symm.trans hk) ((State.scene_joinPool ..).trans hscene)

theorem cartridgeDrop (hs : s.Sound) (c : Nat) : (Machine.cartridgeDrop c s).state.Sound := by
  simp only [Machine.cartridgeDrop]
  split
  · exact hs
  split
  · exact hs
  next k hk =>
  split
  · exact hs
  · next hdrop =>
    have hfit : (k.state = .retired ∨ k.state = .blank) ∧ k.bay = none := by
      simp only [State.droppable, Bool.not_eq_false, Bool.or_eq_true, Bool.and_eq_true, decide_eq_true_eq,
        Option.isNone_iff_eq_none] at hdrop
      rcases hdrop with ⟨hst, hbay⟩ | ⟨⟨hst, hbay⟩, -⟩
      · exact ⟨.inl hst, hbay⟩
      · exact ⟨.inr hst, hbay⟩
    have hscene : ({ s with carts := { s.carts with table := s.carts.table.drop c, pool := s.carts.pool.filter (· != c) } } :
        State).scene = s.scene.setCart c none := by
      simp only [State.scene, Scene.setCart]
      congr 1
      funext m
      simp only [State.cart, Table.look_drop, Function.update_apply]
      split <;> rfl
    refine hs.recart (fun v hv => ?_) hscene
    cases (State.scene_cart hk).symm.trans hv
    exact ⟨hfit.1.elim (fun h => .inr (.inr h)) .inl, hfit.2⟩

end State.Sound

end Sys2Proof.Machine

/-! ### The laws of the scene: every command -/

namespace Sys2Proof.Machine

variable {s : State}

/-! #### The requests that leave the scene -/

@[simp] theorem patronQuery_state (n : Nat) : (patronQuery n s).state = s := by
  unfold patronQuery
  (repeat' split) <;> rfl

@[simp] theorem orderQuery_state (f n p t : Nat) : (orderQuery f n p t s).state = s := by
  simp only [orderQuery]
  (repeat' split) <;> rfl

@[simp] theorem loanQuery_state (f n p t : Nat) : (loanQuery f n p t s).state = s := by
  simp only [loanQuery]
  (repeat' split) <;> rfl

@[simp] theorem titleQuery_state (n c : Nat) : (titleQuery n c s).state = s := by
  unfold titleQuery
  (repeat' split) <;> rfl

@[simp] theorem cartridgeQuery_state (n : Nat) : (cartridgeQuery n s).state = s := by
  unfold cartridgeQuery
  (repeat' split) <;> rfl

@[simp] theorem bayQuery_state (n : Nat) : (bayQuery n s).state = s := by
  unfold bayQuery
  split <;> rfl

@[simp] theorem projectionQuery_state (n : Nat) : (projectionQuery n s).state = s := by
  unfold projectionQuery
  (repeat' split) <;> rfl

@[simp] theorem containerQuery_state (n : Nat) : (containerQuery n s).state = s := by
  unfold containerQuery
  (repeat' split) <;> rfl

@[simp] theorem bagQuery_state (n : Nat) : (bagQuery n s).state = s := by
  unfold bagQuery
  (repeat' split) <;> rfl

@[simp] theorem scene_laneMask (a b c : Nat) : (laneMask a b c s).state.scene = s.scene := by
  unfold laneMask
  split <;> rfl

@[simp] theorem scene_fetchNotices (p : Port) (n : Nat) : (fetchNotices p n s).state.scene = s.scene := by
  unfold fetchNotices
  split <;> rfl

@[simp] theorem scene_noticeMask (p : Port) (m n : Nat) : (noticeMask p m n s).state.scene = s.scene := by
  unfold noticeMask
  split <;> rfl

@[simp] theorem scene_placeResponse (p : Port) : (placeResponse p s).scene = s.scene := by
  unfold placeResponse
  split <;> rfl

@[simp] theorem State.scene_idleStep : s.idleStep.scene = s.scene := by
  unfold State.idleStep
  (repeat' split) <;> rfl

/-! #### The day clock, the mail settings and the rounds -/

namespace State.Sound

theorem rackStart (hs : s.Sound) : (Machine.rackStart s).state.Sound := by
  simp only [Machine.rackStart]
  split
  · exact hs
  · exact settle (hs.of_scene (by rw [State.scene_recomputeWriting, State.scene_onRack])) _

theorem rackStop (hs : s.Sound) : (Machine.rackStop s).state.Sound := by
  simp only [Machine.rackStop]
  split
  · exact hs
  · exact settle (hs.of_scene (State.scene_stopRack s)) _

theorem rackSet (hs : s.Sound) (a b c d e : Nat) : (Machine.rackSet a b c d e s).state.Sound := by
  unfold Machine.rackSet
  split
  · exact hs
  split
  · exact hs
  · exact hs.of_scene (State.scene_onRack ..)

theorem sliceNext (hs : s.Sound) : (Machine.sliceNext s).state.Sound := by
  unfold Machine.sliceNext
  split
  · exact hs
  · exact settle (hs.of_scene (State.scene_nextSlice s)) _

theorem sliceDone (hs : s.Sound) (hjobs : s.JobLaw) (even odd : Nat) : (Machine.sliceDone even odd s).state.Sound := by
  unfold Machine.sliceDone
  split
  · exact hs
  next sl hsl =>
  split
  · exact hs.expireSlot
  split
  · exact hs
  · exact (hs.takeReport hjobs hsl even odd).settle _

theorem clockSet (hs : s.Sound) (day second : Nat) : (Machine.clockSet day second s).state.Sound := by
  unfold Machine.clockSet
  split
  · exact hs
  · have hset : ({ s with clock := { s.clock with day := day, second := second } } : State).enterMailDay.Sound :=
      enterMailDay (hs.of_scene rfl)
    refine settle (of_scene ?_ (State.scene_dayRecompute ..)) _
    split
    · exact hset.of_scene ((State.scene_clearLaneCounts _).trans (State.scene_sweep _))
    · exact hset

theorem mailSet (hs : s.Sound) (c m i a : Nat) : (Machine.mailSet c m i a s).state.Sound := by
  have hset : ∀ c m i a, (s.setMail c m i a).Sound := by
    intro c m i a
    have hstored : (s.storeMail c m i a).enterMailDay.Sound := enterMailDay (hs.of_scene rfl)
    exact foldl (fun s n h => h.idleExpire n) _ (settle (hstored.of_scene (State.scene_dayRecompute ..)) _)
  exact hset ..

theorem slotExpiry (hs : s.Sound) : s.slotExpiry.Sound := by
  unfold State.slotExpiry
  split
  · exact hs
  · exact expireSlot (hs.of_scene rfl)

theorem idleReached (hs : s.Sound) (n : Nat) : (s.idleReached n).Sound := by
  unfold State.idleReached
  split
  · exact hs
  · split
    · exact hs.idleExpire n
    · exact hs

/-- R179: with every table empty and every bay EMPTY. -/
theorem reset (l : List Instr) : ({ State.reset with pending := l, resetHeld := true } : State).Sound := by
  have hbay : ∀ b, ({ State.reset with pending := l, resetHeld := true } : State).scene.bay b = ⟨.empty, none, none⟩ := by
    intro b
    have hvacant : State.reset.bay b = Bay.vacant :=
      (List.getD_eq_getElem?_getD ..).trans (List.getElem?_getD_replicate_default_eq _ 32 b)
    exact congrArg Bay.core hvacant
  refine ⟨⟨rfl, List.nodup_nil, nofun, nofun, nofun, nofun, fun b _ => ?_, nofun, nofun⟩, nofun⟩
  rw [hbay b]
  exact .bare (.inl rfl)

end State.Sound

/-! #### Every command -/

/-- The laws that the laws of the scene are kept by. -/
structure State.Ordered (s : State) : Prop where
  sound : s.Sound
  first : s.FirstLaw
  bags : s.BagLaw
  carts : s.CartridgeLaw
  copies : s.CopyLaw
  jobs : s.JobLaw

namespace State.Ordered

theorem onUnit (hs : s.Ordered) (p : Port) (f : PortUnit → PortUnit) : (s.onUnit p f).Ordered :=
  ⟨hs.sound.of_scene rfl, hs.first, hs.bags, hs.carts, hs.copies, hs.jobs⟩

theorem takeRequest (hs : s.Ordered) {act : State → Result} (hact : ∀ s : State, s.Ordered → (act s).state.Sound)
    (code : Nat) (own : Option Code) (h : Header) : (takeRequest code own h act s).Sound := by
  have hc : (s.clocked h).Ordered := hs.onUnit _ _
  simp only [Machine.takeRequest]
  split
  · exact hc.sound
  split
  · exact hc.sound.of_scene (State.scene_onUnit ..)
  split
  · exact hc.sound.of_scene (State.scene_onUnit ..)
  · exact (hact _ hc).of_scene (State.scene_onUnit ..)

theorem request (hs : s.Ordered) {act : State → Result} (hact : ∀ s : State, s.Ordered → (act s).state.Sound) (k : Kind)
    (h : Header) : (request k h act s).Sound :=
  hs.takeRequest hact _ _ _

/-- A request that leaves the scene. -/
theorem quiet (hs : s.Ordered) {act : State → Result} (hact : ∀ s, (act s).state.scene = s.scene) (k : Kind) (h : Header) :
    (Machine.request k h act s).Sound :=
  hs.request (fun s hs => hs.sound.of_scene (hact s)) k h

/-- Every command keeps the laws of the scene. -/
theorem exec (hs : s.Ordered) {c : Instr} {t : State} (ht : exec c s = .next t) : t.Sound := by
  cases c with
  | patronOpen h _ _ _ _ => cases ht; exact hs.request (fun s hs => hs.sound.patronOpen _ _ _ _) _ h
  | patronSet h _ _ _ _ _ => cases ht; exact hs.request (fun s hs => hs.sound.patronSet hs.first _ _ _ _ _) _ h
  | patronClose h _ => cases ht; exact hs.request (fun s hs => hs.sound.patronClose hs.first _) _ h
  | orderPlace h _ _ _ => cases ht; exact hs.request (fun s hs => hs.sound.orderPlace hs.first _ _ _) _ h
  | orderCancel h _ => cases ht; exact hs.request (fun s hs => hs.sound.orderCancel hs.first _) _ h
  | orderRetry h _ => cases ht; exact hs.request (fun s hs => hs.sound.orderRetry _) _ h
  | titleLoad h _ _ _ _ _ => cases ht; exact hs.request (fun s hs => hs.sound.titleLoad _ _ _ _ _) _ h
  | titleSet h _ _ _ _ => cases ht; exact hs.request (fun s hs => hs.sound.titleSet _ _ _ _) _ h
  | titleDrop h _ => cases ht; exact hs.request (fun s hs => hs.sound.titleDrop _) _ h
  | cartridgeAdd h _ => cases ht; exact hs.request (fun s hs => hs.sound.cartridgeAdd _) _ h
  | cartridgeDrop h _ => cases ht; exact hs.request (fun s hs => hs.sound.cartridgeDrop _) _ h
  | clockSet h _ _ => cases ht; exact hs.request (fun s hs => hs.sound.clockSet _ _) _ h
  | mailSet h _ _ _ _ => cases ht; exact hs.request (fun s hs => hs.sound.mailSet _ _ _ _) _ h
  | packItem h _ _ _ =>
    cases ht
    exact hs.request (fun s hs => hs.sound.packItem hs.first hs.bags hs.carts hs.copies _ _ _) _ h
  | containerClose h _ => cases ht; exact hs.request (fun s hs => hs.sound.containerClose _) _ h
  | containerSealed h _ => cases ht; exact hs.request (fun s hs => hs.sound.containerSealed _) _ h
  | bagClose h _ => cases ht; exact hs.request (fun s hs => hs.sound.bagClose _) _ h
  | bagHanded h _ => cases ht; exact hs.request (fun s hs => hs.sound.bagHanded hs.first _) _ h
  | returnItem h _ _ _ _ => cases ht; exact hs.request (fun s hs => hs.sound.returnItem hs.first _ _ _ _) _ h
  | bayInsert h _ _ => cases ht; exact hs.request (fun s hs => hs.sound.bayInsert _ _) _ h
  | bayRemove h _ => cases ht; exact hs.request (fun s hs => hs.sound.bayRemove _) _ h
  | bayFault h _ _ => cases ht; exact hs.request (fun s hs => hs.sound.bayFault _ _) _ h
  | bayClear h _ => cases ht; exact hs.request (fun s hs => hs.sound.bayClear _) _ h
  | verifyDone h _ _ => cases ht; exact hs.request (fun s hs => hs.sound.verifyDone _ _) _ h
  | rackStart h => cases ht; exact hs.request (fun s hs => hs.sound.rackStart) _ h
  | rackStop h => cases ht; exact hs.request (fun s hs => hs.sound.rackStop) _ h
  | rackSet h _ _ _ _ _ => cases ht; exact hs.request (fun s hs => hs.sound.rackSet _ _ _ _ _) _ h
  | sliceNext h => cases ht; exact hs.request (fun s hs => hs.sound.sliceNext) _ h
  | sliceDone h _ _ => cases ht; exact hs.request (fun s hs => hs.sound.sliceDone hs.jobs _ _) _ h
  | patronQuery h _ => cases ht; exact hs.quiet (fun s => by simp) _ h
  | orderQuery h _ _ _ _ => cases ht; exact hs.quiet (fun s => by simp) _ h
  | loanQuery h _ _ _ _ => cases ht; exact hs.quiet (fun s => by simp) _ h
  | titleQuery h _ _ => cases ht; exact hs.quiet (fun s => by simp) _ h
  | circSet h _ _ _ _ => cases ht; exact hs.quiet (fun s => rfl) _ h
  | nextInsert h => cases ht; exact hs.quiet (fun s => rfl) _ h
  | laneClear h => cases ht; exact hs.quiet (fun s => rfl) _ h
  | laneMask h _ _ _ => cases ht; exact hs.quiet (fun s => by simp) _ h
  | fetchNotices h _ => cases ht; exact hs.quiet (fun s => by simp) _ h
  | cartridgeQuery h _ => cases ht; exact hs.quiet (fun s => by simp) _ h
  | bayQuery h _ => cases ht; exact hs.quiet (fun s => by simp) _ h
  | projectionQuery h _ => cases ht; exact hs.quiet (fun s => by simp) _ h
  | containerQuery h _ => cases ht; exact hs.quiet (fun s => by simp) _ h
  | bagQuery h _ => cases ht; exact hs.quiet (fun s => by simp) _ h
  | noticeMask h _ _ => cases ht; exact hs.quiet (fun s => by simp) _ h
  | status h => cases ht; exact hs.quiet (fun s => by simp) _ h
  | rackQuery h => cases ht; exact hs.quiet (fun s => by simp) _ h
  | laneQuery h => cases ht; exact hs.quiet (fun s => by simp) _ h
  | unknownKind h code => cases ht; exact hs.takeRequest (fun s hs => hs.sound) _ _ h
  | frameDiscard p n => cases ht; exact (hs.onUnit _ _).sound
  | readPeriod p n => cases ht; exact (hs.onUnit _ _).sound
  | linkReset p n => cases ht; exact (hs.onUnit _ _).sound
  | responsePlaced p => cases ht; exact hs.sound.of_scene (scene_placeResponse p)
  | resetAssert => cases ht; exact State.Sound.reset _
  | resetRelease =>
    cases ht
    split
    · exact hs.sound.of_scene rfl
    · exact hs.sound
  | secondAdvance =>
    cases ht
    split
    · exact hs.sound
    · exact hs.sound.advanceSecond
  | slotExpiry => cases ht; exact hs.sound.slotExpiry
  | idleExpiry n => cases ht; exact hs.sound.idleReached n

theorem step (hs : s.Ordered) {t : State} (h : step s = .next t) : t.Sound := by
  unfold Machine.step at h
  split at h
  · next rest _ =>
    have hrest : ({ s with pending := rest } : State).Ordered :=
      ⟨hs.sound.of_scene rfl, hs.first, hs.bags, hs.carts, hs.copies, hs.jobs⟩
    exact hrest.exec h
  · cases h
    exact hs.sound.of_scene (State.scene_idleStep)

end State.Ordered

end Sys2Proof.Machine

/-! ### The laws of the scene, and the laws of the model -/

namespace Sys2Proof.Machine

variable {s : State}

/-! #### The scene of a consistent state -/

theorem Bay.core_job_of_jobOrder {r : Bay} {n : Nat} (h : r.jobOrder = some n) : r.core.job = some (some n) := by
  obtain ⟨j, hj, hn⟩ := Option.bind_eq_some_iff.1 h
  simp [Bay.core, hj, hn]

theorem Bay.jobOrder_of_core_job {r : Bay} {n : Nat} (h : r.core.job = some (some n)) : r.jobOrder = some n := by
  obtain ⟨j, hj, hn⟩ := Option.map_eq_some_iff.1 h
  simp [Bay.jobOrder, hj, hn]

theorem Bay.core_of_cartridge {r : Bay} {c : Nat} (h : r.cartridge = some c) : r.core = ⟨r.state, some c, r.core.job⟩ := by
  rw [← h]
  rfl

theorem Bay.core_job_none {r : Bay} (h : r.job = none) : r.core.job = none := by
  simp [Bay.core, h]

theorem Bay.core_job_blank {r : Bay} (h : ∃ j ∈ r.job, j.kind = .blank ∧ 1 ≤ j.remaining ∧ j.remaining ≤ j.total) :
    r.core.job = some none := by
  obtain ⟨j, hj, hkind, -⟩ := h
  simp [Bay.core, Option.mem_def.1 hj, hkind, JobKind.order]

namespace State.Consistent

open Scene

theorem orderStands (hs : s.Consistent) {n : Nat} {o : Order} (ho : s.order n = some o) : s.OrderStands n o :=
  (hs.orders.2.2.1 (n, o) (Table.mem_of_look _ ho)).1

theorem cartridgeStands (hs : s.Consistent) {c : Nat} {k : Cartridge} (hk : s.cart c = some k) : s.CartridgeStands c k :=
  hs.cartridges.2.2.2.2 (c, k) (Table.mem_of_look _ hk)

/-- Table 3-2: the order of an IN_BAY cartridge, and the bay it is in. -/
theorem inBay_order (hs : s.Consistent) {c b : Nat} {k : Cartridge} (hk : s.cart c = some k) (hst : k.state = .inBay)
    (hb : k.bay = some b) : b < bayCount ∧ (s.bay b).cartridge = some c ∧ ∃ n o, k.bound = .order n ∧ s.order n = some o ∧
      o.serial = some c ∧ o.bay = some b ∧ (s.bay b).state.work n = some (o.state, (s.bay b).core.job) := by
  obtain ⟨-, -, hin, -, -, -, -, -, hbay⟩ := hs.cartridgeStands hk
  obtain ⟨-, n, hn, o, ho, hserial, hob, hstates⟩ := hin hst
  obtain ⟨hlt, hcart⟩ := hbay b hb
  have hbound : k.bound = .order n := by
    cases hk : k.bound <;> simp_all [Binding.boundOrder]
  have hob : o.bay = some b := hob.trans hb
  refine ⟨hlt, hcart, n, o, hbound, ho, hserial, hob, ?_⟩
  obtain ⟨-, -, -, hwork, -, hready, -, -, -⟩ := hs.orderStands ho
  rcases hstates with hw | hw | hw
  · obtain ⟨-, -, _, -, b', hb', -, -, hjob, hbst⟩ := hwork (.inl hw)
    cases hb'.symm.trans hob
    rw [hbst, Bay.core_job_of_jobOrder hjob, hw]
    rfl
  · obtain ⟨-, -, _, -, b', hb', -, -, hjob, hbst⟩ := hwork (.inr hw)
    cases hb'.symm.trans hob
    rw [hbst, Bay.core_job_of_jobOrder hjob, hw]
    rfl
  · obtain ⟨hcartridge, hbraille⟩ := hready (.inl hw)
    cases hf : o.format with
    | braille => cases (hbraille hf).2.1.symm.trans hob
    | cartridge =>
      obtain ⟨-, _, -, _, -, -, -, -, hdone⟩ := hcartridge hf
      obtain ⟨-, -, hbst⟩ := hdone b hob
      obtain ⟨-, -, hnojob, -⟩ := hs.jobs.1 b hlt
      rw [hbst, Bay.core_job_none (hnojob (by simp [hbst])), hw]
      rfl

/-- Table 1-3: an order whose cartridge is in a bay. -/
theorem place_inBay (hs : s.Consistent) {n c b : Nat} {o : Order} {k : Cartridge} (ho : s.order n = some o)
    (hf : o.format = .cartridge) (hcopy : o.copy = none) (hk : s.cart c = some k) (hst : k.state = .inBay)
    (hb : k.bay = some b) (hbound : ∀ m, k.bound = .order m → m = n) : s.scene.Place n o.core := by
  obtain ⟨hlt, hcart, m, o', hm, ho', hserial, hob, hwork⟩ := hs.inBay_order hk hst hb
  cases hbound m hm
  cases ho'.symm.trans ho
  refine .inBay hwork hf hcopy hlt hob hserial (Bay.core_of_cartridge hcart) ((State.scene_cart hk).trans ?_)
  rw [Cartridge.core, hst, hm, hb]

/-- Table 4-2: the cartridge of a bay at work. -/
theorem bay_cartridge (hs : s.Consistent) {b : Nat} (hlt : b < bayCount)
    (hst : (s.bay b).state = .writing ∨ (s.bay b).state = .verifying ∨ (s.bay b).state = .done) :
    ∃ c k, (s.bay b).cartridge = some c ∧ s.cart c = some k ∧ k.bay = some b ∧ k.state = .inBay := by
  obtain ⟨-, hload, -⟩ := hs.jobs.1 b hlt
  obtain ⟨-, -, c, hc, k, hk, hb, -, -, -, hin⟩ :=
    hload (by rcases hst with h | h | h <;> simp [h]) (by rcases hst with h | h | h <;> simp [h])
  exact ⟨c, k, hc, hk, hb, hin hst⟩

theorem place_working (hs : s.Consistent) {n : Nat} {o : Order} (ho : s.order n = some o)
    (hst : o.state = .writing ∨ o.state = .verifying) : s.scene.Place n o.core := by
  obtain ⟨-, -, -, hwork, -, -, -, -, hformat⟩ := hs.orderStands ho
  obtain ⟨hcopy, -, c, hc, b, hb, hlt, hcart, hjob, hbst⟩ := hwork hst
  have hbst' : (s.bay b).state = .writing ∨ (s.bay b).state = .verifying := by
    rw [hbst]
    rcases hst with h | h <;> simp [h]
  obtain ⟨c', k, hc', hk, hkb, hin⟩ := hs.bay_cartridge hlt (by tauto)
  refine hs.place_inBay ho (hformat (by tauto)) hcopy hk hin hkb (fun m hm => ?_)
  obtain ⟨-, -, m', o', hm', -, -, -, hw⟩ := hs.inBay_order hk hin hkb
  cases hm.symm.trans hm'
  rw [Bay.core_job_of_jobOrder hjob] at hw
  rcases work_cases hw with ⟨-, -, h⟩ | ⟨-, -, h⟩ | ⟨-, -, h⟩
  · simpa using h.symm
  · simpa using h.symm
  · cases h

theorem place_ready (hs : s.Consistent) {n : Nat} {o : Order} (ho : s.order n = some o)
    (hst : o.state = .ready ∨ o.state = .packed) : s.scene.Place n o.core := by
  obtain ⟨-, -, -, -, -, hready, -⟩ := hs.orderStands ho
  obtain ⟨hcartridge, hbraille⟩ := hready hst
  cases hf : o.format with
  | braille =>
    obtain ⟨hserial, hb, i, hi, hlt, t, ht, halloc⟩ := hbraille hf
    exact .copied hst hf hserial hb hi hlt (State.scene_title ht) halloc
  | cartridge =>
    obtain ⟨hcopy, c, hc, k, hk, hbound, hkb, hshelf, hbay⟩ := hcartridge hf
    cases hb : o.bay with
    | some b =>
      obtain ⟨-, hin, -⟩ := hbay b hb
      exact hs.place_inBay ho hf hcopy hk hin (hkb.trans hb) (fun m hm => by simpa [hbound] using hm.symm)
    | none =>
      have hshelved : o.state.shelved = some k.state := by
        rw [hshelf hb]
        rcases hst with h | h <;> simp [h, OrderState.shelved]
      exact .shelved hshelved hf hcopy hb hc ((State.scene_cart hk).trans (by rw [Cartridge.core, hbound, hkb, hb]))

theorem place (hs : s.Consistent) {n : Nat} {o : Order} (ho : s.order n = some o) : s.scene.Place n o.core := by
  obtain ⟨hpending, hwaiting, hloose, -, -, -, -, hbraille, hcartridge⟩ := hs.orderStands ho
  cases hst : o.state with
  | pending =>
    obtain ⟨hserial, hbay, hcopy, -⟩ := hloose (by simp [hst])
    exact .queued hst (hcartridge (by simp [hst])) ⟨hserial, hbay, hcopy⟩ (hpending hst)
  | stalled =>
    obtain ⟨hserial, hbay, hcopy, -⟩ := hloose (by simp [hst])
    exact .stalled hst (hcartridge (by simp [hst])) ⟨hserial, hbay, hcopy⟩
  | waitingCopy =>
    obtain ⟨hserial, hbay, hcopy, -⟩ := hloose (by simp [hst])
    obtain ⟨t, ht, hn⟩ := hwaiting hst
    exact .waiting hst (hbraille hst) ⟨hserial, hbay, hcopy⟩ (State.scene_title ht) hn
  | writing => exact hs.place_working ho (.inl hst)
  | verifying => exact hs.place_working ho (.inr hst)
  | ready => exact hs.place_ready ho (.inl hst)
  | packed => exact hs.place_ready ho (.inr hst)

theorem boxed (hs : s.Consistent) {n : Nat} {o : Order} (ho : s.order n = some o) : s.scene.Boxed n o.core := by
  obtain ⟨-, -, hloose, hwork, hready, -, hpacked, -, -⟩ := hs.orderStands ho
  refine ⟨fun hst => ?_, fun hst => ?_⟩
  · show o.container = none
    cases h : o.state with
    | pending => exact (hloose (by simp [h])).2.2.2
    | waitingCopy => exact (hloose (by simp [h])).2.2.2
    | stalled => exact (hloose (by simp [h])).2.2.2
    | writing => exact (hwork (by simp [h])).2.1
    | verifying => exact (hwork (by simp [h])).2.1
    | ready => exact hready h
    | packed => exact absurd h hst
  · obtain ⟨m, hm, c, hc, hn⟩ := hpacked hst
    exact ⟨m, c.core, hm, by simp [State.scene, Option.mem_def.1 hc], hn⟩

theorem berth (hs : s.Consistent) {b : Nat} (hlt : b < bayCount) : s.scene.Berth b (s.bay b).core := by
  have hwork (hst : (s.bay b).state = .writing ∨ (s.bay b).state = .verifying ∨ (s.bay b).state = .done) :
      s.scene.Berth b (s.bay b).core := by
    obtain ⟨c, k, hc, hk, hkb, hin⟩ := hs.bay_cartridge hlt hst
    obtain ⟨-, -, n, o, -, ho, hserial, hob, hw⟩ := hs.inBay_order hk hin hkb
    rw [Bay.core_of_cartridge hc]
    exact .work hw (State.scene_order ho) hob hserial
  have hspare {c : Nat} {k : Cartridge} (hc : (s.bay b).cartridge = some c) (hk : s.cart c = some k)
      (hkb : k.bay = some b) (hsp : (s.bay b).state.spare = some (k.state, (s.bay b).core.job)) :
      s.scene.Berth b (s.bay b).core := by
    rw [Bay.core_of_cartridge hc]
    exact .spare hsp ((State.scene_cart hk).trans (by rw [Cartridge.core, hkb]))
  obtain ⟨hempty, hload, hnojob, hblank, -, -, hfault⟩ := hs.jobs.1 b hlt
  cases hst : (s.bay b).state with
  | empty =>
    rw [hempty hst]
    exact .bare (.inl rfl)
  | faulted =>
    obtain ⟨hjob, -, -, hcart⟩ := hfault hst
    cases hc : (s.bay b).cartridge with
    | none =>
      rw [Bay.core, hst, hc, hjob]
      exact .bare (.inr rfl)
    | some c =>
      obtain ⟨k, hk, hkb, hkst⟩ := hcart c hc
      exact hspare hc hk hkb (by rw [hst, hkst, Bay.core_job_none hjob]; rfl)
  | armed =>
    obtain ⟨-, -, c, hc, k, hk, hkb, harmed, -⟩ := hload (by simp [hst]) (by simp [hst])
    exact hspare hc hk hkb (by rw [hst, harmed hst, Bay.core_job_none (hnojob (by simp [hst]))]; rfl)
  | blanking =>
    obtain ⟨-, -, c, hc, k, hk, hkb, -, hblanking, -⟩ := hload (by simp [hst]) (by simp [hst])
    exact hspare hc hk hkb (by rw [hst, hblanking hst, Bay.core_job_blank (hblank hst)]; rfl)
  | eject =>
    obtain ⟨-, -, c, hc, k, hk, hkb, -, -, heject, -⟩ := hload (by simp [hst]) (by simp [hst])
    exact hspare hc hk hkb (by rw [hst, heject hst, Bay.core_job_none (hnojob (by simp [hst]))]; rfl)
  | writing => exact hwork (.inl hst)
  | verifying => exact hwork (.inr (.inl hst))
  | done => exact hwork (.inr (.inr hst))

theorem stocked (hs : s.Consistent) {t : Nat} {v : Title} (ht : s.title t = some v) : s.scene.Stocked t v.core := by
  have hmem : (t, v) ∈ s.titles := Table.mem_of_look _ ht
  refine ⟨fun hf => (hs.copies.2.1 _ hmem hf).1, fun n hn => ?_⟩
  obtain ⟨o, ho, hst, htitle⟩ := (hs.copies.2.2.1 _ hmem).2 n hn
  exact ⟨o.core, State.scene_order ho, hst, htitle⟩

theorem lent (hs : s.Consistent) {l : Nat} {v : Loan} (hl : s.loan l = some v) : s.scene.Lent l v.core := by
  obtain ⟨⟨t, ht, hformat⟩, hserial, hindex⟩ := hs.orders.2.2.2 (l, v) (Table.mem_of_look _ hl)
  cases hitem : v.item with
  | cartridge c =>
    obtain ⟨k, hk, hst, hbound⟩ := hserial c (by simp [hitem, Item.serial])
    have hcart : s.scene.cart c = some ⟨.onLoan, .loan l, k.bay⟩ :=
      (State.scene_cart hk).trans (by rw [Cartridge.core, hst, hbound])
    exact .cartridge hitem hcart (State.scene_title ht) (hformat.2 (by simp [hitem, Item.index]))
  | copy i =>
    obtain ⟨hi, t', ht', hcopy⟩ := hindex i (by simp [hitem, Item.index])
    cases ht'.symm.trans ht
    refine .copy hitem hi (State.scene_title ht) ?_ hcopy
    show t.format = .braille
    cases hf : t.format with
    | cartridge => simp [hitem, Item.index] at hformat; exact absurd hf hformat
    | braille => rfl

theorem core (hs : s.Consistent) : s.scene.Core where
  bays := hs.tables.2.2.2.2.2.2.2
  nodup := hs.orders.1
  queue n hn := by
    obtain ⟨o, ho, hst⟩ := hs.orders.2.1 n hn
    exact ⟨o.core, State.scene_order ho, hst⟩
  place n v hv := by
    obtain ⟨o, ho, rfl⟩ := State.order_of_scene hv
    exact hs.place ho
  boxed n v hv := by
    obtain ⟨o, ho, rfl⟩ := State.order_of_scene hv
    exact hs.boxed ho
  catalogued n v hv := by
    obtain ⟨o, ho, rfl⟩ := State.order_of_scene hv
    obtain ⟨t, ht, hf⟩ := (hs.orders.2.2.1 (n, o) (Table.mem_of_look _ ho)).2
    exact ⟨t.core, State.scene_title ht, hf⟩
  berth b hb := hs.berth hb
  stocked t v hv := by
    obtain ⟨u, hu, rfl⟩ := State.title_of_scene hv
    exact hs.stocked hu
  lent l v hv := by
    obtain ⟨u, hu, rfl⟩ := Option.map_eq_some_iff.1 hv
    exact hs.lent hu

theorem boxes (hs : s.Consistent) : s.scene.Boxes := by
  intro m v hv
  obtain ⟨c, hc, rfl⟩ := Option.map_eq_some_iff.1 hv
  obtain ⟨hnodup, hone, hthree, hbraille, hitems, hopened⟩ := hs.containers (m, c) (Table.mem_of_look _ hc)
  refine ⟨⟨hnodup, hone, hthree, hbraille, fun n hn => ?_⟩, fun h => ?_⟩
  · obtain ⟨o, ho, hrest⟩ := hitems n hn
    exact ⟨o.core, State.scene_order ho, hrest⟩
  · obtain ⟨hb, hlen, p, hp, hm⟩ := hopened (of_decide_eq_true h)
    exact ⟨hb, hlen, Option.bind_eq_some_iff.2 ⟨p, hp, hm⟩⟩

theorem sound (hs : s.Consistent) : s.Sound :=
  ⟨hs.core, hs.boxes⟩

end State.Consistent

/-! #### The laws of the model from the laws of the scene -/

namespace State.Sound

open Scene

theorem orderStands (hs : s.Sound) {n : Nat} {o : Order} (ho : s.order n = some o) : s.OrderStands n o := by
  obtain ⟨hnone, hsome⟩ := hs.core.boxed n _ (State.scene_order ho)
  have hnone : o.state ≠ .packed → o.container = none := hnone
  have hpacked : o.state = .packed → ∃ m ∈ o.container, ∃ c ∈ s.container m, n ∈ c.items := by
    intro hst
    obtain ⟨m, v, hm, hv, hn⟩ := hsome hst
    obtain ⟨c, hc, rfl⟩ := Option.map_eq_some_iff.1 hv
    exact ⟨m, hm, c, hc, hn⟩
  cases hs.core.place n _ (State.scene_order ho) with
  | queued hst hf hloose hn =>
    obtain ⟨hserial, hbay, hcopy⟩ := hloose
    simp_all [Order.core, State.OrderStands, State.scene]
  | stalled hst hf hloose =>
    obtain ⟨hserial, hbay, hcopy⟩ := hloose
    simp_all [Order.core, State.OrderStands]
  | waiting hst hf hloose ht hn =>
    obtain ⟨hserial, hbay, hcopy⟩ := hloose
    obtain ⟨u, hu, rfl⟩ := State.title_of_scene ht
    simp_all [Order.core, Title.core, State.OrderStands]
  | shelved hst hf hcopy hbay hc hcart =>
    obtain ⟨k, hk, hkc⟩ := State.cart_of_scene hcart
    simp only [Cartridge.core, CartCore.mk.injEq] at hkc
    rcases shelved_cases hst with ⟨h, rfl⟩ | ⟨h, rfl⟩ <;> simp_all [Order.core, State.OrderStands]
  | copied hst hf hserial hbay hi hlt ht halloc =>
    obtain ⟨u, hu, rfl⟩ := State.title_of_scene ht
    rcases hst with hst | hst <;> simp_all [Order.core, Title.core, State.OrderStands]
  | inBay hwork hf hcopy hlt hb hc hbay hcart =>
    obtain ⟨k, hk, hkc⟩ := State.cart_of_scene hcart
    simp only [Cartridge.core, CartCore.mk.injEq] at hkc
    have hjob := congrArg BayCore.job hbay
    have hbst := congrArg BayCore.state hbay
    have hcartridge := congrArg BayCore.cartridge hbay
    rcases work_cases hwork with ⟨h1, h2, h3⟩ | ⟨h1, h2, h3⟩ | ⟨h1, h2, h3⟩
    · have := Bay.jobOrder_of_core_job (hjob.trans h3)
      simp_all [Order.core, Bay.core, State.scene, State.OrderStands]
    · have := Bay.jobOrder_of_core_job (hjob.trans h3)
      simp_all [Order.core, Bay.core, State.scene, State.OrderStands]
    · simp_all [Order.core, Bay.core, State.scene, State.OrderStands]

theorem orderLaw (hs : s.Sound) (htables : s.TableLaw) : s.OrderLaw := by
  obtain ⟨-, horders, -, -, -, -, hloans, -⟩ := htables
  refine ⟨hs.core.nodup, fun n hn => ?_, fun e he => ?_, fun e he => ?_⟩
  · obtain ⟨v, hv, hst⟩ := hs.core.queue n hn
    obtain ⟨o, ho, rfl⟩ := State.order_of_scene hv
    exact ⟨o, ho, hst⟩
  · have ho : s.order e.1 = some e.2 := Table.look_of_mem _ horders he
    obtain ⟨v, hv, hf⟩ := hs.core.catalogued _ _ (State.scene_order ho)
    obtain ⟨t, ht, rfl⟩ := State.title_of_scene hv
    exact ⟨hs.orderStands ho, t, ht, hf⟩
  · have hl : s.loan e.1 = some e.2 := Table.look_of_mem _ hloans he
    have hscene : s.scene.loan e.1 = some e.2.core := congrArg (Option.map Loan.core) hl
    cases hs.core.lent _ _ hscene with
    | cartridge hitem hcart ht hf =>
      obtain ⟨k, hk, hkc⟩ := State.cart_of_scene hcart
      obtain ⟨u, hu, rfl⟩ := State.title_of_scene ht
      have hitem : e.2.item = _ := hitem
      rw [hitem]
      refine ⟨⟨u, hu, iff_of_true hf rfl⟩, fun c hc => ?_, nofun⟩
      cases hc
      exact ⟨k, hk, congrArg CartCore.state hkc, congrArg CartCore.bound hkc⟩
    | copy hitem hi ht hf hcopy =>
      obtain ⟨u, hu, rfl⟩ := State.title_of_scene ht
      have hitem : e.2.item = _ := hitem
      have hf : u.format = .braille := hf
      rw [hitem]
      refine ⟨⟨u, hu, iff_of_false (by simp [hf]) nofun⟩, nofun, fun i hc => ?_⟩
      cases hc
      exact ⟨hi, u, hu, hcopy⟩

theorem containerLaw (hs : s.Sound) (htables : s.TableLaw) : s.ContainerLaw := by
  obtain ⟨-, -, -, -, hcontainers, -⟩ := htables
  intro e he
  have hc : s.container e.1 = some e.2 := Table.look_of_mem _ hcontainers he
  obtain ⟨⟨hnodup, hone, hthree, hbraille, hitems⟩, hlid⟩ := hs.boxes e.1 e.2.core (congrArg (Option.map Container.core) hc)
  refine ⟨hnodup, hone, hthree, hbraille, fun n hn => ?_, fun h => ?_⟩
  · obtain ⟨v, hv, hrest⟩ := hitems n hn
    obtain ⟨o, ho, rfl⟩ := State.order_of_scene hv
    exact ⟨o, ho, hrest⟩
  · obtain ⟨hb, hlen, hopen⟩ := hlid (decide_eq_true h)
    exact ⟨hb, hlen, Option.bind_eq_some_iff.1 hopen⟩

end State.Sound

theorem State.Consistent.ordered (hs : s.Consistent) : s.Ordered :=
  ⟨hs.sound, hs.patrons, hs.bags, hs.cartridges, hs.copies, hs.jobs⟩

/-- Settles O28, by the laws of the scene: which order, cartridge, bay, copy, loan and container names which. Every
act of a command changes at most one record of each kind, and what those records have afterwards stands. -/
theorem stepsKeepTheOrderLaws : Obligations.StepsKeepTheOrderLaws := by
  intro s t hs h
  have hsound := hs.ordered.step h
  have htables := tableLaw_shapeLaw.step hs.tables h
  exact ⟨hsound.containerLaw htables, hsound.orderLaw htables⟩

end Sys2Proof.Machine

/-! ### The stock of a state

What copy maps and hold queues are tied to: the catalogue, the title, format and copy of every order, and the title and
item of every loan. Most acts leave the stock as it is; the fourth and the fifth law of the device speak of the stock,
and of which orders are READY, PACKED or WAITING_COPY, which the laws of the scene give. -/

namespace Sys2Proof.Machine

/-- What an order says of a copy: its title, its format, and the copy it has. -/
structure Claim where
  title : Nat
  format : Format
  copy : Option Nat

def Order.claim (o : Order) : Claim :=
  ⟨o.title, o.format, o.copy⟩

structure Stock where
  titles : Table Title
  claims : Table Claim
  orderCounter : Nat
  loans : Table LoanCore
  loanCounter : Nat

def State.stock (s : State) : Stock where
  titles := s.titles
  claims := s.book.orders.map (fun e => (e.1, e.2.claim))
  orderCounter := s.book.counter
  loans := s.loans.loans.map (fun e => (e.1, e.2.core))
  loanCounter := s.loans.counter

variable (s : State)

/-! #### The primitive updates -/

@[simp] theorem State.stock_onUnit (p : Port) (f : PortUnit → PortUnit) : (s.onUnit p f).stock = s.stock := rfl
@[simp] theorem State.stock_raise (p : Port) (k : NoticeKind) (n : Nat) (d : List Field) :
    (s.raise p k n d).stock = s.stock := rfl
@[simp] theorem State.stock_onPatron (n : Nat) (f : Patron → Patron) : (s.onPatron n f).stock = s.stock := rfl
@[simp] theorem State.stock_setQueue (q : List Nat) : (s.setQueue q).stock = s.stock := rfl
@[simp] theorem State.stock_onCart (n : Nat) (f : Cartridge → Cartridge) : (s.onCart n f).stock = s.stock := rfl
@[simp] theorem State.stock_joinPool (n : Nat) : (s.joinPool n).stock = s.stock := rfl
@[simp] theorem State.stock_joinBacklog (n : Nat) : (s.joinBacklog n).stock = s.stock := rfl
@[simp] theorem State.stock_leaveQueues (n : Nat) : (s.leaveQueues n).stock = s.stock := rfl
@[simp] theorem State.stock_setBay (b : Nat) (r : Bay) : (s.setBay b r).stock = s.stock := rfl
@[simp] theorem State.stock_onRack (f : Scheduler → Scheduler) : (s.onRack f).stock = s.stock := rfl
@[simp] theorem State.stock_onContainer (n : Nat) (f : Container → Container) : (s.onContainer n f).stock = s.stock := rfl
@[simp] theorem State.stock_onBag (n : Nat) (f : Bag → Bag) : (s.onBag n f).stock = s.stock := rfl
@[simp] theorem State.stock_withClock (c : Clock) : ({ s with clock := c } : State).stock = s.stock := rfl
@[simp] theorem State.stock_withPacking (k : Packing) : ({ s with packing := k } : State).stock = s.stock := rfl
@[simp] theorem State.stock_withPatrons (t : Table Patron) : ({ s with patrons := t } : State).stock = s.stock := rfl
@[simp] theorem State.stock_withCarts (c : CartridgeStore) : ({ s with carts := c } : State).stock = s.stock := rfl

/-- A change of an order that leaves its title, its format and its copy. -/
@[simp] theorem State.stock_onOrder (n : Nat) {f : Order → Order} (hf : ∀ o, (f o).claim = o.claim) :
    (s.onOrder n f).stock = s.stock := by
  simp [State.stock, Table.map_alter_of_eq _ _ hf]

@[simp] theorem State.stock_onOrders {f : Nat → Order → Order} (hf : ∀ n o, (f n o).claim = o.claim) :
    (s.onOrders f).stock = s.stock := by
  simp [State.stock, Table.map_mapRecords_of_eq _ hf]

/-- An act that leaves the book, the catalogue and the loans. -/
theorem State.stock_congr {s t : State} (hb : t.book = s.book) (ht : t.titles = s.titles) (hl : t.loans = s.loans) :
    t.stock = s.stock := by
  simp [State.stock, hb, ht, hl]

/-! #### Projections (Chapter 6) -/

@[simp] theorem State.project_claim (o : Order) (r : Nat) : (s.project o r).claim = o.claim := rfl
@[simp] theorem Order.stoppedForm_claim (o : Order) : o.stoppedForm.claim = o.claim := rfl
@[simp] theorem State.verifyForm_claim (o : Order) : (s.verifyForm o).claim = o.claim := rfl

@[simp] theorem State.writingForm_claim (t : Nat) (o : Order) : (s.writingForm t o).claim = o.claim := by
  obtain ⟨q, tag, h⟩ := s.writingForm_fields t o
  rw [h]
  rfl

@[simp] theorem State.dayForm_claim (d : Bool) (o : Order) : (s.dayForm d o).claim = o.claim := by
  unfold State.dayForm
  split <;> simp

@[simp] theorem State.stock_recomputeWriting (t : Nat) : (s.recomputeWriting t).stock = s.stock :=
  s.stock_onOrders (fun _ o => by split <;> simp)

@[simp] theorem State.stock_stopProjections : s.stopProjections.stock = s.stock :=
  s.stock_onOrders (fun _ o => by split <;> simp)

@[simp] theorem State.stock_dayRecompute (d : Bool) : (s.dayRecompute d).stock = s.stock :=
  s.stock_onOrders (fun _ o => by simp)

@[simp] theorem State.stock_tagsLate : s.tagsLate.stock = s.stock :=
  s.stock_onOrders (fun _ o => by split <;> rfl)

/-! #### The packing unit (Chapter 8) -/

@[simp] theorem State.stock_closeContainer (n : Nat) : (s.closeContainer n).stock = s.stock :=
  stock_congr (by simp) (by simp) (by simp)

@[simp] theorem State.stock_idleExpire (n : Nat) : (s.idleExpire n).stock = s.stock :=
  stock_congr (by simp) (by simp) (by simp)

@[simp] theorem State.stock_reexamine (n : Nat) : (s.reexamine n).stock = s.stock :=
  stock_congr (by simp) (by simp) (by simp)

@[simp] theorem State.stock_reexamineOf (n : Nat) : (s.reexamineOf n).stock = s.stock :=
  stock_congr (by simp) (by simp) (by simp)

@[simp] theorem State.stock_settle (b : Table Order) : (s.settle b).stock = s.stock :=
  stock_congr (by simp) (by simp) (by simp)

@[simp] theorem State.stock_closeBag (n : Nat) (c : Bool) : (s.closeBag n c).stock = s.stock :=
  stock_congr (by simp) (by simp) (by simp)

theorem State.stock_bagContainer {n region : Nat} {r : State × Nat} (h : s.bagContainer n region = some r) :
    r.1.stock = s.stock := by
  obtain ⟨-, -, -, hbook, htitles, -, -, -, -, hloans, -⟩ := s.bagContainer_frame h
  exact stock_congr hbook htitles hloans

@[simp] theorem State.stock_drain : s.drain.stock = s.stock :=
  stock_congr (by simp) (by simp) (by simp)

@[simp] theorem State.stock_placeItem (n : Nat) (o : Order) (k : Nat) : (s.placeItem n o k).stock = s.stock := by
  have hpacked : (s.onOrder n (fun o => { o with state := .packed, container := some k })).stock = s.stock :=
    s.stock_onOrder n (fun _ => rfl)
  unfold State.placeItem
  split
  · exact (State.stock_onCart _ _ _).trans ((State.stock_onContainer _ _ _).trans hpacked)
  · exact (State.stock_onContainer _ _ _).trans hpacked

@[simp] theorem State.stock_afterPlacing (k : Nat) (c : Bool) : (s.afterPlacing k c).stock = s.stock := by
  unfold State.afterPlacing State.expireAtOnce State.hold
  (repeat' split) <;> simp

@[simp] theorem State.stock_packInto (n : Nat) (o : Order) (k : Nat) (c : Bool) :
    (s.packInto n o k c).state.stock = s.stock := by
  simp [State.packInto]

@[simp] theorem State.stock_newContainer (p : Nat) (b : Bool) : (s.newContainer p b).1.stock = s.stock := by
  unfold State.newContainer
  cases b <;> rfl

/-! #### The rack (Chapters 3, 4 and 5) -/

@[simp] theorem State.stock_retire (n : Nat) : (s.retire n).stock = s.stock := rfl

@[simp] theorem State.stock_startJob (b : Nat) (k : JobKind) (n : Nat) : (s.startJob b k n).stock = s.stock := rfl

@[simp] theorem State.stock_abortJob (b : Nat) (k : Bool) : (s.abortJob b k).stock = s.stock :=
  stock_congr (by simp) (by simp) (by simp)

@[simp] theorem State.stock_blankInPlace (b : Nat) : (s.blankInPlace b).stock = s.stock :=
  stock_congr (by simp) (by simp) (by simp)

@[simp] theorem State.stock_assign (n b : Nat) : (s.assign n b).stock = s.stock := by
  simp only [State.assign]
  split
  · split
    · rw [State.stock_onOrder _ _ (fun o => State.writingForm_claim ..), State.stock_startJob, State.stock_onCart]
      exact State.stock_onOrder _ n (fun _ => rfl)
    · rfl
  · rfl

@[simp] theorem State.stock_arbiterLoop (fuel : Nat) : (State.arbiterLoop fuel s).stock = s.stock := by
  induction fuel generalizing s with
  | zero => rfl
  | succ k ih =>
    unfold State.arbiterLoop
    split <;> simp [ih]

@[simp] theorem State.stock_arbiter : s.arbiter.stock = s.stock :=
  s.stock_arbiterLoop _

@[simp] theorem State.stock_rejoin (n : Nat) : (s.rejoin n).stock = s.stock := by
  simp only [State.rejoin, State.stock_arbiter, State.stock_setQueue]
  exact s.stock_onOrder n (fun _ => rfl)

@[simp] theorem State.stock_reenter (n : Nat) : (s.reenter n).stock = s.stock := by
  simp [State.reenter]

@[simp] theorem State.stock_faultBay (b : Nat) (k : FaultKind) (c : Bool) : (s.faultBay b k c).stock = s.stock := by
  simp only [State.faultBay]
  split <;> simp

@[simp] theorem State.stock_completeBlank (b : Nat) : (s.completeBlank b).stock = s.stock := by
  simp only [State.completeBlank]
  split <;> simp

@[simp] theorem State.stock_completeJob (b : Nat) : (s.completeJob b).stock = s.stock := by
  unfold State.completeJob
  split
  · exact State.stock_onOrder _ _ (fun _ => rfl)
  · simp
  · rfl

@[simp] theorem State.stock_applySlice (b : Nat) (g : Grant) (n : Nat) : (s.applySlice b g n).stock = s.stock := by
  unfold State.applySlice
  split <;> simp [State.credit]

@[simp] theorem State.stock_expireSlot : s.expireSlot.stock = s.stock := by
  unfold State.expireSlot
  split <;> simp

@[simp] theorem State.stock_startRound : s.startRound.stock = s.stock := by
  simp [State.startRound]

@[simp] theorem State.stock_nextSlice : s.nextSlice.state.stock = s.stock := by
  unfold State.nextSlice
  simp only [State.beginRound]
  (repeat' split) <;> simp [answer, State.grantSlot, State.roundDone, State.stopRack]

/-! #### The day clock (Chapters 7 and 9) -/

@[simp] theorem State.stock_lastCall : s.lastCall.stock = s.stock := by
  unfold State.lastCall
  rw [State.stock_tagsLate, foldl_keeps State.stock _ (fun s e => stock_congr (by simp) (by simp) (by simp)),
    State.stock_raise]

@[simp] theorem State.stock_enterMailDay : s.enterMailDay.stock = s.stock := by
  have hcut : ∀ t : State, t.cutOff.stock = t.stock := fun t => stock_congr (by simp) (by simp) (by simp)
  simp only [State.enterMailDay]
  (repeat' split) <;> simp [hcut]

/-- R160: a loan made OVERDUE is of the same title and item. -/
@[simp] theorem State.stock_sweep : s.sweep.stock = s.stock := by
  have hfalls : ∀ (n : Nat) (l : Loan),
      (if l.falls s.clock.day s.loans.grace then { l with state := .overdue } else l : Loan).core = l.core := by
    intro n l
    split <;> rfl
  simp [State.stock, State.sweep_loans, Table.map_mapRecords_of_eq _ hfalls]

@[simp] theorem State.stock_clearLaneCounts : s.clearLaneCounts.stock = s.stock := rfl

@[simp] theorem State.stock_advanceSecond : s.advanceSecond.stock = s.stock := by
  simp only [State.advanceSecond, State.rollover, State.stock_settle]
  split
  · rw [State.stock_enterMailDay, State.stock_clearLaneCounts, State.stock_dayRecompute, State.stock_sweep]
    rfl
  · exact State.stock_enterMailDay _

/-! #### The requests that leave the stock -/

@[simp] theorem stock_patronOpen (n region high restore : Nat) :
    (patronOpen n region high restore s).state.stock = s.stock := by
  simp only [patronOpen]
  (repeat' split) <;> simp

@[simp] theorem stock_patronClose (n : Nat) : (patronClose n s).state.stock = s.stock := by
  unfold patronClose
  (repeat' split) <;> simp

@[simp] theorem stock_orderRetry (n : Nat) : (orderRetry n s).state.stock = s.stock := by
  unfold orderRetry
  split
  · rfl
  split
  · rfl
  split
  · rfl
  · simp only [State.stock_settle, State.joinPending, State.stock_arbiter, State.stock_setQueue]
    exact s.stock_onOrder n (fun _ => rfl)

@[simp] theorem stock_cartridgeAdd (n : Nat) : (cartridgeAdd n s).state.stock = s.stock := by
  unfold cartridgeAdd
  (repeat' split) <;> simp

@[simp] theorem stock_cartridgeDrop (n : Nat) : (cartridgeDrop n s).state.stock = s.stock := by
  unfold cartridgeDrop
  (repeat' split) <;> simp

@[simp] theorem stock_bayInsert (b c : Nat) : (bayInsert b c s).state.stock = s.stock := by
  unfold bayInsert
  (repeat' split) <;> simp [State.insertBlank, State.insertDirty]

@[simp] theorem State.stock_removeDone (b c : Nat) : (s.removeDone b c).stock = s.stock := by
  simp only [State.removeDone]
  split
  · exact State.stock_onOrder _ _ (fun _ => rfl)
  · rfl

@[simp] theorem stock_bayRemove (b : Nat) : (bayRemove b s).state.stock = s.stock := by
  unfold bayRemove
  split
  · rfl
  split
  · rfl
  split <;> simp [State.emptyBay, State.removeFaulted, State.removeInJob]

@[simp] theorem stock_bayFault (b f : Nat) : (bayFault b f s).state.stock = s.stock := by
  unfold bayFault
  (repeat' split) <;> simp

@[simp] theorem stock_bayClear (b : Nat) : (bayClear b s).state.stock = s.stock := by
  unfold bayClear
  (repeat' split) <;> simp

@[simp] theorem State.stock_failOrder (n c : Nat) : (s.failOrder n c).stock = s.stock := by
  unfold State.failOrder
  split
  · rfl
  split
  · rw [State.stock_reexamineOf, State.stock_rejoin]
    exact s.stock_onOrder n (fun _ => rfl)
  · rw [State.stock_reexamineOf, State.stock_raise]
    exact s.stock_onOrder n (fun _ => rfl)

@[simp] theorem stock_verifyDone (b r : Nat) : (verifyDone b r s).state.stock = s.stock := by
  have hpass : ∀ n, (s.verifyPass b n).stock = s.stock :=
    fun n => State.stock_onOrder _ n (fun _ => rfl)
  have hfail : ∀ c, (s.failCartridge b c).stock = s.stock := by
    intro c
    simp only [State.failCartridge]
    split <;> simp
  unfold verifyDone
  (repeat' split) <;> simp [hpass, hfail]

@[simp] theorem stock_rackStart : (rackStart s).state.stock = s.stock := by
  unfold rackStart
  split <;> simp

@[simp] theorem stock_rackStop : (rackStop s).state.stock = s.stock := by
  unfold rackStop
  split <;> simp [State.stopRack]

@[simp] theorem stock_rackSet (a b c d e : Nat) : (rackSet a b c d e s).state.stock = s.stock := by
  unfold rackSet
  (repeat' split) <;> simp

@[simp] theorem stock_sliceNext : (sliceNext s).state.stock = s.stock := by
  unfold sliceNext
  split <;> simp

@[simp] theorem stock_sliceDone (m n : Nat) : (sliceDone m n s).state.stock = s.stock := by
  unfold sliceDone
  (repeat' split) <;> simp [State.takeReport]

@[simp] theorem stock_packItem (item identity copy : Nat) : (packItem item identity copy s).state.stock = s.stock := by
  unfold packItem State.packOrder
  (repeat' split) <;> simp

@[simp] theorem stock_containerClose (n : Nat) : (containerClose n s).state.stock = s.stock := by
  unfold containerClose
  (repeat' split) <;> simp

@[simp] theorem stock_containerSealed (n : Nat) : (containerSealed n s).state.stock = s.stock := by
  unfold containerSealed
  split
  · rfl
  split
  · rfl
  split
  · rfl
  split
  · next hr => exact s.stock_bagContainer hr
  · rfl

@[simp] theorem stock_bagClose (n : Nat) : (bagClose n s).state.stock = s.stock := by
  unfold bagClose
  (repeat' split) <;> simp

@[simp] theorem stock_clockSet (day second : Nat) : (clockSet day second s).state.stock = s.stock := by
  unfold clockSet
  simp only [State.setClock]
  split
  · rfl
  · split <;> simp

@[simp] theorem stock_mailSet (c m i a : Nat) : (mailSet c m i a s).state.stock = s.stock := by
  have hset : ∀ c m i a, (s.setMail c m i a).stock = s.stock := by
    intro c m i a
    simp only [State.setMail]
    rw [foldl_keeps State.stock _ (fun s n => by simp)]
    simp only [State.stock_settle, State.stock_dayRecompute, State.stock_enterMailDay]
    rfl
  exact hset ..

@[simp] theorem State.stock_laneError (k : ErrorKind) (i : GivenItem) (c : Option Nat) :
    (s.laneError k i c).stock = s.stock := by
  simp only [State.laneError]
  split <;> rfl

@[simp] theorem stock_laneMask (a b c : Nat) : (laneMask a b c s).state.stock = s.stock := by
  unfold laneMask
  split <;> rfl

@[simp] theorem stock_fetchNotices (p : Port) (n : Nat) : (fetchNotices p n s).state.stock = s.stock := by
  unfold fetchNotices
  split <;> simp

@[simp] theorem stock_noticeMask (p : Port) (m n : Nat) : (noticeMask p m n s).state.stock = s.stock := by
  unfold noticeMask
  split <;> simp

@[simp] theorem stock_placeResponse (p : Port) : (placeResponse p s).stock = s.stock := by
  unfold placeResponse
  split <;> simp

@[simp] theorem State.stock_slotExpiry : s.slotExpiry.stock = s.stock := by
  unfold State.slotExpiry
  split <;> simp

@[simp] theorem State.stock_idleReached (n : Nat) : (s.idleReached n).stock = s.stock := by
  rcases s.idleReached_cases n with h | ⟨c, _, _, h⟩ <;> simp [h]

@[simp] theorem State.stock_idleStep : s.idleStep.stock = s.stock := by
  unfold State.idleStep
  (repeat' split) <;> rfl

end Sys2Proof.Machine

/-! ### Laws of the stock -/

namespace Sys2Proof.Machine

/-- A title as TITLE_LOAD puts it in the catalogue (R34). -/
inductive Title.Loaded : Title → Prop
  | cartridge (size : Nat) (sel : Selector) : Loaded (.cartridge (clampImage size) sel)
  | braille {n : Nat} : n ≤ copyEntries → Loaded (.braille (freshCopies n) [])

/-- A braille title with another copy map. -/
def Title.withMap (copies : List Copy) : Title → Title
  | .braille _ hold => .braille copies hold
  | t => t

/-- A law that holds of a state by its stock, and that the acts that change the stock keep: one field for each of them,
with what the act's request has tested. `Q` is what a command may begin with besides; it depends on the scene alone. -/
structure StockLaw (Q P : State → Prop) : Prop where
  congr : ∀ {s t : State}, t.stock = s.stock → P s → P t
  ambient : ∀ {s t : State}, t.scene = s.scene → Q s → Q t
  created : ∀ {s : State} (p title : Nat) (pr : Priority), P s → s.hasRoom = true → P (s.createOrder p title pr)
  shelved : ∀ {s : State} (title i : Nat), P s → P (s.shelve title i)
  cancelled : ∀ {s : State} {n : Nat} {o : Order}, Q s → P s → s.order n = some o → o.state ≠ .packed →
    P ((s.dropOrder n).releaseItem n o)
  returned : ∀ {s : State} {n : Nat} {l : Loan} (condition : Nat), P s → s.loan n = some l →
    P ((s.closeLoan n l).sendOn l condition)
  dispatched : ∀ {s : State} (gone : List Nat), Q s → P s →
    P ((gone.map s.itemsOf).flatten.foldl State.dispatchOrder s)
  loaded : ∀ {s : State} {title : Nat} {v : Title}, P s → s.titles.has title = false → v.Loaded →
    P { s with titles := s.titles.put title v }
  resized : ∀ {s : State} {title stored : Nat} {old : Selector} (size : Nat) (sel : Selector), P s →
    s.title title = some (.cartridge stored old) → P (s.onTitle title (fun _ => .cartridge (clampImage size) sel))
  withdrawn : ∀ {s : State} {title : Nat} {copies : List Copy} {hold : List Nat} (k : Nat), P s →
    s.title title = some (.braille copies hold) → P (s.onTitle title (Title.withMap (withdrawCopies copies k)))
  dropped : ∀ {s : State} (title : Nat), P s → P { s with titles := s.titles.drop title }
  reset : ∀ q, P { State.reset with pending := q, resetHeld := true }

namespace StockLaw

variable {Q P : State → Prop} (hP : StockLaw Q P) {s : State}
include hP

/-! #### The requests that change the stock -/

theorem releaseLoop {n : Nat} (l : List Nat) {r : State × Nat} (hr : P r.1) : P (State.releaseLoop n l r).1 := by
  induction l generalizing r with
  | nil => exact hr
  | cons title rest ih =>
    unfold State.releaseLoop
    split
    · next hmay =>
      obtain ⟨-, -, -, -, hroom⟩ := (r.1.mayRelease_iff n).1 hmay
      have hstrip : P (r.1.onPatron n (fun p => { p with deferred := rest })) := hP.congr (State.stock_onPatron _ _ _) hr
      dsimp only
      split
      · exact ih hstrip
      · exact ih (hP.created n title .standard hstrip hroom)
    · exact hr

theorem releasePass (hs : P s) (n : Nat) : P (s.releasePass n).1 := by
  unfold State.releasePass
  split
  · exact hP.releaseLoop _ hs
  · exact hs

theorem settle (hs : P s) (b : Table Order) : P (s.settle b) :=
  hP.congr (s.stock_settle b) hs

theorem patronSet (hs : P s) (n region high restore sus : Nat) :
    P (Machine.patronSet n region high restore sus s).state := by
  simp only [Machine.patronSet]
  split
  · exact hs
  split
  · exact hs
  split
  · exact hs
  · exact hP.settle (hP.releasePass (hP.congr (State.stock_onPatron _ _ _) hs) n) _

theorem orderPlace (hs : P s) (n title pr : Nat) : P (Machine.orderPlace n title pr s).state := by
  simp only [Machine.orderPlace]
  split
  · exact hs
  split
  · exact hs
  split
  · exact hs
  split
  · exact hs
  split
  · exact hs
  next hroom =>
  split
  · split
    · exact hs
    · exact hP.settle (hP.releasePass (hP.congr (State.stock_onPatron _ _ _) hs) n) _
  · exact hP.settle (hP.created n title _ hs (by simpa using hroom)) _

theorem orderCancel (hq : Q s) (hs : P s) (n : Nat) : P (Machine.orderCancel n s).state := by
  simp only [Machine.orderCancel]
  split
  · exact hs
  split
  · exact hs
  next o ho =>
  split
  · exact hs
  · next hst =>
    exact hP.settle (hP.releasePass (hP.congr (by simp) (hP.cancelled hq hs ho hst)) _) _

theorem returnItem (hs : P s) (item identity copy condition : Nat) :
    P (Machine.returnItem item identity copy condition s).state := by
  simp only [Machine.returnItem]
  split
  · exact hs
  split
  · exact hs
  split
  · next hcase => exact hP.settle (hP.releasePass (hP.returned condition hs (s.loan_of_classify hcase)) _) _
  · exact hP.congr (State.stock_laneError ..) hs

theorem bagHanded (hq : Q s) (hs : P s) (n : Nat) : P (Machine.bagHanded n s).state := by
  simp only [Machine.bagHanded]
  split
  · exact hs
  split
  · exact hs
  split
  · exact hs
  next g _ _ =>
  refine hP.congr ?_ (hP.dispatched g.containers hq hs)
  rw [answer_state, State.stock_drain, State.stock_raise]
  rfl

theorem titleLoad (hs : P s) (n f size sel copies : Nat) : P (Machine.titleLoad n f size sel copies s).state := by
  simp only [Machine.titleLoad]
  split
  · exact hs
  split
  · exact hs
  next hnew =>
  split
  · exact hs
  split
  · exact hP.loaded hs (by simpa using hnew) (.cartridge ..)
  · exact hP.loaded hs (by simpa using hnew) (.braille (Nat.min_le_right ..))

theorem bringCopies (title : Nat) (l : List Nat) {r : State × Nat × Nat} (hr : P r.1) :
    P (State.bringCopies title l r).1 := by
  induction l generalizing r with
  | nil => exact hr
  | cons i rest ih =>
    obtain ⟨s, needed, allocated⟩ := r
    unfold State.bringCopies
    split
    · split
      · exact ih (hP.shelved title i hr)
      · exact ih hr
    · exact hr

theorem titleSet (hs : P s) (title size sel copies : Nat) : P (Machine.titleSet title size sel copies s).state := by
  simp only [Machine.titleSet]
  split
  · exact hs
  split
  · exact hs
  · next ht =>
    unfold setCartridgeTitle
    split
    · exact hs
    split
    · exact hs
    · exact hP.resized size _ hs ht
  · next ht =>
    simp only [setBrailleTitle]
    split
    · split
      · exact hs
      · exact hP.withdrawn (copiesTotal _ - min copies copyEntries) hs ht
    · exact hP.settle (hP.bringCopies title _ hs) _

theorem titleDrop (hs : P s) (n : Nat) : P (Machine.titleDrop n s).state := by
  simp only [Machine.titleDrop]
  split
  · exact hs
  split
  · exact hs
  split
  · exact hs
  · exact List.foldlRecOn _ _ (hP.dropped n hs)
      (fun s hs p _ => hP.congr (State.stock_congr (by simp) (by simp) (by simp)) hs)

/-! #### Every command -/

theorem takeRequest (hq : Q s) (hs : P s) {act : State → Result} (hact : ∀ s, Q s → P s → P (act s).state) (code : Nat)
    (own : Option Code) (h : Header) : P (takeRequest code own h act s) := by
  have hclocked : P (s.clocked h) := hP.congr (State.stock_onUnit _ _ _) hs
  simp only [Machine.takeRequest]
  split
  · exact hclocked
  split
  · exact hP.congr (State.stock_onUnit _ _ _) hclocked
  split
  · exact hP.congr (State.stock_onUnit _ _ _) hclocked
  · exact hP.congr (State.stock_onUnit _ _ _) (hact _ (hP.ambient (State.scene_onUnit _ _ _) hq) hclocked)

theorem request (hq : Q s) (hs : P s) {act : State → Result} (hact : ∀ s, Q s → P s → P (act s).state) (k : Kind)
    (h : Header) : P (request k h act s) :=
  hP.takeRequest hq hs hact _ _ _

/-- A request that leaves the stock keeps the law. -/
theorem quiet (hq : Q s) (hs : P s) {act : State → Result} (hact : ∀ s, (act s).state.stock = s.stock) (k : Kind)
    (h : Header) : P (Machine.request k h act s) :=
  hP.request hq hs (fun s _ hs => hP.congr (hact s) hs) k h

/-- Every command keeps a law of the stock. -/
theorem exec {c : Instr} {t : State} (hq : Q s) (hs : P s) (ht : exec c s = .next t) : P t := by
  cases c with
  | patronSet h _ _ _ _ _ => cases ht; exact hP.request hq hs (fun s _ hs => hP.patronSet hs _ _ _ _ _) _ h
  | orderPlace h _ _ _ => cases ht; exact hP.request hq hs (fun s _ hs => hP.orderPlace hs _ _ _) _ h
  | orderCancel h _ => cases ht; exact hP.request hq hs (fun s hq hs => hP.orderCancel hq hs _) _ h
  | titleLoad h _ _ _ _ _ => cases ht; exact hP.request hq hs (fun s _ hs => hP.titleLoad hs _ _ _ _ _) _ h
  | titleSet h _ _ _ _ => cases ht; exact hP.request hq hs (fun s _ hs => hP.titleSet hs _ _ _ _) _ h
  | titleDrop h _ => cases ht; exact hP.request hq hs (fun s _ hs => hP.titleDrop hs _) _ h
  | bagHanded h _ => cases ht; exact hP.request hq hs (fun s hq hs => hP.bagHanded hq hs _) _ h
  | returnItem h _ _ _ _ => cases ht; exact hP.request hq hs (fun s _ hs => hP.returnItem hs _ _ _ _) _ h
  | patronOpen h _ _ _ _ => cases ht; exact hP.quiet hq hs (fun s => by simp) _ h
  | patronClose h _ => cases ht; exact hP.quiet hq hs (fun s => by simp) _ h
  | patronQuery h _ => cases ht; exact hP.quiet hq hs (fun s => by simp) _ h
  | orderRetry h _ => cases ht; exact hP.quiet hq hs (fun s => by simp) _ h
  | orderQuery h _ _ _ _ => cases ht; exact hP.quiet hq hs (fun s => by simp) _ h
  | loanQuery h _ _ _ _ => cases ht; exact hP.quiet hq hs (fun s => by simp) _ h
  | titleQuery h _ _ => cases ht; exact hP.quiet hq hs (fun s => by simp) _ h
  | cartridgeAdd h _ => cases ht; exact hP.quiet hq hs (fun s => by simp) _ h
  | cartridgeDrop h _ => cases ht; exact hP.quiet hq hs (fun s => by simp) _ h
  | cartridgeQuery h _ => cases ht; exact hP.quiet hq hs (fun s => by simp) _ h
  | nextInsert h => cases ht; exact hP.quiet hq hs (fun s => rfl) _ h
  | bayInsert h _ _ => cases ht; exact hP.quiet hq hs (fun s => by simp) _ h
  | bayRemove h _ => cases ht; exact hP.quiet hq hs (fun s => by simp) _ h
  | bayFault h _ _ => cases ht; exact hP.quiet hq hs (fun s => by simp) _ h
  | bayClear h _ => cases ht; exact hP.quiet hq hs (fun s => by simp) _ h
  | bayQuery h _ => cases ht; exact hP.quiet hq hs (fun s => by simp) _ h
  | verifyDone h _ _ => cases ht; exact hP.quiet hq hs (fun s => by simp) _ h
  | projectionQuery h _ => cases ht; exact hP.quiet hq hs (fun s => by simp) _ h
  | rackStart h => cases ht; exact hP.quiet hq hs (fun s => by simp) _ h
  | rackStop h => cases ht; exact hP.quiet hq hs (fun s => by simp) _ h
  | rackSet h _ _ _ _ _ => cases ht; exact hP.quiet hq hs (fun s => by simp) _ h
  | rackQuery h => cases ht; exact hP.quiet hq hs (fun s => rfl) _ h
  | sliceNext h => cases ht; exact hP.quiet hq hs (fun s => by simp) _ h
  | sliceDone h _ _ => cases ht; exact hP.quiet hq hs (fun s => by simp) _ h
  | clockSet h _ _ => cases ht; exact hP.quiet hq hs (fun s => by simp) _ h
  | circSet h _ _ _ _ => cases ht; exact hP.quiet hq hs (fun s => rfl) _ h
  | mailSet h _ _ _ _ => cases ht; exact hP.quiet hq hs (fun s => by simp) _ h
  | packItem h _ _ _ => cases ht; exact hP.quiet hq hs (fun s => by simp) _ h
  | containerClose h _ => cases ht; exact hP.quiet hq hs (fun s => by simp) _ h
  | containerSealed h _ => cases ht; exact hP.quiet hq hs (fun s => by simp) _ h
  | containerQuery h _ => cases ht; exact hP.quiet hq hs (fun s => by simp) _ h
  | bagClose h _ => cases ht; exact hP.quiet hq hs (fun s => by simp) _ h
  | bagQuery h _ => cases ht; exact hP.quiet hq hs (fun s => by simp) _ h
  | laneClear h => cases ht; exact hP.quiet hq hs (fun s => rfl) _ h
  | laneMask h _ _ _ => cases ht; exact hP.quiet hq hs (fun s => by simp) _ h
  | laneQuery h => cases ht; exact hP.quiet hq hs (fun s => rfl) _ h
  | fetchNotices h _ => cases ht; exact hP.quiet hq hs (fun s => by simp) _ h
  | noticeMask h _ _ => cases ht; exact hP.quiet hq hs (fun s => by simp) _ h
  | status h => cases ht; exact hP.quiet hq hs (fun s => rfl) _ h
  | unknownKind h code => cases ht; exact hP.takeRequest hq hs (fun s _ hs => hs) _ _ h
  | frameDiscard p n => cases ht; exact hP.congr (State.stock_onUnit _ _ _) hs
  | readPeriod p n => cases ht; exact hP.congr (State.stock_onUnit _ _ _) hs
  | linkReset p n => cases ht; exact hP.congr (State.stock_onUnit _ _ _) hs
  | responsePlaced p => cases ht; exact hP.congr (stock_placeResponse _ _) hs
  | resetAssert => cases ht; exact hP.reset _
  | resetRelease =>
    cases ht
    split
    · refine hP.congr ?_ hs
      rfl
    · exact hs
  | secondAdvance =>
    cases ht
    split
    · exact hs
    · exact hP.congr s.stock_advanceSecond hs
  | slotExpiry => cases ht; exact hP.congr s.stock_slotExpiry hs
  | idleExpiry n => cases ht; exact hP.congr (s.stock_idleReached n) hs

/-- Every step keeps a law of the stock. -/
theorem step {t : State} (hq : Q s) (hs : P s) (h : step s = .next t) : P t := by
  unfold Machine.step at h
  split at h
  · next rest _ =>
    have hrest : P { s with pending := rest } := by
      refine hP.congr ?_ hs
      rfl
    exact hP.exec (hP.ambient (s := s) (t := { s with pending := rest }) rfl hq) hrest h
  · cases h
    exact hP.congr (State.stock_idleStep _) hs

end StockLaw

end Sys2Proof.Machine

/-! ### Copy maps, hold queues and claims after each act -/

namespace Sys2Proof.Machine

variable (s : State)

def State.claim (n : Nat) : Option Claim :=
  (s.order n).map Order.claim

def State.lending (l : Nat) : Option LoanCore :=
  (s.loan l).map Loan.core

theorem Table.look_map {α β : Type} (t : Table α) (g : α → β) (n : Nat) :
    Table.look (t.map (fun e => (e.1, g e.2))) n = (t.look n).map g := by
  induction t with
  | nil => rfl
  | cons a rest ih =>
    obtain ⟨k, v⟩ := a
    by_cases hk : k = n
    · simp [Table.look, hk]
    · simpa [Table.look, hk] using ih

theorem State.claim_congr {s t : State} (h : t.stock = s.stock) (n : Nat) : t.claim n = s.claim n := by
  have hclaim : ∀ u : State, u.stock.claims.look n = u.claim n := fun u => Table.look_map ..
  rw [← hclaim, h, hclaim]

theorem State.lending_congr {s t : State} (h : t.stock = s.stock) (l : Nat) : t.lending l = s.lending l := by
  have hlending : ∀ u : State, u.stock.loans.look l = u.lending l := fun u => Table.look_map ..
  rw [← hlending, h, hlending]

theorem State.title_congr {s t : State} (h : t.stock = s.stock) (n : Nat) : t.title n = s.title n :=
  congrArg (fun h : Stock => h.titles.look n) h

/-! #### One entry of a copy map -/

theorem getD_set_cases {copies : List Copy} {i j : Nat} {x y : Copy} (h : (copies.set i x).getD j .absent = y) :
    (j = i ∧ y = x) ∨ (j ≠ i ∧ copies.getD j .absent = y) ∨ y = .absent := by
  by_cases hji : j = i
  · subst hji
    by_cases hlt : j < copies.length
    · exact .inl ⟨rfl, by simpa [List.getD_eq_getElem?_getD, hlt] using h.symm⟩
    · exact .inr (.inr (by simpa [List.getD_eq_getElem?_getD, hlt] using h.symm))
  · exact .inr (.inl ⟨hji, by simpa [List.getD_eq_getElem?_getD, List.getElem?_set_ne (Ne.symm hji)] using h⟩)

theorem onShelfCount_cons (c : Copy) (rest : List Copy) :
    onShelfCount (c :: rest) = onShelfCount rest + if c = .onShelf then 1 else 0 := by
  simp [onShelfCount, List.countP_cons]

theorem copiesTotal_cons (c : Copy) (rest : List Copy) :
    copiesTotal (c :: rest) = copiesTotal rest + if c = .absent then 0 else 1 := by
  by_cases hc : c = .absent <;> simp [copiesTotal, hc]

/-- R36: an entry stays as it is, or turns from ON_SHELF to ABSENT. -/
theorem withdrawCopies_getD_cases (copies : List Copy) (k i : Nat) :
    (withdrawCopies copies k).getD i .absent = copies.getD i .absent ∨
      (copies.getD i .absent = .onShelf ∧ (withdrawCopies copies k).getD i .absent = .absent) := by
  induction copies generalizing i with
  | nil => exact .inl rfl
  | cons c rest ih =>
    simp only [withdrawCopies]
    cases i with
    | zero =>
      split
      · next h => exact .inr ⟨h.1, rfl⟩
      · exact .inl rfl
    | succ j => split <;> simpa only [List.getD_cons_succ] using ih j

/-! #### Copies allocated and shelved (R30, R31) -/

theorem State.title_onTitle (t j : Nat) (f : Title → Title) :
    (s.onTitle t f).title j = if j = t then (s.title t).map f else s.title j :=
  Table.look_alter ..

theorem State.claim_onTitle (t : Nat) (f : Title → Title) (n : Nat) : (s.onTitle t f).claim n = s.claim n := rfl
theorem State.lending_onTitle (t : Nat) (f : Title → Title) (l : Nat) : (s.onTitle t f).lending l = s.lending l := rfl

theorem State.title_allocate (t i n j : Nat) : (s.allocate t i n).title j =
    if j = t then (s.title t).map (fun v => (v.setCopy i (.allocated n)).leaveHold n) else s.title j :=
  s.title_onTitle t j (fun v => (v.setCopy i (.allocated n)).leaveHold n)

theorem State.lending_allocate (t i n l : Nat) : (s.allocate t i n).lending l = s.lending l := rfl

theorem State.claim_allocate (t i n m : Nat) : (s.allocate t i n).claim m =
    if m = n then (s.claim n).map (fun c => { c with copy := some i }) else s.claim m := by
  simp only [State.claim, State.order, State.allocate, State.raise_book, State.onOrder_book, Table.look_alter]
  split
  · rw [Option.map_map, Option.map_map]
    rfl
  · rfl

/-- R31: a copy on the shelf is there to stay, or goes to the order at the head of the hold queue. -/
theorem State.shelve_cases (t i : Nat) : (∃ copies n rest, s.title t = some (.braille copies (n :: rest)) ∧
      s.shelve t i = (s.onTitle t (fun v => v.setCopy i .onShelf)).allocate t i n) ∨
    ((∀ copies hold, s.title t = some (.braille copies hold) → hold = []) ∧
      s.shelve t i = s.onTitle t (fun v => v.setCopy i .onShelf)) := by
  have htitle : (s.onTitle t (fun v => v.setCopy i .onShelf)).title t = (s.title t).map (fun v => v.setCopy i .onShelf) :=
    (s.title_onTitle t t _).trans (if_pos rfl)
  simp only [State.shelve]
  split
  · next n rest h =>
    obtain ⟨v, hv, hset⟩ := Option.map_eq_some_iff.1 (htitle.symm.trans h)
    cases v with
    | cartridge _ _ => cases hset
    | braille copies hold =>
      cases hset
      exact .inl ⟨_, _, _, hv, rfl⟩
  · next hnone =>
    refine .inr ⟨fun copies hold hv => ?_, rfl⟩
    cases hold with
    | nil => rfl
    | cons n rest => exact absurd (by rw [htitle, hv]; rfl) (hnone (copies.set i .onShelf) n rest)

theorem State.title_shelve_other {t j : Nat} (i : Nat) (hj : j ≠ t) : (s.shelve t i).title j = s.title j := by
  rcases s.shelve_cases t i with ⟨_, _, _, -, h⟩ | ⟨-, h⟩ <;> simp [h, State.title_allocate, State.title_onTitle, hj]

end Sys2Proof.Machine

/-! ### The fifth law of the device (R31) -/

namespace Sys2Proof.Machine

variable {s : State}

/-- R31: no order waits for a title while a copy of it is on the shelf. -/
def Title.Shut (v : Title) : Prop :=
  v.hold ≠ [] → ∀ c ∈ v.copies, c ≠ .onShelf

theorem Title.shut_of_hold_nil {v : Title} (h : v.hold = []) : v.Shut :=
  fun hne => absurd h hne

theorem Title.Shut.allocate {v : Title} (h : v.Shut) (i n : Nat) : ((v.setCopy i (.allocated n)).leaveHold n).Shut := by
  cases v with
  | cartridge _ _ => exact shut_of_hold_nil rfl
  | braille copies hold =>
    intro hne c hc
    have hhold : hold ≠ [] := by
      rintro rfl
      exact hne rfl
    rcases List.mem_or_eq_of_mem_set hc with hc | rfl
    · exact h hhold c hc
    · nofun

theorem Title.Shut.setCopy {v : Title} (h : v.Shut) (i : Nat) {x : Copy} (hx : x ≠ .onShelf) : (v.setCopy i x).Shut := by
  cases v with
  | cartridge _ _ => exact shut_of_hold_nil rfl
  | braille copies hold =>
    intro hne c hc
    rcases List.mem_or_eq_of_mem_set hc with hc | rfl
    · exact h hne c hc
    · exact hx

theorem Title.Shut.leaveHold {v : Title} (h : v.Shut) (n : Nat) : (v.leaveHold n).Shut := by
  cases v with
  | cartridge _ _ => exact shut_of_hold_nil rfl
  | braille copies hold =>
    refine fun hne => h ?_
    rintro rfl
    exact hne rfl

/-- R36: withdrawing copies puts none on the shelf. -/
theorem Title.Shut.withdraw {copies : List Copy} {hold : List Nat} (h : (Title.braille copies hold).Shut) (k : Nat) :
    (Title.braille (withdrawCopies copies k) hold).Shut := by
  intro hne c hc hon
  obtain ⟨i, hi, hget⟩ := List.getElem_of_mem hc
  have hlt : i < copies.length := withdrawCopies_length copies k ▸ hi
  have hshelf : (withdrawCopies copies k).getD i .absent = .onShelf :=
    (List.getD_eq_getElem _ _ hi).trans (hget.trans hon)
  rcases withdrawCopies_getD_cases copies k i with heq | ⟨-, habsent⟩
  · rw [heq] at hshelf
    exact h hne copies[i] (List.getElem_mem hlt) (by simpa [hlt] using hshelf)
  · cases hshelf.symm.trans habsent

theorem State.HoldLaw.shut (h : s.HoldLaw) {t : Nat} {v : Title} (hv : s.title t = some v) : v.Shut :=
  h.2 (t, v) (Table.mem_of_look _ hv)

/-- An act that changes one title, or none. -/
theorem State.HoldLaw.of_title {u : State} (h : s.HoldLaw) (t : Nat) (hw : u.titles.wf = true)
    (hother : ∀ j, j ≠ t → u.title j = s.title j) (hat : ∀ v, u.title t = some v → v.Shut) : u.HoldLaw := by
  refine ⟨hw, fun e he => ?_⟩
  have hlook : u.title e.1 = some e.2 := Table.look_of_mem _ hw he
  by_cases ht : e.1 = t
  · exact hat e.2 (ht ▸ hlook)
  · exact h.shut ((hother _ ht).symm.trans hlook)

theorem State.HoldLaw.wf_of_shape {u : State} (h : s.HoldLaw) (hshape : u.shape = s.shape) : u.titles.wf = true :=
  Table.wf_of_keys (congrArg Shape.titles hshape) h.1

theorem State.HoldLaw.of_titles {u : State} (h : s.HoldLaw) (ht : u.titles = s.titles) : u.HoldLaw := by
  unfold State.HoldLaw
  rwa [ht]

theorem State.HoldLaw.onTitle (h : s.HoldLaw) (t : Nat) {f : Title → Title}
    (hf : ∀ v, s.title t = some v → v.Shut → (f v).Shut) : (s.onTitle t f).HoldLaw := by
  refine h.of_title t (h.wf_of_shape (s.shape_onTitle t f)) (fun j hj => ?_) (fun v hv => ?_)
  · rw [State.title_onTitle, if_neg hj]
  · rw [State.title_onTitle, if_pos rfl] at hv
    obtain ⟨w, hw, rfl⟩ := Option.map_eq_some_iff.1 hv
    exact hf w hw (h.shut hw)

theorem State.HoldLaw.allocate (h : s.HoldLaw) (t i n : Nat) : (s.allocate t i n).HoldLaw :=
  (h.onTitle t (fun _ _ hv => hv.allocate i n)).of_titles rfl

theorem State.HoldLaw.shelve (h : s.HoldLaw) (t i : Nat) : (s.shelve t i).HoldLaw := by
  rcases s.shelve_cases t i with ⟨copies, n, rest, ht, heq⟩ | ⟨hnil, heq⟩
  · rw [heq]
    refine h.of_title t (h.wf_of_shape (by simp)) (fun j hj => ?_) (fun v hv => ?_)
    · rw [State.title_allocate, if_neg hj, State.title_onTitle, if_neg hj]
    · rw [State.title_allocate, if_pos rfl, State.title_onTitle, if_pos rfl, ht] at hv
      cases hv
      intro _ c hc
      have hc : c ∈ (copies.set i .onShelf).set i (.allocated n) := hc
      rw [List.set_set] at hc
      rcases List.mem_or_eq_of_mem_set hc with hc | rfl
      · exact h.shut ht nofun c hc
      · nofun
  · rw [heq]
    refine h.onTitle t (fun v hv _ => Title.shut_of_hold_nil ?_)
    cases v with
    | cartridge _ _ => rfl
    | braille copies hold => exact hnil copies hold hv

theorem State.HoldLaw.createOrder (h : s.HoldLaw) (p title : Nat) (pr : Priority) : (s.createOrder p title pr).HoldLaw := by
  cases ht : s.title title with
  | none => rwa [s.createOrder_of_no_title ht]
  | some t =>
    have hentered : ∀ f, (s.enterOrder s.nextOrder p title f pr).HoldLaw := fun f => h
    cases t with
    | cartridge size sel =>
      rw [s.createOrder_cartridge ht]
      exact (hentered .cartridge).of_titles (by simp)
    | braille copies hold =>
      cases hlow : lowestOnShelf copies with
      | some i =>
        rw [s.createOrder_picked ht p pr hlow]
        exact (hentered _).allocate ..
      | none =>
        rw [s.createOrder_held ht p pr hlow]
        refine (hentered _).onTitle title (fun v hv _ => ?_)
        cases (show s.title title = some v from hv).symm.trans ht
        exact fun _ c hc => by simpa using List.findIdx?_eq_none_iff.1 hlow c hc

theorem State.HoldLaw.dispatchOrder (h : s.HoldLaw) (n : Nat) : (s.dispatchOrder n).HoldLaw := by
  unfold State.dispatchOrder
  split
  · exact h
  · next o _ =>
    have hlent : (s.lend n o).HoldLaw := h
    dsimp only
    split
    · exact hlent
    · exact hlent.onTitle _ (fun v _ hv => hv.setCopy _ nofun)

/-- R31: every act keeps the fifth law. -/
theorem holdLaw_stockLaw : StockLaw (fun _ => True) State.HoldLaw where
  congr h hs := hs.of_titles (congrArg Stock.titles h)
  ambient _ _ := trivial
  created p title pr hs _ := hs.createOrder p title pr
  shelved title i hs := hs.shelve title i
  cancelled {s n o} _ hs _ _ := by
    have hdropped : (s.dropOrder n).HoldLaw := hs
    unfold State.releaseItem
    split
    · exact hdropped
    · exact hdropped.onTitle _ (fun v _ hv => hv.leaveHold n)
    · exact hdropped.of_titles (by simp)
    · exact hdropped.of_titles (by simp)
    · split
      · exact hdropped.shelve _ _
      · exact hdropped.of_titles (by simp)
      · exact hdropped
      · exact hdropped
    · exact hdropped
    · exact hdropped
  returned {s n l} condition hs _ := by
    have hclosed : (s.closeLoan n l).HoldLaw := hs
    unfold State.sendOn
    split
    · split
      · exact hclosed
      · exact hclosed
    · split
      · exact hclosed.shelve _ _
      · exact hclosed.onTitle _ (fun v _ hv => hv.setCopy _ nofun)
  dispatched gone _ hs := List.foldlRecOn _ _ hs (fun s hs n _ => hs.dispatchOrder n)
  loaded {s title v} hs _ hv := by
    refine hs.of_title title (Table.wf_put _ _ _ hs.1) (fun j hj => Table.look_put_other _ _ hj) (fun w hw => ?_)
    cases (Table.look_put_same s.titles title v).symm.trans hw
    cases hv <;> exact Title.shut_of_hold_nil rfl
  resized size sel hs _ := hs.onTitle _ (fun _ _ _ => Title.shut_of_hold_nil rfl)
  withdrawn k hs ht := hs.onTitle _ (fun v hv hshut => by
    cases ht.symm.trans hv
    exact hshut.withdraw k)
  dropped title hs := by
    refine hs.of_title title (Table.wf_drop _ _ hs.1) (fun j hj => Table.look_drop_other _ hj) (fun w hw => ?_)
    cases (Table.look_drop_same _ title).symm.trans hw
  reset q := ⟨rfl, nofun⟩

end Sys2Proof.Machine

/-! ### The fourth law of the device (R27 to R29) -/

namespace Sys2Proof.Machine

variable {s u : State}

/-! #### Numbers left for orders and loans -/

/-- R7, R8, R145: what leaves a number free for one more order or loan. -/
structure State.Numbered (s : State) : Prop where
  orderCounter : 1 ≤ s.book.counter ∧ s.book.counter ≤ maxNumber
  loanCounter : 1 ≤ s.loans.counter ∧ s.loans.counter ≤ maxNumber
  room : s.book.orders.length + s.loans.loans.length ≤ maxCirculation

theorem State.Numbered.congr (hs : s.Numbered) (h : u.shape = s.shape) : u.Numbered := by
  have horder : u.book.counter = s.book.counter := congrArg Shape.orderCounter h
  have hloan : u.loans.counter = s.loans.counter := congrArg Shape.loanCounter h
  have horders : u.book.orders.length = s.book.orders.length := by
    simpa [State.shape] using congrArg (fun h => h.owners.length) h
  have hloans : u.loans.loans.length = s.loans.loans.length := by
    simpa [State.shape] using congrArg (fun h => h.borrowers.length) h
  obtain ⟨h1, h2, h3⟩ := hs
  exact ⟨horder ▸ h1, hloan ▸ h2, by rwa [horders, hloans]⟩

theorem State.Numbered.of_stock (hs : s.Numbered) (h : u.stock = s.stock) : u.Numbered := by
  have horder : u.book.counter = s.book.counter := congrArg Stock.orderCounter h
  have hloan : u.loans.counter = s.loans.counter := congrArg Stock.loanCounter h
  have horders : u.book.orders.length = s.book.orders.length := by
    simpa [State.stock] using congrArg (fun h => h.claims.length) h
  have hloans : u.loans.loans.length = s.loans.loans.length := by
    simpa [State.stock] using congrArg (fun h => h.loans.length) h
  obtain ⟨h1, h2, h3⟩ := hs
  exact ⟨horder ▸ h1, hloan ▸ h2, by rwa [horders, hloans]⟩

theorem State.Numbered.nextOrder_free (hs : s.Numbered) : s.order s.nextOrder = none := by
  obtain ⟨⟨h1, h2⟩, -, h3⟩ := hs
  exact assignNumber_free _ h1 h2 (by simp only [maxNumber, maxCirculation] at *; omega)

theorem State.Numbered.nextLoan_free (hs : s.Numbered) :
    s.loan (assignNumber maxNumber s.loans.loans s.loans.counter) = none := by
  obtain ⟨-, ⟨h1, h2⟩, h3⟩ := hs
  exact assignNumber_free _ h1 h2 (by simp only [maxNumber, maxCirculation] at *; omega)

theorem State.Numbered.enterOrder (hs : s.Numbered) (hroom : s.hasRoom = true) (n p title : Nat) (f : Format)
    (pr : Priority) : (s.enterOrder n p title f pr).Numbered := by
  obtain ⟨-, h2, h3⟩ := hs
  have hlen := Table.length_put_le s.book.orders n (s.newOrder p title f pr)
  simp only [State.hasRoom, Bool.and_eq_true, decide_eq_true_eq] at hroom
  refine ⟨nextNumber_range (by decide), h2, ?_⟩
  show (s.book.orders.put n _).length + s.loans.loans.length ≤ maxCirculation
  omega

theorem State.Numbered.dropOrder (hs : s.Numbered) (n : Nat) : (s.dropOrder n).Numbered := by
  obtain ⟨h1, h2, h3⟩ := hs
  exact ⟨h1, h2, (Nat.add_le_add_right (Table.length_drop_le _ _) _).trans h3⟩

theorem State.Numbered.closeLoan (hs : s.Numbered) (n : Nat) (l : Loan) : (s.closeLoan n l).Numbered := by
  obtain ⟨h1, h2, h3⟩ := hs
  exact ⟨h1, h2, (Nat.add_le_add_left (Table.length_drop_le _ _) _).trans h3⟩

/-- R140: an order makes room for its loan. -/
theorem State.Numbered.lend (hs : s.Numbered) {n : Nat} {o : Order} (ho : s.order n = some o) : (s.lend n o).Numbered := by
  obtain ⟨h1, -, h3⟩ := hs
  have hdrop := Table.length_drop_lt _ ho
  have hput := Table.length_put_le s.loans.loans (assignNumber maxNumber s.loans.loans s.loans.counter) (s.newLoan o)
  refine ⟨h1, nextNumber_range (by decide), ?_⟩
  show (s.book.orders.drop n).length + (s.loans.loans.put _ _).length ≤ maxCirculation
  omega

/-! #### A title backed by orders and loans -/

/-- R27 to R29: a title's copy map and hold queue name orders and loans that name them in turn. -/
structure State.Backs (s : State) (t : Nat) (v : Title) : Prop where
  size : ∀ size ∈ v.size, 1 ≤ size ∧ size ≤ maxImage
  length : v.format = .braille → v.copies.length = copyEntries
  nodup : v.hold.Nodup
  waits : ∀ n ∈ v.hold, s.claim n = some ⟨t, .braille, none⟩
  allocated : ∀ i n, v.copies.getD i .absent = .allocated n → s.claim n = some ⟨t, .braille, some i⟩
  onLoan : ∀ i l, v.copies.getD i .absent = .onLoan l → s.lending l = some ⟨t, .copy i⟩

/-- Every title is backed, and only an order for a braille title has a copy. -/
structure State.Backed (s : State) : Prop where
  numbered : s.Numbered
  title : ∀ t v, s.title t = some v → s.Backs t v
  cartridge : ∀ n c, s.claim n = some c → c.format = .cartridge → c.copy = none

theorem State.Backs.mono {t : Nat} {v : Title} (h : s.Backs t v)
    (hclaim : ∀ n c, s.claim n = some c → c.title = t → u.claim n = some c)
    (hlending : ∀ l w, s.lending l = some w → w.title = t → u.lending l = some w) : u.Backs t v where
  size := h.size
  length := h.length
  nodup := h.nodup
  waits n hn := hclaim n _ (h.waits n hn) rfl
  allocated i n hi := hclaim n _ (h.allocated i n hi) rfl
  onLoan i l hi := hlending l _ (h.onLoan i l hi) rfl

/-- A cartridge title names no order and no loan. -/
theorem State.Backs.cartridge {t size : Nat} {sel : Selector} (h : 1 ≤ size ∧ size ≤ maxImage) :
    s.Backs t (.cartridge size sel) where
  size := by
    rintro _ ⟨⟩
    exact h
  length := nofun
  nodup := List.nodup_nil
  waits := nofun
  allocated := nofun
  onLoan := nofun

/-- A title whose entries and hold queue have only become fewer. -/
theorem State.Backs.fewer {t : Nat} {copies copies' : List Copy} {hold hold' : List Nat}
    (h : s.Backs t (.braille copies hold)) (hlen : copies'.length = copies.length) (hsub : hold'.Sublist hold)
    (hcopies : ∀ i, copies'.getD i .absent = copies.getD i .absent ∨ copies'.getD i .absent = .absent ∨
      copies'.getD i .absent = .onShelf)
    (hclaim : ∀ n, n ∈ hold' ∨ (∃ i, copies'.getD i .absent = .allocated n) → u.claim n = s.claim n)
    (hlending : ∀ l, (∃ i, copies'.getD i .absent = .onLoan l) → u.lending l = s.lending l) :
    u.Backs t (.braille copies' hold') where
  size := nofun
  length _ := hlen.trans (h.length rfl)
  nodup := h.nodup.sublist hsub
  waits n hn := (hclaim n (.inl hn)).trans (h.waits n (hsub.subset hn))
  allocated i n hi := by
    have hi : copies'.getD i .absent = .allocated n := hi
    rcases hcopies i with heq | habs | hon
    · exact (hclaim n (.inr ⟨i, hi⟩)).trans (h.allocated i n (heq.symm.trans hi))
    · cases habs.symm.trans hi
    · cases hon.symm.trans hi
  onLoan i l hi := by
    have hi : copies'.getD i .absent = .onLoan l := hi
    rcases hcopies i with heq | habs | hon
    · exact (hlending l ⟨i, hi⟩).trans (h.onLoan i l (heq.symm.trans hi))
    · cases habs.symm.trans hi
    · cases hon.symm.trans hi

namespace State.Backed

theorem of_stock (hs : s.Backed) (h : u.stock = s.stock) : u.Backed where
  numbered := hs.numbered.of_stock h
  title t v hv := by
    refine (hs.title t v ((State.title_congr h t).symm.trans hv)).mono (fun n c hc _ => ?_) (fun l w hw _ => ?_)
    · rwa [State.claim_congr h]
    · rwa [State.lending_congr h]
  cartridge n c hc := hs.cartridge n c ((State.claim_congr h n).symm.trans hc)

/-- An act on one title, and on orders and loans of that title. -/
theorem change (hs : s.Backed) (t : Nat) (hnum : u.Numbered) (hother : ∀ j, j ≠ t → u.title j = s.title j)
    (hat : ∀ v, u.title t = some v → u.Backs t v)
    (hclaim : ∀ n c, s.claim n = some c → c.title ≠ t → u.claim n = some c)
    (hlending : ∀ l w, s.lending l = some w → w.title ≠ t → u.lending l = some w)
    (hcart : ∀ n c, u.claim n = some c → c.format = .cartridge → c.copy = none) : u.Backed where
  numbered := hnum
  title j v hv := by
    by_cases hj : j = t
    · subst hj
      exact hat v hv
    · exact (hs.title j v ((hother j hj).symm.trans hv)).mono (fun n c hc h => hclaim n c hc (h ▸ hj))
        (fun l w hw h => hlending l w hw (h ▸ hj))
  cartridge := hcart

/-- An act on one title alone. -/
theorem onTitle (hs : s.Backed) (t : Nat) {f : Title → Title}
    (hf : ∀ v, s.title t = some v → s.Backs t v → s.Backs t (f v)) : (s.onTitle t f).Backed := by
  refine hs.change t (hs.numbered.congr (s.shape_onTitle t f)) (fun j hj => ?_) (fun v hv => ?_) (fun _ _ h _ => h)
    (fun _ _ h _ => h) hs.cartridge
  · rw [State.title_onTitle, if_neg hj]
  · rw [State.title_onTitle, if_pos rfl] at hv
    obtain ⟨w, hw, rfl⟩ := Option.map_eq_some_iff.1 hv
    exact (hf w hw (hs.title t w hw)).mono (fun _ _ h _ => h) (fun _ _ h _ => h)

/-! #### Copies allocated and shelved -/

theorem allocate (hs : s.Backed) {t n : Nat} (i : Nat) (hn : s.claim n = some ⟨t, .braille, none⟩) :
    (s.allocate t i n).Backed := by
  have hself : (s.allocate t i n).claim n = some ⟨t, .braille, some i⟩ := by
    rw [State.claim_allocate, if_pos rfl, hn]
    rfl
  have hclaim : ∀ m, m ≠ n → (s.allocate t i n).claim m = s.claim m := fun m hm => by
    rw [State.claim_allocate, if_neg hm]
  refine hs.change t (hs.numbered.congr (s.shape_allocate t i n)) (fun j hj => ?_) (fun v hv => ?_) (fun m c hc ht => ?_)
    (fun _ _ h _ => h) (fun m c hc hf => ?_)
  · rw [State.title_allocate, if_neg hj]
  · rw [State.title_allocate, if_pos rfl] at hv
    obtain ⟨w, hw, rfl⟩ := Option.map_eq_some_iff.1 hv
    have hback := hs.title t w hw
    cases w with
    | cartridge size sel => exact .cartridge (hback.size size rfl)
    | braille copies hold =>
      refine ⟨nofun, fun _ => (List.length_set ..).trans (hback.length rfl), hback.nodup.filter _, fun m hm => ?_,
        fun j m hj => ?_, fun j l hj => ?_⟩
      · obtain ⟨hm, hne⟩ := List.mem_filter.1 hm
        exact (hclaim m (by simpa using hne)).trans (hback.waits m hm)
      · rcases getD_set_cases hj with ⟨rfl, h⟩ | ⟨-, h⟩ | h
        · cases h
          exact hself
        · have hm := hback.allocated j m h
          refine (hclaim m ?_).trans hm
          rintro rfl
          cases hn.symm.trans hm
        · cases h
      · rcases getD_set_cases hj with ⟨-, h⟩ | ⟨-, h⟩ | h
        · cases h
        · exact hback.onLoan j l h
        · cases h
  · rw [hclaim m ?_, hc]
    rintro rfl
    cases hn.symm.trans hc
    exact ht rfl
  · by_cases hm : m = n
    · subst hm
      cases hself.symm.trans hc
      cases hf
    · exact hs.cartridge m c ((hclaim m hm).symm.trans hc) hf

/-- R31: a copy that reaches the shelf may go on to the order at the head of the hold queue. -/
theorem shelve {t i : Nat} (h : (s.onTitle t (fun v => v.setCopy i .onShelf)).Backed) : (s.shelve t i).Backed := by
  rcases s.shelve_cases t i with ⟨copies, n, rest, ht, heq⟩ | ⟨-, heq⟩
  · rw [heq]
    refine h.allocate i ((h.title t (.braille (copies.set i .onShelf) (n :: rest)) ?_).waits n (List.mem_cons_self ..))
    rw [State.title_onTitle, if_pos rfl, ht]
    rfl
  · rwa [heq]

/-- An entry of a copy map is set, while the order or the loan leaves that it was for. -/
theorem replaced (hs : s.Backed) {w : State} {t i : Nat} {x : Copy} (hx : ∀ n, x ≠ .allocated n)
    (hloan : ∀ l, x = .onLoan l → w.lending l = some ⟨t, .copy i⟩) (hnum : w.Numbered) (htitles : w.titles = s.titles)
    (hclaim : ∀ n c, s.claim n = some c → w.claim n = some c ∨ (w.claim n = none ∧ c = ⟨t, .braille, some i⟩))
    (hlending : ∀ l v, s.lending l = some v → w.lending l = some v ∨ v = ⟨t, .copy i⟩)
    (hcart : ∀ n c, w.claim n = some c → c.format = .cartridge → c.copy = none) :
    (w.onTitle t (fun v => v.setCopy i x)).Backed := by
  have htitle : ∀ j, w.title j = s.title j := fun j => congrArg (fun t => Table.look t j) htitles
  refine hs.change t (hnum.congr (w.shape_onTitle t _)) (fun j hj => ?_) (fun v hv => ?_) (fun n c hc hne => ?_)
    (fun l v hv hne => ?_) hcart
  · rw [State.title_onTitle, if_neg hj, htitle]
  · rw [State.title_onTitle, if_pos rfl, htitle] at hv
    obtain ⟨u, hu, rfl⟩ := Option.map_eq_some_iff.1 hv
    have hback := hs.title t u hu
    cases u with
    | cartridge size sel => exact .cartridge (hback.size size rfl)
    | braille copies hold =>
      refine ⟨nofun, fun _ => (List.length_set ..).trans (hback.length rfl), hback.nodup, fun m hm => ?_,
        fun j m hj => ?_, fun j l hj => ?_⟩
      · exact (hclaim m _ (hback.waits m hm)).resolve_right (fun h => nomatch h.2)
      · rcases getD_set_cases hj with ⟨-, h⟩ | ⟨hne, hj⟩ | h
        · exact absurd h.symm (hx m)
        · refine (hclaim m _ (hback.allocated j m hj)).resolve_right (fun h => hne ?_)
          injection h.2 with _ _ h
          injection h
        · cases h
      · rcases getD_set_cases hj with ⟨rfl, h⟩ | ⟨hne, hj⟩ | h
        · exact hloan l h.symm
        · refine (hlending l _ (hback.onLoan j l hj)).resolve_right (fun h => hne ?_)
          injection h with _ h
          injection h
        · cases h
  · exact (hclaim n c hc).resolve_right (fun h => hne (by rw [h.2]))
  · exact (hlending l v hv).resolve_right (fun h => hne (by rw [h]))

theorem shelved (hs : s.Backed) (t i : Nat) : (s.shelve t i).Backed :=
  shelve (hs.replaced nofun nofun hs.numbered rfl (fun _ _ h => .inl h) (fun _ _ h => .inl h) hs.cartridge)

/-! #### Orders created -/

theorem claim_enterOrder (n m p title : Nat) (f : Format) (pr : Priority) : (s.enterOrder n p title f pr).claim m =
    if m = n then some ⟨title, f, none⟩ else s.claim m := by
  simp only [State.claim, State.order, State.enterOrder, Table.look_put]
  split <;> rfl

/-- R13: an order enters the book under a free number. -/
theorem enterOrder (hs : s.Backed) (hroom : s.hasRoom = true) (p title : Nat) (f : Format) (pr : Priority) :
    (s.enterOrder s.nextOrder p title f pr).Backed := by
  have hfree : s.claim s.nextOrder = none := congrArg (Option.map Order.claim) hs.numbered.nextOrder_free
  have hkept : ∀ m c, s.claim m = some c → (s.enterOrder s.nextOrder p title f pr).claim m = some c := by
    intro m c hc
    rw [claim_enterOrder, if_neg, hc]
    rintro rfl
    cases hfree.symm.trans hc
  refine ⟨hs.numbered.enterOrder hroom .., fun t v hv => ?_, fun m c hc hf => ?_⟩
  · exact (hs.title t v hv).mono (fun m c hc _ => hkept m c hc) (fun _ _ h _ => h)
  · rw [claim_enterOrder] at hc
    split at hc
    · cases hc
      rfl
    · exact hs.cartridge m c hc hf

/-- R29: an order joins the hold queue of its title. -/
theorem joinHold (hs : s.Backed) {t n : Nat} (rush : Nat → Bool) (hn : s.claim n = some ⟨t, .braille, none⟩)
    (hnew : ∀ v, s.title t = some v → n ∉ v.hold) : (s.onTitle t (Title.joinHold rush n)).Backed := by
  refine hs.onTitle t (fun v hv hback => ?_)
  cases v with
  | cartridge _ _ => exact hback
  | braille copies hold =>
    have hperm := joinTail_perm rush n hold
    refine ⟨nofun, hback.length, hperm.nodup_iff.2 (List.nodup_cons.2 ⟨hnew _ hv, hback.nodup⟩), fun m hm => ?_,
      hback.allocated, hback.onLoan⟩
    rcases List.mem_cons.1 (hperm.mem_iff.1 hm) with rfl | hm
    · exact hn
    · exact hback.waits m hm

theorem createOrder (hs : s.Backed) (hroom : s.hasRoom = true) (p title : Nat) (pr : Priority) :
    (s.createOrder p title pr).Backed := by
  have hfree : s.claim s.nextOrder = none := congrArg (Option.map Order.claim) hs.numbered.nextOrder_free
  have hentered := fun f => hs.enterOrder hroom p title f pr
  have hclaim : (s.enterOrder s.nextOrder p title .braille pr).claim s.nextOrder = some ⟨title, .braille, none⟩ := by
    rw [claim_enterOrder, if_pos rfl]
  cases ht : s.title title with
  | none => rwa [s.createOrder_of_no_title ht]
  | some t =>
    cases t with
    | cartridge size sel =>
      rw [s.createOrder_cartridge ht]
      exact (hentered .cartridge).of_stock (by simp [State.joinPending])
    | braille copies hold =>
      cases hlow : lowestOnShelf copies with
      | some i =>
        rw [s.createOrder_picked ht p pr hlow]
        exact (hentered .braille).allocate i hclaim
      | none =>
        rw [s.createOrder_held ht p pr hlow]
        refine (hentered .braille).joinHold _ hclaim (fun v hv hmem => ?_)
        cases hfree.symm.trans ((hs.title title v hv).waits _ hmem)

/-! #### Orders that leave the book -/

theorem claim_dropOrder (n m : Nat) : (s.dropOrder n).claim m = if m = n then none else s.claim m := by
  simp only [State.claim, State.order, State.dropOrder, Table.look_drop]
  split <;> rfl

theorem claim_of_dropOrder {n m : Nat} {c : Claim} (h : (s.dropOrder n).claim m = some c) : m ≠ n ∧ s.claim m = some c := by
  rw [claim_dropOrder] at h
  split at h
  · cases h
  · next hm => exact ⟨hm, h⟩

/-- An order that no title names leaves the book. -/
theorem dropOrder (hs : s.Backed) {n : Nat} (hhold : ∀ t v, s.title t = some v → n ∉ v.hold)
    (hcopy : ∀ c, s.claim n = some c → c.copy = none) : (s.dropOrder n).Backed := by
  have hkept : ∀ m c, m ≠ n → s.claim m = some c → (s.dropOrder n).claim m = some c := fun m c hm hc => by
    rw [claim_dropOrder, if_neg hm, hc]
  refine ⟨hs.numbered.dropOrder n, fun t v hv => ?_, fun m c hc => hs.cartridge m c (claim_of_dropOrder hc).2⟩
  have hback := hs.title t v hv
  refine ⟨hback.size, hback.length, hback.nodup, fun m hm => hkept m _ ?_ (hback.waits m hm),
    fun i m hi => hkept m _ ?_ (hback.allocated i m hi), hback.onLoan⟩
  · rintro rfl
    exact hhold t v hv hm
  · rintro rfl
    cases hcopy _ (hback.allocated i m hi)

/-- R16: a WAITING_COPY order leaves its title's hold queue and the book. -/
theorem leaveHold (hs : s.Backed) {n t : Nat} (hn : s.claim n = some ⟨t, .braille, none⟩) :
    ((s.dropOrder n).onTitle t (fun v => v.leaveHold n)).Backed := by
  have hleft : (s.onTitle t (fun v => v.leaveHold n)).Backed := by
    refine hs.onTitle t (fun v _ hback => ?_)
    cases v with
    | cartridge _ _ => exact hback
    | braille copies hold =>
      exact hback.fewer rfl List.filter_sublist (fun i => .inl rfl) (fun _ _ => rfl) (fun _ _ => rfl)
  have hdropped : ((s.onTitle t (fun v => v.leaveHold n)).dropOrder n).Backed := by
    refine hleft.dropOrder (fun j v hv hmem => ?_) (fun c hc => ?_)
    · have hj : (⟨t, .braille, none⟩ : Claim) = ⟨j, .braille, none⟩ :=
        Option.some.inj (hn.symm.trans ((hleft.title j v hv).waits n hmem))
      injection hj with hj
      subst hj
      rw [State.title_onTitle, if_pos rfl] at hv
      obtain ⟨w, -, rfl⟩ := Option.map_eq_some_iff.1 hv
      cases w with
      | cartridge _ _ => cases hmem
      | braille copies hold => simp [Title.leaveHold, Title.hold] at hmem
    · cases hn.symm.trans hc
      rfl
  exact hdropped

/-- R16: an order that has a copy leaves the book, and its copy goes to the shelf. -/
theorem leaveCopy (hs : s.Backed) {n t i : Nat} (hn : s.claim n = some ⟨t, .braille, some i⟩) :
    ((s.dropOrder n).shelve t i).Backed := by
  refine shelve (hs.replaced nofun nofun (hs.numbered.dropOrder n) rfl (fun m c hc => ?_) (fun _ _ h => .inl h)
    (fun m c hc => hs.cartridge m c (claim_of_dropOrder hc).2))
  by_cases hm : m = n
  · subst hm
    cases hn.symm.trans hc
    exact .inr ⟨by rw [claim_dropOrder, if_pos rfl], rfl⟩
  · exact .inl (by rw [claim_dropOrder, if_neg hm, hc])

/-- R16: the item of a cancelled order, whatever it has. -/
theorem releaseItem (hs : s.Backed) (hsound : s.Sound) {n : Nat} {o : Order} (ho : s.order n = some o)
    (hst : o.state ≠ .packed) : ((s.dropOrder n).releaseItem n o).Backed := by
  have hplace := hsound.core.place n _ (State.scene_order ho)
  have hclaim : s.claim n = some o.claim := congrArg (Option.map Order.claim) ho
  have hunheld : o.state ≠ .waitingCopy → ∀ t v, s.title t = some v → n ∉ v.hold := by
    intro hst t v hv hn
    obtain ⟨-, hwaits⟩ := hsound.core.stocked t _ (State.scene_title hv)
    obtain ⟨_, ho', hwait, -⟩ := hwaits n hn
    cases (State.scene_order ho).symm.trans ho'
    exact hst hwait
  have hloose : o.state ≠ .waitingCopy → o.copy = none → (s.dropOrder n).Backed := by
    intro hst hcopy
    refine hs.dropOrder (hunheld hst) (fun c hc => ?_)
    cases hclaim.symm.trans hc
    exact hcopy
  have hrack : o.state = .writing ∨ o.state = .verifying → (s.dropOrder n).Backed := by
    intro hst
    obtain ⟨b, hb⟩ := hplace.bay_of_rack hst
    obtain ⟨c, hc⟩ := hplace.serial_of_bay hb
    exact hloose (by rcases hst with h | h <;> simp [h]) (hplace.copy_none (hplace.format_of_serial hc))
  unfold State.releaseItem
  split
  · next hst => exact (hloose (by simp [hst]) (hplace.loose (.inl hst)).2.2).of_stock (State.stock_setQueue ..)
  · next hst =>
    refine hs.leaveHold (hclaim.trans (congrArg some ?_))
    rw [Order.claim, show o.format = .braille from hplace.format_of_waiting hst,
      show o.copy = none from (hplace.loose (.inr (.inr hst))).2.2]
  · next hst => exact (hrack (.inl hst)).of_stock (by simp)
  · next hst => exact (hrack (.inr hst)).of_stock (by simp)
  · next hst =>
    split
    · next i hi =>
      obtain ⟨-, hf, -⟩ := hplace.of_copy hi
      refine hs.leaveCopy (hclaim.trans (congrArg some ?_))
      rw [Order.claim, show o.format = .braille from hf, hi]
    · next hcopy _ => exact (hloose (by simp [hst]) hcopy).of_stock (by simp)
    · next hcopy _ _ => exact (hloose (by simp [hst]) hcopy).of_stock (by simp)
    · next hcopy _ _ => exact hloose (by simp [hst]) hcopy
  · next h => exact absurd h hst
  · next hst => exact hloose (by simp [hst]) (hplace.loose (.inr (.inl hst))).2.2

/-! #### Loans opened and closed -/

theorem lending_closeLoan (n m : Nat) (l : Loan) :
    (s.closeLoan n l).lending m = if m = n then none else s.lending m := by
  simp only [State.lending, State.loan, State.closeLoan, Table.look_drop]
  split <;> rfl

/-- R153 to R155: a loan is closed, and its item sent on. -/
theorem returned (hs : s.Backed) {n : Nat} {l : Loan} (condition : Nat) (hl : s.loan n = some l) :
    ((s.closeLoan n l).sendOn l condition).Backed := by
  have hlending : s.lending n = some ⟨l.title, l.item⟩ := congrArg (Option.map Loan.core) hl
  have hkept : ∀ m w, s.lending m = some w → (s.closeLoan n l).lending m = some w ∨ w = ⟨l.title, l.item⟩ := by
    intro m w hw
    rw [lending_closeLoan]
    split
    · next hm =>
      subst hm
      exact .inr (Option.some.inj (hw.symm.trans hlending))
    · exact .inl hw
  unfold State.sendOn
  split
  · next c hitem =>
    have hclosed : (s.closeLoan n l).Backed := by
      refine ⟨hs.numbered.closeLoan n l, fun t v hv => ?_, hs.cartridge⟩
      have hback := hs.title t v hv
      refine ⟨hback.size, hback.length, hback.nodup, hback.waits, hback.allocated, fun i m hi => ?_⟩
      refine (hkept m _ (hback.onLoan i m hi)).resolve_right (fun h => ?_)
      rw [hitem] at h
      injection h with _ h
      cases h
    split
    · exact hclosed.of_stock (by simp)
    · exact hclosed.of_stock (by simp)
  · next i hitem =>
    rw [hitem] at hkept
    have hset : ∀ x, (∀ n, x ≠ .allocated n) → (∀ n, x ≠ .onLoan n) →
        ((s.closeLoan n l).onTitle l.title (fun t => t.setCopy i x)).Backed :=
      fun x hx hx' => hs.replaced hx (fun m h => absurd h (hx' m)) (hs.numbered.closeLoan n l) rfl
        (fun _ _ h => .inl h) hkept hs.cartridge
    split
    · exact shelve (hset _ nofun nofun)
    · exact hset _ nofun nofun

/-- R140: an order that no hold queue names becomes a loan under a free number. -/
theorem dispatchOrder (hs : s.Backed) {n : Nat}
    (hcopy : ∀ o, s.order n = some o → o.format = .braille → ∃ i, o.copy = some i) : (s.dispatchOrder n).Backed := by
  cases ho : s.order n with
  | none => rwa [s.dispatchOrder_of_none ho]
  | some o =>
    obtain ⟨k, hk⟩ : ∃ k, k = assignNumber maxNumber s.loans.loans s.loans.counter := ⟨_, rfl⟩
    have hfree : s.lending k = none := hk ▸ congrArg (Option.map Loan.core) hs.numbered.nextLoan_free
    have hclaim : s.claim n = some o.claim := congrArg (Option.map Order.claim) ho
    have hlend : ∀ l, (s.lend n o).lending l = if l = k then some ⟨o.title, o.item⟩ else s.lending l := by
      intro l
      simp only [State.lending, State.loan, State.lend, Table.look_put, hk]
      split <;> rfl
    have hlending : ∀ l w, s.lending l = some w → (s.lend n o).lending l = some w := by
      intro l w hw
      rw [hlend, if_neg, hw]
      rintro rfl
      cases hfree.symm.trans hw
    cases hf : o.format with
    | cartridge =>
      have hnone : o.copy = none := hs.cartridge n _ hclaim hf
      have hdropped : (s.dropOrder n).Backed := by
        refine hs.dropOrder (fun t v hv hmem => ?_) (fun c hc => ?_)
        · have hbraille := Option.some.inj (hclaim.symm.trans ((hs.title t v hv).waits n hmem))
          cases hf.symm.trans (congrArg Claim.format hbraille)
        · cases hclaim.symm.trans hc
          exact hnone
      have hlent : (s.lend n o).Backed := by
        refine ⟨hs.numbered.lend ho, fun t v hv => ?_, hdropped.cartridge⟩
        exact (hdropped.title t v hv).mono (fun _ _ h _ => h) (fun l w hw _ => hlending l w hw)
      have hitem : o.item = .cartridge (orZero o.serial) := by
        unfold Order.item
        rw [hf]
      refine hlent.of_stock ?_
      simp only [State.dispatchOrder, ho, hitem]
      rfl
    | braille =>
      obtain ⟨i, hi⟩ := hcopy o ho hf
      have hitem : o.item = .copy i := by
        unfold Order.item
        rw [hf, hi]
        rfl
      have hdispatch : s.dispatchOrder n = (s.lend n o).onTitle o.title (fun t => t.setCopy i (.onLoan k)) := by
        simp only [State.dispatchOrder, ho, hitem, hk]
        rfl
      rw [hdispatch]
      refine hs.replaced nofun (fun l hl => ?_) (hs.numbered.lend ho) rfl (fun m c hc => ?_)
        (fun l w hw => .inl (hlending l w hw)) (fun m c hc => hs.cartridge m c (claim_of_dropOrder hc).2)
      · cases hl
        rw [hlend, if_pos rfl, hitem]
      · by_cases hm : m = n
        · subst hm
          refine .inr ⟨(claim_dropOrder ..).trans (if_pos rfl), (Option.some.inj (hc.symm.trans hclaim)).trans ?_⟩
          rw [Order.claim, hf, hi]
        · exact .inl ((claim_dropOrder ..).trans ((if_neg hm).trans hc))

/-- R140: the orders of some containers become loans. -/
theorem dispatched (hs : s.Backed) (hsound : s.Sound) (gone : List Nat) :
    ((gone.map s.itemsOf).flatten.foldl State.dispatchOrder s).Backed := by
  have hpacked : ∀ n ∈ (gone.map s.itemsOf).flatten, ∀ o, s.order n = some o → o.format = .braille →
      ∃ i, o.copy = some i := by
    intro n hn o ho hf
    obtain ⟨_, hl, hnl⟩ := List.mem_flatten.1 hn
    obtain ⟨k, -, rfl⟩ := List.mem_map.1 hl
    unfold State.itemsOf at hnl
    split at hnl
    · next c hc =>
      obtain ⟨⟨-, -, -, -, hfilled⟩, -⟩ := hsound.boxes k c.core (by simp [State.scene, hc])
      obtain ⟨_, ho', hst, -⟩ := hfilled n hnl
      cases (State.scene_order ho).symm.trans ho'
      exact (hsound.core.place n _ (State.scene_order ho)).copy_of_packed hst hf
    · cases hnl
  have hfold : ∀ (l : List Nat) (s : State), s.Backed →
      (∀ n ∈ l, ∀ o, s.order n = some o → o.format = .braille → ∃ i, o.copy = some i) →
      (l.foldl State.dispatchOrder s).Backed := by
    intro l
    induction l with
    | nil => exact fun _ h _ => h
    | cons n rest ih =>
      intro s hs hl
      refine ih _ (hs.dispatchOrder (hl n (List.mem_cons_self ..))) (fun m hm o ho => ?_)
      rw [s.order_dispatchOrder] at ho
      split at ho
      · cases ho
      · exact hl m (List.mem_cons_of_mem _ hm) o ho
  exact hfold _ s hs hpacked

end State.Backed

/-! #### The catalogue -/

/-- R34: a title as it is loaded names no order and no loan. -/
theorem Title.Loaded.backs {v : Title} (hv : v.Loaded) (s : State) (t : Nat) : s.Backs t v := by
  cases hv with
  | cartridge size sel => exact .cartridge (by simp only [clampImage, maxImage]; omega)
  | @braille n hn =>
    have hentry : ∀ i c, (freshCopies n).getD i .absent = c → c = .onShelf ∨ c = .absent := by
      rintro i _ rfl
      by_cases hi : i < (freshCopies n).length
      · rw [List.getD_eq_getElem _ _ hi]
        refine (List.mem_append.1 (List.getElem_mem hi)).imp List.eq_of_mem_replicate List.eq_of_mem_replicate
      · exact .inr (List.getD_eq_default _ _ (by omega))
    refine ⟨nofun, fun _ => ?_, List.nodup_nil, nofun, fun i m hi => ?_, fun i l hi => ?_⟩
    · simp only [Title.copies, freshCopies, List.length_append, List.length_replicate]
      omega
    · rcases hentry i _ hi with h | h <;> cases h
    · rcases hentry i _ hi with h | h <;> cases h

theorem State.Numbered.withTitles (hs : s.Numbered) (t : Table Title) : ({ s with titles := t } : State).Numbered :=
  ⟨hs.orderCounter, hs.loanCounter, hs.room⟩

theorem State.Backed.loaded (hs : s.Backed) (title : Nat) {v : Title} (hv : v.Loaded) :
    ({ s with titles := s.titles.put title v } : State).Backed := by
  refine hs.change title (hs.numbered.withTitles _) (fun j hj => Table.look_put_other _ _ hj) (fun w hw => ?_)
    (fun _ _ h _ => h) (fun _ _ h _ => h) hs.cartridge
  cases (Table.look_put_same s.titles title v).symm.trans hw
  exact hv.backs _ _

theorem State.Backed.dropped (hs : s.Backed) (title : Nat) :
    ({ s with titles := s.titles.drop title } : State).Backed := by
  refine hs.change title (hs.numbered.withTitles _) (fun j hj => Table.look_drop_other _ hj) (fun w hw => ?_)
    (fun _ _ h _ => h) (fun _ _ h _ => h) hs.cartridge
  cases (Table.look_drop_same s.titles title).symm.trans hw

/-- R36: copies withdrawn from the shelf. -/
theorem State.Backed.withdrawn (hs : s.Backed) {title : Nat} {copies : List Copy} {hold : List Nat} (k : Nat)
    (ht : s.title title = some (.braille copies hold)) :
    (s.onTitle title (Title.withMap (withdrawCopies copies k))).Backed := by
  refine hs.onTitle title (fun v hv hback => ?_)
  cases ht.symm.trans hv
  exact hback.fewer (withdrawCopies_length ..) (.refl _)
    (fun i => (withdrawCopies_getD_cases copies k i).imp_right (fun h => .inl h.2)) (fun _ _ => rfl) (fun _ _ => rfl)

/-- R27 to R29: every act leaves every title backed, from a state whose scene is sound. -/
theorem backed_stockLaw : StockLaw State.Sound State.Backed where
  congr h hs := hs.of_stock h
  ambient h hs := hs.of_scene h
  created p title pr hs hroom := hs.createOrder hroom p title pr
  shelved title i hs := hs.shelved title i
  cancelled hsound hs ho hst := hs.releaseItem hsound ho hst
  returned condition hs hl := hs.returned condition hl
  dispatched gone hsound hs := hs.dispatched hsound gone
  loaded hs _ hv := hs.loaded _ hv
  resized size sel hs _ := hs.onTitle _ (fun _ _ _ => (Title.Loaded.cartridge size sel).backs _ _)
  withdrawn k hs ht := hs.withdrawn k ht
  dropped title hs := hs.dropped title
  reset q := by
    have hcounter : 1 ≤ 1 ∧ 1 ≤ maxNumber := by decide
    exact ⟨⟨hcounter, hcounter, Nat.zero_le _⟩, nofun, nofun⟩

/-! #### The fourth law, from the laws of the stock and of the scene -/

theorem State.claim_of_order {n : Nat} {o : Order} (ho : s.order n = some o) : s.claim n = some o.claim :=
  congrArg (Option.map Order.claim) ho

theorem State.order_of_claim {n : Nat} {c : Claim} (h : s.claim n = some c) : ∃ o, s.order n = some o ∧ o.claim = c :=
  Option.map_eq_some_iff.1 h

/-- Table 2-2: an entry that is not ABSENT is on the shelf, ALLOCATED or ON_LOAN. -/
theorem copiesTotal_eq (copies : List Copy) :
    onShelfCount copies + copiesIn copies 2 + copiesIn copies 3 = copiesTotal copies := by
  induction copies with
  | nil => rfl
  | cons c rest ih =>
    have hcount : ∀ code, copiesIn (c :: rest) code = copiesIn rest code + if c.code = code then 1 else 0 := by
      intro code
      simp [copiesIn, List.countP_cons]
    rw [onShelfCount_cons, copiesTotal_cons, hcount, hcount]
    cases c <;> simp [Copy.code] <;> omega

theorem Copy.eq_of_order {c : Copy} {n : Nat} (h : c.order = some n) : c = .allocated n := by
  cases c <;> cases h
  rfl

theorem Copy.eq_of_loan {c : Copy} {l : Nat} (h : c.loan = some l) : c = .onLoan l := by
  cases c <;> cases h
  rfl

theorem State.Consistent.backs (hs : s.Consistent) {t : Nat} {v : Title} (hv : s.title t = some v) : s.Backs t v := by
  obtain ⟨hsizes, hlengths, hholds, hentries⟩ := hs.copies
  have hmem : (t, v) ∈ s.titles := Table.mem_of_look _ hv
  obtain ⟨hnodup, hwaits⟩ := hholds _ hmem
  have hlt : ∀ {i c}, v.copies.getD i .absent = c → c ≠ .absent → i < copyEntries := by
    rintro i _ rfl hne
    have hi : i < v.copies.length := by
      by_contra hge
      exact hne (List.getD_eq_default _ _ (by omega))
    cases v with
    | cartridge _ _ => exact absurd hi (Nat.not_lt_zero i)
    | braille copies hold => exact (hlengths _ hmem rfl).1 ▸ hi
  refine ⟨hsizes _ hmem, fun hf => (hlengths _ hmem hf).1, hnodup, fun n hn => ?_, fun i n hi => ?_, fun i l hi => ?_⟩
  · obtain ⟨o, ho, hst, htitle⟩ := hwaits n hn
    have htitle : o.title = t := htitle
    have hplace := hs.sound.core.place n _ (State.scene_order ho)
    refine (State.claim_of_order ho).trans (congrArg some ?_)
    rw [Order.claim, htitle, show o.format = .braille from hplace.format_of_waiting hst,
      show o.copy = none from (hplace.loose (.inr (.inr hst))).2.2]
  · obtain ⟨o, ho, -, htitle, hcopy⟩ := (hentries _ hmem i (hlt hi nofun)).1 n (by rw [hi]; rfl)
    have htitle : o.title = t := htitle
    obtain ⟨-, hf, -⟩ := (hs.sound.core.place n _ (State.scene_order ho)).of_copy hcopy
    refine (State.claim_of_order ho).trans (congrArg some ?_)
    rw [Order.claim, htitle, show o.format = .braille from hf, hcopy]
  · obtain ⟨w, hw, htitle, hitem⟩ := (hentries _ hmem i (hlt hi nofun)).2 l (by rw [hi]; rfl)
    have htitle : w.title = t := htitle
    refine (congrArg (Option.map Loan.core) hw).trans (congrArg some ?_)
    rw [Loan.core, htitle, hitem]

theorem State.Consistent.backed (hs : s.Consistent) : s.Backed := by
  obtain ⟨-, -, -, horder, hloan, hroom, -⟩ := hs.patrons
  refine ⟨⟨horder, hloan, hroom⟩, fun t v hv => hs.backs hv, fun n c hc hf => ?_⟩
  obtain ⟨o, ho, rfl⟩ := State.order_of_claim hc
  exact (hs.sound.core.place n _ (State.scene_order ho)).copy_none hf

theorem State.Backed.copyLaw (hs : s.Backed) (hsound : s.Sound) (htables : s.TableLaw) : s.CopyLaw := by
  obtain ⟨-, -, htitles, -⟩ := htables
  have hback : ∀ e ∈ s.titles, s.title e.1 = some e.2 ∧ s.Backs e.1 e.2 := fun e he =>
    ⟨Table.look_of_mem _ htitles he, hs.title _ _ (Table.look_of_mem _ htitles he)⟩
  refine ⟨fun e he => (hback e he).2.size, fun e he hf => ⟨(hback e he).2.length hf, copiesTotal_eq _⟩,
    fun e he => ⟨(hback e he).2.nodup, fun n hn => ?_⟩, fun e he i _ => ⟨fun n hn => ?_, fun l hl => ?_⟩⟩
  · obtain ⟨-, hwaits⟩ := hsound.core.stocked _ _ (State.scene_title (hback e he).1)
    obtain ⟨_, ho', hst, htitle⟩ := hwaits n hn
    obtain ⟨o, ho, rfl⟩ := State.order_of_scene ho'
    exact ⟨o, ho, hst, htitle⟩
  · obtain ⟨o, ho, hclaim⟩ := State.order_of_claim ((hback e he).2.allocated i n (Copy.eq_of_order hn))
    injection hclaim with htitle _ hcopy
    exact ⟨o, ho, ((hsound.core.place n _ (State.scene_order ho)).of_copy hcopy).1, htitle, hcopy⟩
  · obtain ⟨w, hw, hcore⟩ := Option.map_eq_some_iff.1 ((hback e he).2.onLoan i l (Copy.eq_of_loan hl))
    injection hcore with htitle hitem
    exact ⟨w, hw, htitle, hitem⟩

/-- Settles O10: both laws are laws of the stock. -/
theorem stepsKeepTheCopyLaws : Obligations.StepsKeepTheCopyLaws := by
  intro s t h
  refine ⟨fun hs => holdLaw_stockLaw.step trivial hs h, fun hs => ?_⟩
  exact (backed_stockLaw.step hs.sound hs.backed h).copyLaw (hs.ordered.step h) (tableLaw_shapeLaw.step hs.tables h)

end Sys2Proof.Machine

/-! ### Titles loaded, and cartridge titles set (2.5, 2.6) -/

namespace Sys2Proof.Machine

variable (s : State)

/-- R34: the image size stored, as the rule words it. -/
theorem clampImage_eq (size : Nat) :
    clampImage size = if size = 0 then 1 else if 65536 < size then 65536 else size := by
  unfold clampImage maxImage
  split
  · omega
  · split <;> omega

/-- R34: the number of copies stored, as the rule words it. -/
theorem clampCopies_eq (copies : Nat) : min copies copyEntries = if 64 < copies then 64 else copies := by
  unfold copyEntries
  split <;> omega

theorem clampedIf_eq (p : Prop) [Decidable p] : clampedIf (decide p) = if p then .clamped else .accepted := by
  by_cases hp : p <;> simp [clampedIf, hp]

/-! #### The outcomes of TITLE_LOAD (R33, R34) -/

theorem titleLoad_range {title format selector : Nat} (size copies : Nat)
    (hbad : title = 0 ∨ 1 < format ∨ (format = 0 ∧ 1 < selector)) :
    ∃ f, titleLoad title format size selector copies s = refuse s .range f := by
  obtain ⟨f, hf⟩ : ∃ f, firstBad [decide (title = 0), decide (1 < format), false,
      decide (format = 0 ∧ 1 < selector)] = some f :=
    exists_firstBad (by simpa using hbad)
  exact ⟨f, by simp only [titleLoad, hf]⟩

section Load
variable {title format selector : Nat} (htitle : title ≠ 0) (hformat : format = 1 ∨ (format = 0 ∧ selector ≤ 1))
include htitle hformat

theorem titleLoad_checks :
    firstBad [decide (title = 0), decide (1 < format), false, decide (format = 0 ∧ 1 < selector)] = none := by
  have hcode : ¬ 1 < format := by omega
  have hsel : format = 0 → selector ≤ 1 := by omega
  simpa [firstBad_eq_none, htitle, hcode] using hsel

/-- R33: what is left once the fields have been checked. -/
theorem titleLoad_checked (size copies : Nat) : titleLoad title format size selector copies s =
    if s.titles.has title then refuse s .duplicate 1
    else if maxTitles ≤ s.titles.length then refuse s .full 0
    else if format = 1 then
      answer { s with titles := s.titles.put title (.braille (freshCopies (min copies copyEntries)) []) }
        (clampedIf (decide (copyEntries < copies))) [u1 (min copies copyEntries)]
    else
      answer { s with titles := s.titles.put title (.cartridge (clampImage size) (selectorOf selector)) }
        (clampedIf (decide (clampImage size ≠ size))) [u3 (clampImage size), u1 selector] := by
  unfold titleLoad formatOf
  rw [titleLoad_checks htitle hformat]
  by_cases hf : format = 1
  · simp only [if_pos hf]
  · simp only [if_neg hf]

theorem titleLoad_duplicate (size copies : Nat) (hhas : s.titles.has title = true) :
    titleLoad title format size selector copies s = refuse s .duplicate 1 := by
  rw [titleLoad_checked s htitle hformat, if_pos hhas]

theorem titleLoad_full (size copies : Nat) (hhas : s.titles.has title = false) (hlen : maxTitles ≤ s.titles.length) :
    titleLoad title format size selector copies s = refuse s .full 0 := by
  rw [titleLoad_checked s htitle hformat, if_neg (Bool.eq_false_iff.1 hhas), if_pos hlen]

end Load

theorem titleLoad_cartridge {title selector : Nat} (size copies : Nat) (htitle : title ≠ 0) (hsel : selector ≤ 1)
    (hhas : s.titles.has title = false) (hlen : s.titles.length < maxTitles) :
    titleLoad title 0 size selector copies s =
      answer { s with titles := s.titles.put title (.cartridge (clampImage size) (selectorOf selector)) }
        (clampedIf (decide (clampImage size ≠ size))) [u3 (clampImage size), u1 selector] := by
  rw [titleLoad_checked s htitle (.inr ⟨rfl, hsel⟩), if_neg (Bool.eq_false_iff.1 hhas), if_neg (Nat.not_le.2 hlen),
    if_neg Nat.zero_ne_one]

theorem titleLoad_braille {title : Nat} (size selector copies : Nat) (htitle : title ≠ 0)
    (hhas : s.titles.has title = false) (hlen : s.titles.length < maxTitles) :
    titleLoad title 1 size selector copies s =
      answer { s with titles := s.titles.put title (.braille (freshCopies (min copies copyEntries)) []) }
        (clampedIf (decide (min copies copyEntries ≠ copies))) [u1 (min copies copyEntries)] := by
  have hchanged : copyEntries < copies ↔ min copies copyEntries ≠ copies := by omega
  rw [titleLoad_checked s htitle (.inl rfl), if_neg (Bool.eq_false_iff.1 hhas), if_neg (Nat.not_le.2 hlen), if_pos rfl]
  simp only [hchanged]

/-- Settles O35, outcome by outcome. -/
theorem titleLoadCreatesARecord : Obligations.TitleLoadCreatesARecord := by
  intro s h title format size selector copies ht
  refine ⟨fun hbad => ?_, fun htitle hformat => ⟨fun hhas => ?_, fun hhas hlen => ?_, fun hhas hlen hf stored hst => ?_,
    fun hhas hlen hf stored hst => ?_⟩⟩
  · obtain ⟨f, hf⟩ := titleLoad_range (s.clocked h) size copies hbad
    exact ⟨f, congrArg _ (request_refuse ht hf)⟩
  · exact ⟨1, congrArg _ (request_refuse ht (titleLoad_duplicate (s.clocked h) htitle hformat size copies hhas))⟩
  · exact ⟨0, congrArg _ (request_refuse ht (titleLoad_full (s.clocked h) htitle hformat size copies hhas hlen))⟩
  · subst hf
    have hsel : selector ≤ 1 := by omega
    have hacc := titleLoad_cartridge (s.clocked h) size copies htitle hsel hhas hlen
    rw [clampImage_eq, ← hst, clampedIf_eq] at hacc
    exact congrArg _ (request_answer ht hacc)
  · subst hf
    have hacc := titleLoad_braille (s.clocked h) size selector copies htitle hhas hlen
    rw [clampCopies_eq, ← hst, clampedIf_eq] at hacc
    exact congrArg _ (request_answer ht hacc)

/-! #### TITLE_SET of a cartridge title (R35) -/

theorem State.titleOnRack_iff (title : Nat) : s.titleOnRack title = true ↔
    ∃ e ∈ s.book.orders, e.2.title = title ∧ (e.2.state = .writing ∨ e.2.state = .verifying) := by
  simp [State.titleOnRack]

theorem titleSet_cartridge {title old : Nat} {sel : Selector} (size selector copies : Nat) (htitle : title ≠ 0)
    (hrec : s.title title = some (.cartridge old sel)) :
    titleSet title size selector copies s = setCartridgeTitle title old size selector s := by
  simp [titleSet, firstBad, htitle, hrec]

theorem setCartridgeTitle_range (title old size : Nat) {selector : Nat} (hsel : 1 < selector) :
    setCartridgeTitle title old size selector s = refuse s .range 3 := by
  simp [setCartridgeTitle, hsel]

theorem setCartridgeTitle_wrongState {title old size selector : Nat} (hsel : selector ≤ 1)
    (hsize : clampImage size ≠ old) (hrack : s.titleOnRack title = true) :
    setCartridgeTitle title old size selector s = refuse s .wrongState 0 := by
  simp [setCartridgeTitle, Nat.not_lt.2 hsel, hsize, hrack]

theorem setCartridgeTitle_accepted {title old size selector : Nat} (hsel : selector ≤ 1)
    (hfree : clampImage size = old ∨ s.titleOnRack title = false) : setCartridgeTitle title old size selector s =
      answer (s.onTitle title (fun _ => .cartridge (clampImage size) (selectorOf selector)))
        (clampedIf (decide (clampImage size ≠ size))) [u3 (clampImage size), u1 selector] := by
  have hnot : ¬ (clampImage size ≠ old ∧ s.titleOnRack title = true) := by
    rintro ⟨hsize, hrack⟩
    rcases hfree with h | h
    · exact hsize h
    · cases h.symm.trans hrack
  rw [setCartridgeTitle, if_neg (Nat.not_lt.2 hsel), if_neg hnot]

/-- Settles O36. -/
theorem titleSetStoresSizeAndSelector : Obligations.TitleSetStoresSizeAndSelector := by
  intro s h title size selector copies old sel stored ht htitle hrec hst
  have hset := titleSet_cartridge (s.clocked h) size selector copies htitle hrec
  rw [← clampImage_eq] at hst
  subst hst
  refine ⟨fun hsel => ?_, fun hsel hsize hrack => ?_, fun hsel hfree => ?_⟩
  · exact congrArg _ (request_refuse ht (hset.trans (setCartridgeTitle_range _ title old size hsel)))
  · have hrack' : (s.clocked h).titleOnRack title = true := (State.titleOnRack_iff _ _).2 hrack
    exact congrArg _ (request_refuse ht (hset.trans (setCartridgeTitle_wrongState _ hsel hsize hrack')))
  · have hfree' : clampImage size = old ∨ (s.clocked h).titleOnRack title = false := by
      refine hfree.imp_right (fun hno => Bool.eq_false_iff.2 (fun hrack => ?_))
      obtain ⟨e, he, hetitle, hstate⟩ := (State.titleOnRack_iff _ _).1 hrack
      obtain ⟨hwriting, hverifying⟩ := hno e he hetitle
      exact hstate.elim hwriting hverifying
    have hacc := hset.trans (setCartridgeTitle_accepted (s.clocked h) hsel hfree')
    rw [clampedIf_eq] at hacc
    exact congrArg _ (request_answer ht hacc)

end Sys2Proof.Machine

/-! ### Titles dropped (2.7) -/

namespace Sys2Proof.Machine

variable (s : State)

/-! #### One deferred list, and all of them (R39) -/

/-- R39: the record with the title gone from its deferred list. -/
def Patron.without (title : Nat) (p : Patron) : Patron :=
  { p with deferred := p.deferred.filter (· != title) }

theorem Patron.without_without (title : Nat) (p : Patron) : (p.without title).without title = p.without title := by
  simp [Patron.without]

theorem Patron.without_eq_self {title : Nat} {p : Patron} (h : title ∉ p.deferred) : p.without title = p := by
  have hkeep : p.deferred.filter (· != title) = p.deferred :=
    List.filter_eq_self.2 (fun x hx => bne_iff_ne.2 (fun hxt => h (hxt ▸ hx)))
  rw [Patron.without, hkeep]

/-- R39: the notice of a title struck from a patron's list, the second and the rest of the list given. -/
def strippedNotice (title second : Nat) (e : Nat × Patron) : Notice :=
  ⟨.deferredDropped, e.1, second, [u4 title, u1 (e.2.without title).deferred.length]⟩

theorem State.stripDeferred_of_some {title n : Nat} {p : Patron} (hp : s.patron n = some p) :
    State.stripDeferred title s n = (s.onPatron n (Patron.without title)).raise .circulation .deferredDropped n
      [u4 title, u1 (p.without title).deferred.length] := by
  have hp' : (s.onPatron n (Patron.without title)).patron n = some (p.without title) :=
    (Table.look_alter_same ..).trans (congrArg (Option.map _) hp)
  change (match (s.onPatron n (Patron.without title)).patron n with | some _ => _ | none => _) = _
  rw [hp']
  rfl

theorem State.stripDeferred_of_none (title : Nat) {n : Nat} (hp : s.patron n = none) :
    State.stripDeferred title s n = s.onPatron n (Patron.without title) := by
  have hp' : (s.onPatron n (Patron.without title)).patron n = none :=
    (Table.look_alter_same ..).trans (congrArg (Option.map _) hp)
  change (match (s.onPatron n (Patron.without title)).patron n with | some _ => _ | none => _) = _
  rw [hp']
  rfl

theorem State.patrons_stripDeferred (title n : Nat) :
    (State.stripDeferred title s n).patrons = s.patrons.alter n (Patron.without title) := by
  cases hp : s.patron n with
  | none => rw [s.stripDeferred_of_none title hp]; rfl
  | some p => rw [s.stripDeferred_of_some hp]; rfl

theorem State.patron_stripDeferred (title n m : Nat) : (State.stripDeferred title s n).patron m =
    if m = n then (s.patron m).map (Patron.without title) else s.patron m := by
  rw [State.patron, State.patrons_stripDeferred, Table.look_alter]
  by_cases hmn : m = n
  · rw [if_pos hmn, if_pos hmn, hmn, State.patron]
  · rw [if_neg hmn, if_neg hmn, State.patron]

theorem State.unit_stripDeferred_circulation {title n : Nat} {p : Patron} (hp : s.patron n = some p) :
    (State.stripDeferred title s n).unit .circulation =
      (s.unit .circulation).enqueue (strippedNotice title s.clock.second (n, p)) := by
  rw [s.stripDeferred_of_some hp]
  exact State.unit_onUnit_same ..

theorem State.unit_stripDeferred_other (title n : Nat) {q : Port} (hq : q ≠ .circulation) :
    (State.stripDeferred title s n).unit q = s.unit q := by
  cases hp : s.patron n with
  | none => rw [s.stripDeferred_of_none title hp]; rfl
  | some p => rw [s.stripDeferred_of_some hp]; exact State.unit_onUnit_other _ _ hq

theorem State.patron_foldl_stripDeferred (title m : Nat) (l : List Nat) (s : State) :
    (l.foldl (State.stripDeferred title) s).patron m =
      if m ∈ l then (s.patron m).map (Patron.without title) else s.patron m := by
  induction l generalizing s with
  | nil => rfl
  | cons n rest ih =>
    rw [List.foldl_cons, ih, State.patron_stripDeferred]
    by_cases hmn : m = n
    · simp [hmn, Function.comp_def, Patron.without_without]
    · simp [hmn]

/-- The notices stand in the order of the list. A number that comes twice would find its list stripped already,
hence the records are only asked to agree once stripped. -/
theorem State.unit_foldl_stripDeferred_circulation (title : Nat) (l : List (Nat × Patron)) (s : State)
    (hl : ∀ e ∈ l, (s.patron e.1).map (Patron.without title) = some (e.2.without title)) :
    ((l.map Prod.fst).foldl (State.stripDeferred title) s).unit .circulation =
      (l.map (strippedNotice title s.clock.second)).foldl PortUnit.enqueue (s.unit .circulation) := by
  induction l generalizing s with
  | nil => rfl
  | cons e rest ih =>
    obtain ⟨n, r⟩ := e
    obtain ⟨p, hp, hpr⟩ := Option.map_eq_some_iff.1 (hl (n, r) List.mem_cons_self)
    have hnotice : strippedNotice title s.clock.second (n, p) = strippedNotice title s.clock.second (n, r) := by
      simp only [strippedNotice, hpr]
    have hrest : ∀ e ∈ rest, ((State.stripDeferred title s n).patron e.1).map (Patron.without title) =
        some (e.2.without title) := by
      intro e he
      have hlook := hl e (List.mem_cons_of_mem _ he)
      rw [State.patron_stripDeferred]
      split
      · rw [Option.map_map, ← hlook]
        simp only [Function.comp_def, Patron.without_without]
      · exact hlook
    have hclock : (State.stripDeferred title s n).clock = s.clock := by simp
    rw [List.map_cons, List.foldl_cons, ih _ hrest, State.unit_stripDeferred_circulation s hp, hnotice, hclock]
    rfl

theorem State.unit_foldl_stripDeferred_other (title : Nat) {q : Port} (hq : q ≠ .circulation) (l : List Nat) :
    (l.foldl (State.stripDeferred title) s).unit q = s.unit q :=
  foldl_keeps (fun s => s.unit q) _ (fun s n => s.unit_stripDeferred_other title n hq) l s

theorem State.foldl_stripDeferred_frame (title : Nat) (l : List Nat) :
    (l.foldl (State.stripDeferred title) s).titles = s.titles ∧
    (l.foldl (State.stripDeferred title) s).book = s.book ∧ (l.foldl (State.stripDeferred title) s).carts = s.carts ∧
    (l.foldl (State.stripDeferred title) s).bays = s.bays ∧ (l.foldl (State.stripDeferred title) s).rack = s.rack ∧
    (l.foldl (State.stripDeferred title) s).clock = s.clock ∧
    (l.foldl (State.stripDeferred title) s).packing = s.packing ∧
    (l.foldl (State.stripDeferred title) s).loans = s.loans ∧ (l.foldl (State.stripDeferred title) s).lane = s.lane ∧
    (l.foldl (State.stripDeferred title) s).pending = s.pending := by
  refine ⟨?_, ?_, ?_, ?_, ?_, ?_, ?_, ?_, ?_, ?_⟩ <;> exact foldl_keeps _ _ (fun s n => by simp) l s

/-! #### The patrons whose list names the title -/

theorem State.deferring_eq (title : Nat) : s.deferring title =
    (s.patrons.filter (fun e => decide (title ∈ e.2.deferred))).map Prod.fst := by
  simp [State.deferring]

theorem State.length_deferring (title : Nat) :
    (s.deferring title).length = s.patrons.countP (fun e => decide (title ∈ e.2.deferred)) := by
  rw [State.deferring_eq, List.length_map, List.countP_eq_length_filter]

theorem State.not_mem_deferred_of_deferring {title n : Nat} {p : Patron} (hn : n ∉ s.deferring title)
    (hp : s.patron n = some p) : title ∉ p.deferred := by
  intro hmem
  refine hn ?_
  rw [State.deferring_eq]
  exact List.mem_map_of_mem (List.mem_filter.2 ⟨Table.mem_of_look _ hp, decide_eq_true hmem⟩)

/-- R39: every list that names the title is stripped of it, and the others do not name it. -/
theorem State.patron_foldl_deferring (title n : Nat) :
    ((s.deferring title).foldl (State.stripDeferred title) { s with titles := s.titles.drop title }).patron n =
      (s.patron n).map (Patron.without title) := by
  have hsame : ({ s with titles := s.titles.drop title } : State).patron n = s.patron n := rfl
  rw [State.patron_foldl_stripDeferred, hsame]
  split
  · rfl
  · next hn =>
    cases hp : s.patron n with
    | none => rfl
    | some p => rw [Option.map_some, Patron.without_eq_self (s.not_mem_deferred_of_deferring hn hp)]

/-! #### The outcomes of TITLE_DROP (R38) -/

theorem State.titleInUse_iff (title : Nat) : s.titleInUse title = true ↔
    (∃ e ∈ s.book.orders, e.2.title = title) ∨ ∃ e ∈ s.loans.loans, e.2.title = title := by
  simp [State.titleInUse]

theorem Title.idle_iff (t : Title) : t.idle = true ↔
    ∀ (copies : List Copy) (hold : List Nat), t = .braille copies hold → ∀ c ∈ copies, c = .onShelf ∨ c = .absent := by
  cases t <;> simp [Title.idle]

theorem titleDrop_checked {title : Nat} {t : Title} (htitle : title ≠ 0) (hrec : s.title title = some t) :
    titleDrop title s =
      if s.titleInUse title || !t.idle then refuse s .wrongState 0
      else answer ((s.deferring title).foldl (State.stripDeferred title) { s with titles := s.titles.drop title })
        .accepted [u2 (s.deferring title).length] := by
  simp [titleDrop, firstBad, htitle, hrec]

/-- Settles O38: the refusal, then the lists stripped one by one. -/
theorem titleDropStripsDeferredLists : Obligations.TitleDropStripsDeferredLists := by
  intro s h title rec ht htitle hrec
  have hdrop := titleDrop_checked (s.clocked h) htitle hrec
  have huse := State.titleInUse_iff (s.clocked h) title
  refine ⟨fun hbusy => ?_, fun horders hloans hidle => ?_⟩
  · have hbad : ((s.clocked h).titleInUse title || !rec.idle) = true := by
      rw [Bool.or_eq_true, huse, Bool.not_eq_true', ← Bool.not_eq_true, Title.idle_iff]
      rcases hbusy with horder | hloan | ⟨copies, hold, hcopies, c, hc, hshelf, habsent⟩
      · exact .inl (.inl horder)
      · exact .inl (.inr hloan)
      · exact .inr (fun hall => (hall copies hold hcopies c hc).elim hshelf habsent)
    rw [if_pos hbad] at hdrop
    exact congrArg _ (request_refuse ht hdrop)
  · have hunused : (s.clocked h).titleInUse title = false := by
      refine Bool.eq_false_iff.2 (fun hin => ?_)
      rcases huse.1 hin with ⟨e, he, het⟩ | ⟨e, he, het⟩
      · exact horders e he het
      · exact hloans e he het
    rw [hunused, (Title.idle_iff rec).2 hidle, if_neg (by decide), State.length_deferring] at hdrop
    obtain ⟨htitles, hbook, hcarts, hbays, hrack, hclock, hpacking, hloans', hlane, hpending⟩ :=
      State.foldl_stripDeferred_frame { s.clocked h with titles := (s.clocked h).titles.drop title } title
        ((s.clocked h).deferring title)
    refine ⟨_, congrArg _ (request_answer ht hdrop), htitles, State.patron_foldl_deferring (s.clocked h) title, hbook,
      hcarts, hbays, hrack, hclock, hpacking, hloans', hlane, hpending, fun hw => ?_, fun p hp => ?_⟩
    · have hown : ∀ e ∈ s.patrons.filter (fun e => decide (title ∈ e.2.deferred)),
          (s.patron e.1).map (Patron.without title) = some (e.2.without title) := by
        intro e he
        have hlook : s.patron e.1 = some e.2 := Table.look_of_mem _ hw (List.mem_of_mem_filter he)
        rw [hlook, Option.map_some]
      rw [State.deferring_eq]
      exact State.unit_foldl_stripDeferred_circulation title _ _ hown
    · exact State.unit_foldl_stripDeferred_other _ title hp _

end Sys2Proof.Machine

/-! ### Braille titles set (2.6) -/

namespace Sys2Proof.Machine

/-! #### Copies withdrawn (R36) -/

/-- R36: as many entries turn ABSENT as are asked for, or all that are on the shelf. -/
theorem copiesTotal_withdrawCopies (copies : List Copy) (k : Nat) :
    copiesTotal (withdrawCopies copies k) + min k (onShelfCount copies) = copiesTotal copies := by
  induction copies with
  | nil => simp [withdrawCopies, copiesTotal, onShelfCount]
  | cons c rest ih =>
    by_cases hc : c = .onShelf
    · subst hc
      by_cases hbelow : onShelfCount rest < k
      · simp only [withdrawCopies, hbelow, and_self, if_true, copiesTotal_cons, onShelfCount_cons, reduceCtorEq, if_false]
        omega
      · simp only [withdrawCopies, hbelow, and_false, if_false, copiesTotal_cons, onShelfCount_cons, if_true, reduceCtorEq]
        omega
    · simp only [withdrawCopies, hc, false_and, if_false, copiesTotal_cons, onShelfCount_cons]
      omega

theorem withdrawCopies_ne_onShelf {copies : List Copy} {k : Nat} (hall : onShelfCount copies ≤ k) (i : Nat) :
    (withdrawCopies copies k).getD i .absent ≠ .onShelf := by
  induction copies generalizing i with
  | nil => nofun
  | cons c rest ih =>
    rw [onShelfCount_cons] at hall
    have hrest := ih (by omega)
    simp only [withdrawCopies]
    cases i with
    | zero =>
      split
      · nofun
      · next hkeep =>
        intro hc
        have hc : c = .onShelf := hc
        rw [if_pos hc] at hall
        exact hkeep ⟨hc, by omega⟩
    | succ i => split <;> simpa only [List.getD_cons_succ] using hrest i

/-- R36: the highest index first. -/
theorem withdrawCopies_highest {copies : List Copy} {k i j : Nat}
    (hi : (withdrawCopies copies k).getD i .absent = .onShelf) (hj : copies.getD j .absent = .onShelf)
    (hgone : (withdrawCopies copies k).getD j .absent = .absent) : i < j := by
  induction copies generalizing i j with
  | nil => cases hi
  | cons c rest ih =>
    simp only [withdrawCopies] at hi hgone
    cases i with
    | zero =>
      cases j with
      | zero => cases hi.symm.trans hgone
      | succ j => exact j.succ_pos
    | succ i =>
      have hi' : (withdrawCopies rest k).getD i .absent = .onShelf := by
        split at hi <;> simpa only [List.getD_cons_succ] using hi
      cases j with
      | zero =>
        split at hgone
        · next hhead => exact absurd hi' (withdrawCopies_ne_onShelf (Nat.le_of_lt hhead.2) i)
        · cases hgone.symm.trans hj
      | succ j =>
        have hgone' : (withdrawCopies rest k).getD j .absent = .absent := by
          split at hgone <;> simpa only [List.getD_cons_succ] using hgone
        exact Nat.succ_lt_succ (ih hi' hj hgone')

/-! #### Copies brought to the shelf (R37) -/

/-- R37: `k` ABSENT entries turned ON_SHELF, the lowest index first. -/
def addCopies : List Copy → Nat → List Copy
  | [], _ => []
  | c :: rest, 0 => c :: rest
  | c :: rest, k + 1 => if c = .absent then .onShelf :: addCopies rest k else c :: addCopies rest (k + 1)

theorem addCopies_zero (copies : List Copy) : addCopies copies 0 = copies := by
  cases copies <;> rfl

theorem addCopies_length (copies : List Copy) (k : Nat) : (addCopies copies k).length = copies.length := by
  induction copies generalizing k with
  | nil => rfl
  | cons c rest ih =>
    cases k with
    | zero => rfl
    | succ k =>
      simp only [addCopies]
      split <;> simp [ih]

theorem copiesTotal_addCopies (copies : List Copy) (k : Nat) :
    copiesTotal (addCopies copies k) = min (copiesTotal copies + k) copies.length := by
  induction copies generalizing k with
  | nil => simp [addCopies, copiesTotal]
  | cons c rest ih =>
    have hle : copiesTotal (c :: rest) ≤ rest.length + 1 := List.countP_le_length
    cases k with
    | zero => simpa [addCopies] using hle
    | succ k =>
      simp only [addCopies]
      split
      · next hc =>
        simp only [copiesTotal_cons, ih, hc, if_true, reduceCtorEq, if_false, List.length_cons]
        omega
      · next hc =>
        simp only [copiesTotal_cons, ih, hc, if_false, List.length_cons]
        omega

theorem addCopies_getD_cases (copies : List Copy) (k i : Nat) :
    (addCopies copies k).getD i .absent = copies.getD i .absent ∨
      (copies.getD i .absent = .absent ∧ (addCopies copies k).getD i .absent = .onShelf) := by
  induction copies generalizing k i with
  | nil => exact .inl rfl
  | cons c rest ih =>
    cases k with
    | zero => exact .inl rfl
    | succ k =>
      simp only [addCopies]
      split
      · next hc =>
        cases i with
        | zero => exact .inr ⟨hc, rfl⟩
        | succ i => simpa only [List.getD_cons_succ] using ih k i
      · cases i with
        | zero => exact .inl rfl
        | succ i => simpa only [List.getD_cons_succ] using ih (k + 1) i

/-- R37: the lowest index first. -/
theorem addCopies_lowest {copies : List Copy} {k i j : Nat} (hlen : i < copies.length)
    (hi : (addCopies copies k).getD i .absent = .absent) (hj : copies.getD j .absent = .absent)
    (hadded : (addCopies copies k).getD j .absent = .onShelf) : j < i := by
  induction copies generalizing k i j with
  | nil => cases hlen
  | cons c rest ih =>
    cases k with
    | zero => cases hadded.symm.trans hj
    | succ k =>
      cases j with
      | zero =>
        cases i with
        | zero => cases hi.symm.trans hadded
        | succ i => exact i.succ_pos
      | succ j =>
        simp only [addCopies] at hi hadded
        split at hi
        · next hc =>
          rw [if_pos hc] at hadded
          cases i with
          | zero => cases hi
          | succ i => exact Nat.succ_lt_succ (ih (Nat.lt_of_succ_lt_succ hlen) hi hj hadded)
        · next hc =>
          rw [if_neg hc] at hadded
          cases i with
          | zero => exact absurd hi hc
          | succ i => exact Nat.succ_lt_succ (ih (Nat.lt_of_succ_lt_succ hlen) hi hj hadded)

variable (s : State)

theorem Table.alter_eq_self {α : Type} (t : Table α) (hw : t.wf = true) {n : Nat} {v : α} (h : t.look n = some v)
    {f : α → α} (hf : f v = v) : t.alter n f = t := by
  refine (List.map_congr_left (fun e he => ?_)).trans (List.map_id t)
  by_cases hn : e.1 = n
  · have hv : e.2 = v := Option.some.inj ((Table.look_of_mem t hw he).symm.trans (hn ▸ h))
    simp only [hn, if_true, id_eq, hv, hf]
    exact Prod.ext hn.symm hv.symm
  · simp [hn]

/-- A title's new record put in the place of the old one. -/
theorem State.onTitle_eq_put (hw : s.titles.wf = true) {title : Nat} {v : Title} (hv : s.title title = some v)
    (f : Title → Title) : s.onTitle title f = { s with titles := s.titles.put title (f v) } :=
  congrArg (fun titles => { s with titles := titles }) (Table.alter_eq_put s.titles hw hv f)

theorem State.onTitle_onTitle (title : Nat) (f g : Title → Title) :
    (s.onTitle title f).onTitle title g = s.onTitle title (fun v => g (f v)) :=
  congrArg (fun titles => { s with titles := titles }) (Table.alter_alter s.titles title f g)

theorem State.onTitle_eq_self (hw : s.titles.wf = true) {title : Nat} {v : Title} (hv : s.title title = some v)
    {f : Title → Title} (hf : f v = v) : s.onTitle title f = s :=
  congrArg (fun titles => { s with titles := titles }) (Table.alter_eq_self s.titles hw hv hf)

theorem Title.withMap_setCopy (copies : List Copy) (i : Nat) (c : Copy) :
    (fun v : Title => (v.setCopy i c).withMap copies) = Title.withMap copies := by
  funext v
  cases v <;> rfl

/-! The loop over the entries, one step at a time. -/

section Loop
variable {s} {title : Nat} {copies : List Copy} {hold : List Nat} (ht : s.title title = some (.braille copies hold))

theorem State.bringCopies_enough (s : State) (title : Nat) (l : List Nat) (a : Nat) :
    State.bringCopies title l (s, 0, a) = (s, 0, a) := by
  cases l <;> simp [State.bringCopies]

include ht

theorem State.bringCopies_absent {i : Nat} (hi : copies.getD i .onShelf = .absent) (l : List Nat) (k a : Nat) :
    State.bringCopies title (i :: l) (s, k + 1, a) =
      State.bringCopies title l (s.shelve title i, k, if hold = [] then a else a + 1) := by
  simp only [State.bringCopies, ht, if_pos hi]

theorem State.bringCopies_present {i : Nat} (hi : copies.getD i .onShelf ≠ .absent) (l : List Nat) (k a : Nat) :
    State.bringCopies title (i :: l) (s, k + 1, a) = State.bringCopies title l (s, k + 1, a) := by
  simp only [State.bringCopies, ht, if_neg hi]

/-- R37, R30: the first copy added while an order waits is allocated, and the loop is done. -/
theorem State.bringCopies_one {i : Nat} (hi : copies.getD i .onShelf = .absent) (hhold : hold ≠ []) (len start a : Nat)
    (hstart : start ≤ i) (hend : i < start + len) (hlow : ∀ j, start ≤ j → j < i → copies.getD j .onShelf ≠ .absent) :
    State.bringCopies title (List.range' start len) (s, 1, a) = (s.shelve title i, 0, a + 1) := by
  induction len generalizing start with
  | zero => omega
  | succ len ih =>
    rw [List.range'_succ]
    by_cases hsi : start = i
    · subst hsi
      rw [State.bringCopies_absent ht hi, if_neg hhold, State.bringCopies_enough]
    · rw [State.bringCopies_present ht (hlow start le_rfl (by omega))]
      exact ih (start + 1) (by omega) (by omega) (fun j hj => hlow j (by omega))

end Loop

/-- R37: with no order waiting the loop adds the lowest ABSENT entries, here of the map from `done.length` on. -/
theorem State.bringCopies_of_no_hold {title : Nat} (left : List Copy) {done : List Copy} (s : State) (k a : Nat)
    (hw : s.titles.wf = true) (ht : s.title title = some (.braille (done ++ left) [])) :
    (State.bringCopies title (List.range' done.length left.length) (s, k, a)).1 =
        s.onTitle title (Title.withMap (done ++ addCopies left k)) ∧
      (State.bringCopies title (List.range' done.length left.length) (s, k, a)).2.2 = a := by
  induction left generalizing done s k with
  | nil => exact ⟨(State.onTitle_eq_self s hw ht rfl).symm, rfl⟩
  | cons c rest ih =>
    cases k with
    | zero =>
      rw [State.bringCopies_enough]
      exact ⟨(State.onTitle_eq_self s hw ht rfl).symm, rfl⟩
    | succ k =>
      have hentry : (done ++ c :: rest).getD done.length .onShelf = c := by simp
      have hsplit : ∀ x, done ++ x :: rest = (done ++ [x]) ++ rest := by simp
      rw [List.length_cons, List.range'_succ]
      by_cases hc : c = .absent
      · have hset : (done ++ c :: rest).set done.length .onShelf = (done ++ [.onShelf]) ++ rest := by simp
        have hshelve : s.shelve title done.length = s.onTitle title (fun v => v.setCopy done.length .onShelf) := by
          rw [s.shelve_of_no_hold done.length hw ht, s.onTitle_eq_put hw ht]
          rfl
        have htitle : (s.shelve title done.length).title title = some (.braille ((done ++ [.onShelf]) ++ rest) []) := by
          rw [hshelve, State.title_onTitle, if_pos rfl, ht, Option.map_some, Title.setCopy, hset]
        have hwf : (s.shelve title done.length).titles.wf = true := by
          rw [hshelve, State.onTitle_titles]
          exact Table.wf_alter s.titles title _ hw
        have hnext := ih (done := done ++ [.onShelf]) _ k hwf htitle
        rw [List.length_append, List.length_singleton] at hnext
        rw [State.bringCopies_absent ht (hentry.trans hc), if_pos rfl, addCopies, if_pos hc]
        refine ⟨?_, hnext.2⟩
        rw [hnext.1, hshelve, State.onTitle_onTitle, Title.withMap_setCopy, List.append_assoc, List.singleton_append]
      · have hnext := ih (done := done ++ [c]) s (k + 1) hw (by rw [ht, hsplit])
        rw [List.length_append, List.length_singleton] at hnext
        rw [State.bringCopies_present ht (by rwa [hentry]), addCopies, if_neg hc]
        refine ⟨?_, hnext.2⟩
        rw [hnext.1, List.append_assoc, List.singleton_append]

/-! #### The outcomes of TITLE_SET of a braille title -/

section Set
variable {title : Nat} {copies : List Copy} {hold : List Nat} (htitle : title ≠ 0)
  (hrec : s.title title = some (.braille copies hold))
include htitle hrec

theorem titleSet_braille {count : Nat} (hcount : count ≤ 64) (size selector : Nat) :
    titleSet title size selector count s =
      if count < copiesTotal copies then
        if onShelfCount copies < copiesTotal copies - count then refuse s .wrongState 0
        else answer (s.onTitle title (Title.withMap (withdrawCopies copies (copiesTotal copies - count)))) .accepted
          [u1 count, u1 (onShelfCount (withdrawCopies copies (copiesTotal copies - count)))]
      else
        answer ((State.bringCopies title (List.range' 0 64) (s, count - copiesTotal copies, 0)).1.settle s.book.orders)
          .accepted [u1 count, u1 (State.bringCopies title (List.range' 0 64) (s, count - copiesTotal copies, 0)).2.2] := by
  have hset : titleSet title size selector count s = setBrailleTitle title count copies s := by
    simp [titleSet, firstBad, htitle, hrec]
  have hmin : min count copyEntries = count := Nat.min_eq_left hcount
  have hover : ¬ copyEntries < count := Nat.not_lt.2 hcount
  have hrange : List.range copyEntries = List.range' 0 64 := List.range_eq_range'
  simp only [hset, setBrailleTitle, hmin, clampedIf_eq, if_neg hover, hrange]
  rfl

end Set

/-- R30, R31: what `shelve` does for the order at the head of the hold queue. -/
theorem State.shelve_waited {title i n : Nat} {copies : List Copy} {rest : List Nat} {o : Order}
    (ht : s.title title = some (.braille copies (n :: rest))) (hn : n ∉ rest) (ho : s.order n = some o) :
    (s.shelve title i).title title = some (.braille (copies.set i (.allocated n)) rest) ∧
    (∀ a, a ≠ title → (s.shelve title i).title a = s.title a) ∧
    (s.shelve title i).order n = some { o with
      state := .ready, copy := some i, ready := some s.clock.second, tag := s.clock.tagOf s.clock.second } ∧
    (∀ m, m ≠ n → (s.shelve title i).order m = s.order m) ∧
    (s.shelve title i).ports = (s.raise .mail .pick n [u4 title, u1 i]).ports ∧
    (s.shelve title i).book.queue = s.book.queue ∧
    (o.tag = .noTag → s.book.orders.wf = true → changedTags s.book.orders (s.shelve title i).book.orders = []) := by
  have hshelve : s.shelve title i = (s.onTitle title (fun v => v.setCopy i .onShelf)).allocate title i n := by
    rcases s.shelve_cases title i with ⟨_, m, _, hm, heq⟩ | ⟨hnil, -⟩
    · cases ht.symm.trans hm
      exact heq
    · exact absurd (hnil _ _ ht) (List.cons_ne_nil _ _)
  rw [hshelve]
  refine ⟨?_, fun a ha => ?_, ?_, fun m hm => State.allocate_order_other _ _ _ hm, rfl, rfl, fun htag hw => ?_⟩
  · have hleft : (n :: rest).filter (· != n) = rest := by
      rw [List.filter_cons_of_neg (by simp), List.filter_eq_self]
      exact fun m hm => bne_iff_ne.2 (fun hmn => hn (hmn ▸ hm))
    rw [State.title_allocate, if_pos rfl, State.title_onTitle, if_pos rfl, ht]
    simp only [Option.map_some, Title.setCopy, Title.leaveHold, List.set_set, hleft]
  · rw [State.title_allocate, if_neg ha, State.title_onTitle, if_neg ha]
  · have hlook : (s.onTitle title (fun v => v.setCopy i .onShelf)).book.orders.look n = some o := ho
    simp only [State.allocate, State.order, State.raise_book, State.onOrder_book, State.onTitle_book,
      Table.look_alter_same] at hlook ⊢
    rw [hlook]
    rfl
  · simp only [State.allocate, State.raise_book, State.onOrder_book, State.onTitle_book]
    refine changedTags_alter hw (fun v hv => ?_)
    cases hv.symm.trans ho
    rw [htag]
    rfl

/-- Settles O37, case by case. -/
theorem titleSetChangesTheCopyMap : Obligations.TitleSetChangesTheCopyMap := by
  intro s h title size selector count total copies hold ht htitle hrec hw hcount htotal
  have htotal : total = copiesTotal copies := htotal
  subst htotal
  have hset := titleSet_braille (s.clocked h) htitle hrec hcount size selector
  refine ⟨fun hfew => ?_, fun hlow henough => ?_, fun hhigh hnil hlen hwo => ?_,
    fun n rest o i hone hhold hn ho htag hwo hlen hi habsent hfirst => ?_⟩
  · have hfew : onShelfCount copies < copiesTotal copies - count := hfew
    rw [if_pos (by omega), if_pos hfew] at hset
    exact congrArg _ (request_refuse ht hset)
  · have henough : copiesTotal copies - count ≤ onShelfCount copies := henough
    rw [if_pos hlow, if_neg (Nat.not_lt.2 henough), State.onTitle_eq_put (s.clocked h) hw hrec] at hset
    have htotal := copiesTotal_withdrawCopies copies (copiesTotal copies - count)
    rw [Nat.min_eq_left henough] at htotal
    exact ⟨withdrawCopies copies (copiesTotal copies - count), congrArg _ (request_answer ht hset),
      withdrawCopies_length .., show copiesTotal _ = count by omega, withdrawCopies_getD_cases copies _,
      fun i j => withdrawCopies_highest⟩
  · subst hnil
    obtain ⟨hstate, hnone⟩ := State.bringCopies_of_no_hold (done := []) copies (s.clocked h)
      (count - copiesTotal copies) 0 hw hrec
    rw [List.length_nil, hlen] at hstate hnone
    have hbook := congrArg OrderBook.orders ((s.clocked h).onTitle_book title
      (Title.withMap ([] ++ addCopies copies (count - copiesTotal copies))))
    rw [if_neg (by omega), hstate, hnone, State.settle_same _ hbook hwo, State.onTitle_eq_put (s.clocked h) hw hrec] at hset
    have htotal := copiesTotal_addCopies copies (count - copiesTotal copies)
    exact ⟨addCopies copies (count - copiesTotal copies), congrArg _ (request_answer ht hset),
      (addCopies_length ..).trans hlen, show copiesTotal _ = count by omega, addCopies_getD_cases copies _,
      fun i j hi => addCopies_lowest (hlen ▸ hi)⟩
  · subst hhold
    have hpresent : ∀ j, 0 ≤ j → j < i → copies.getD j .onShelf ≠ .absent := by
      intro j _ hj
      have hin : j < copies.length := by omega
      have hne := hfirst j hj
      rw [List.getD_eq_getElem _ _ hin] at hne ⊢
      exact hne
    have hbring := State.bringCopies_one (s := s.clocked h) hrec habsent (List.cons_ne_nil n rest) 64 0 0 (Nat.zero_le i)
      (by omega) hpresent
    obtain ⟨hmap, htitles, horder, horders, hports, hqueue, htags⟩ :=
      (s.clocked h).shelve_waited (i := i) hrec hn ho
    rw [if_neg (by omega), hone, Nat.add_sub_cancel_left, hbring, State.settle_of_none _ (htags htag hwo), ← hone] at hset
    obtain ⟨hpending, -, hpatrons, hcarts, hbays, hrack, hclock, hpacking, hloans, hlane⟩ :=
      (s.clocked h).shelve_frame title i
    exact ⟨_, congrArg _ (request_answer ht hset), hmap, htitles, horder, horders, hports, hqueue, hpatrons, hcarts,
      hbays, hrack, hclock, hpacking, hloans, hlane, hpending⟩

end Sys2Proof.Machine

/-! ### Bags handed over (8.5): the orders become loans -/

namespace Sys2Proof.Machine

variable (s : State)

/-! #### One order (R140) -/

/-- R145: the number of the next loan. -/
def State.loanNumber : Nat :=
  assignNumber maxNumber s.loans.loans s.loans.counter

/-- R140: a cartridge out on a loan. -/
def Cartridge.lent (k : Nat) (c : Cartridge) : Cartridge :=
  { c with state := .onLoan, bound := .loan k }

/-- R140: an order's cartridge or copy ON_LOAN. -/
def State.giveOut (o : Order) (k : Nat) : State :=
  match o.item with
  | .cartridge c => s.onCart c (Cartridge.lent k)
  | .copy i => s.onTitle o.title (fun t => t.setCopy i (.onLoan k))

theorem State.giveOut_cartridge {o : Order} {c : Nat} (h : o.item = .cartridge c) (k : Nat) :
    s.giveOut o k = s.onCart c (Cartridge.lent k) := by
  simp only [State.giveOut, h]

theorem State.giveOut_copy {o : Order} {i : Nat} (h : o.item = .copy i) (k : Nat) :
    s.giveOut o k = s.onTitle o.title (fun t => t.setCopy i (.onLoan k)) := by
  simp only [State.giveOut, h]

theorem State.giveOut_frame (o : Order) (k : Nat) :
    (s.giveOut o k).ports = s.ports ∧ (s.giveOut o k).patrons = s.patrons ∧ (s.giveOut o k).book = s.book ∧
    (s.giveOut o k).bays = s.bays ∧ (s.giveOut o k).rack = s.rack ∧ (s.giveOut o k).clock = s.clock ∧
    (s.giveOut o k).packing = s.packing ∧ (s.giveOut o k).loans = s.loans ∧ (s.giveOut o k).lane = s.lane ∧
    (s.giveOut o k).pending = s.pending := by
  cases h : o.item with
  | cartridge c => rw [s.giveOut_cartridge h]; exact ⟨rfl, rfl, rfl, rfl, rfl, rfl, rfl, rfl, rfl, rfl⟩
  | copy i => rw [s.giveOut_copy h]; exact ⟨rfl, rfl, rfl, rfl, rfl, rfl, rfl, rfl, rfl, rfl⟩

theorem State.cart_giveOut_same {o : Order} {c : Nat} (h : o.item = .cartridge c) (k : Nat) :
    (s.giveOut o k).cart c = (s.cart c).map (Cartridge.lent k) := by
  rw [s.giveOut_cartridge h]
  exact Table.look_alter_same ..

theorem State.cart_giveOut_other {o : Order} {c : Nat} (h : o.item ≠ .cartridge c) (k : Nat) :
    (s.giveOut o k).cart c = s.cart c := by
  cases hitem : o.item with
  | cartridge d =>
    have hcd : c ≠ d := fun hcd => h (hcd ▸ hitem)
    rw [s.giveOut_cartridge hitem]
    exact Table.look_alter_other _ _ hcd
  | copy i => rw [s.giveOut_copy hitem]; rfl

theorem State.title_giveOut_same {o : Order} {i : Nat} (h : o.item = .copy i) (k : Nat) :
    (s.giveOut o k).title o.title = (s.title o.title).map (fun t => t.setCopy i (.onLoan k)) := by
  rw [s.giveOut_copy h, State.title_onTitle, if_pos rfl]

theorem State.title_giveOut_other {o : Order} {t : Nat} (h : ∀ i, o.item = .copy i → t ≠ o.title) (k : Nat) :
    (s.giveOut o k).title t = s.title t := by
  cases hitem : o.item with
  | cartridge c => rw [s.giveOut_cartridge hitem]; rfl
  | copy i => rw [s.giveOut_copy hitem, State.title_onTitle, if_neg (h i hitem)]

theorem State.dispatchOrder_of_some {n : Nat} {o : Order} (ho : s.order n = some o) :
    s.dispatchOrder n = (s.lend n o).giveOut o s.loanNumber := by
  simp only [State.dispatchOrder, ho]
  rfl

@[simp] theorem State.dispatchOrder_frame (n : Nat) :
    (s.dispatchOrder n).ports = s.ports ∧ (s.dispatchOrder n).book.queue = s.book.queue ∧
    (s.dispatchOrder n).bays = s.bays ∧ (s.dispatchOrder n).rack = s.rack ∧ (s.dispatchOrder n).clock = s.clock ∧
    (s.dispatchOrder n).lane = s.lane ∧ (s.dispatchOrder n).pending = s.pending ∧
    (s.dispatchOrder n).loans.period = s.loans.period := by
  cases ho : s.order n with
  | none => rw [s.dispatchOrder_of_none ho]; exact ⟨rfl, rfl, rfl, rfl, rfl, rfl, rfl, rfl⟩
  | some o =>
    obtain ⟨hports, -, hbook, hbays, hrack, hclock, -, hloans, hlane, hpending⟩ := (s.lend n o).giveOut_frame o s.loanNumber
    rw [s.dispatchOrder_of_some ho]
    refine ⟨hports, ?_, hbays, hrack, hclock, hlane, hpending, ?_⟩
    · rw [hbook]; rfl
    · rw [hloans]; rfl

theorem State.loans_dispatchOrder {n : Nat} {o : Order} (ho : s.order n = some o) :
    (s.dispatchOrder n).loans = { s.loans with
      loans := s.loans.loans.put s.loanNumber (s.newLoan o), counter := nextNumber maxNumber s.loanNumber } := by
  obtain ⟨-, -, -, -, -, -, -, hloans, -, -⟩ := (s.lend n o).giveOut_frame o s.loanNumber
  rw [s.dispatchOrder_of_some ho, hloans]
  rfl

/-! #### All orders of a bag, in turn -/

theorem State.order_foldl_dispatchOrder (l : List Nat) (s : State) (m : Nat) :
    (l.foldl State.dispatchOrder s).order m = if m ∈ l then none else s.order m := by
  induction l generalizing s with
  | nil => rfl
  | cons n rest ih =>
    rw [List.foldl_cons, ih, s.order_dispatchOrder]
    by_cases hmn : m = n <;> simp [hmn]

theorem State.packing_foldl_dispatchOrder (l : List Nat) : (l.foldl State.dispatchOrder s).packing = s.packing :=
  foldl_keeps _ _ State.packing_dispatchOrder l s

theorem State.foldl_dispatchOrder_frame (l : List Nat) :
    (l.foldl State.dispatchOrder s).ports = s.ports ∧ (l.foldl State.dispatchOrder s).book.queue = s.book.queue ∧
    (l.foldl State.dispatchOrder s).bays = s.bays ∧ (l.foldl State.dispatchOrder s).rack = s.rack ∧
    (l.foldl State.dispatchOrder s).clock = s.clock ∧ (l.foldl State.dispatchOrder s).lane = s.lane ∧
    (l.foldl State.dispatchOrder s).pending = s.pending ∧
    (l.foldl State.dispatchOrder s).loans.period = s.loans.period ∧
    (l.foldl State.dispatchOrder s).patrons = s.patrons := by
  exact ⟨foldl_keeps State.ports _ (fun s n => by simp) l s,
    foldl_keeps (fun s => s.book.queue) _ (fun s n => by simp) l s,
    foldl_keeps State.bays _ (fun s n => by simp) l s,
    foldl_keeps State.rack _ (fun s n => by simp) l s,
    foldl_keeps State.clock _ (fun s n => by simp) l s,
    foldl_keeps State.lane _ (fun s n => by simp) l s,
    foldl_keeps State.pending _ (fun s n => by simp) l s,
    foldl_keeps (fun s => s.loans.period) _ (fun s n => by simp) l s,
    foldl_keeps State.patrons _ State.patrons_dispatchOrder l s⟩

theorem State.newLoan_foldl_dispatchOrder (l : List Nat) (o : Order) :
    (l.foldl State.dispatchOrder s).newLoan o = s.newLoan o := by
  obtain ⟨-, -, -, -, hclock, -, -, hperiod, -⟩ := s.foldl_dispatchOrder_frame l
  rw [State.newLoan, hclock, hperiod]
  rfl

/-- R145: orders that find the numbers from the loan counter on free, and do not reach the last. -/
structure State.Lendable (s : State) (l : List Nat) : Prop where
  nodup : l.Nodup
  orders : ∀ m ∈ l, (s.order m).isSome = true
  range : s.loans.counter + l.length ≤ maxNumber
  free : ∀ j < l.length, s.loan (s.loans.counter + j) = none

variable {s}

theorem State.Lendable.loanNumber {n : Nat} {l : List Nat} (h : s.Lendable (n :: l)) : s.loanNumber = s.loans.counter :=
  assignNumber_of_free _ (h.free 0 (Nat.succ_pos _))

theorem State.Lendable.counter_dispatchOrder {n : Nat} {l : List Nat} (h : s.Lendable (n :: l)) :
    (s.dispatchOrder n).loans.counter = s.loans.counter + 1 := by
  obtain ⟨o, ho⟩ := Option.isSome_iff_exists.1 (h.orders n List.mem_cons_self)
  have hrange := h.range
  rw [List.length_cons] at hrange
  rw [s.loans_dispatchOrder ho, h.loanNumber]
  exact if_neg (by omega)

theorem State.Lendable.loan_dispatchOrder {n : Nat} {l : List Nat} (h : s.Lendable (n :: l)) {o : Order}
    (ho : s.order n = some o) (k : Nat) :
    (s.dispatchOrder n).loan k = if k = s.loans.counter then some (s.newLoan o) else s.loan k := by
  rw [State.loan, s.loans_dispatchOrder ho, h.loanNumber, Table.look_put]
  rfl

theorem State.Lendable.dispatchOrder {n : Nat} {l : List Nat} (h : s.Lendable (n :: l)) :
    (s.dispatchOrder n).Lendable l := by
  obtain ⟨o, ho⟩ := Option.isSome_iff_exists.1 (h.orders n List.mem_cons_self)
  obtain ⟨hnotin, hnodup⟩ := List.nodup_cons.1 h.nodup
  have hrange := h.range
  rw [List.length_cons] at hrange
  refine ⟨hnodup, fun m hm => ?_, ?_, fun j hj => ?_⟩
  · have hmn : m ≠ n := fun hmn => hnotin (hmn ▸ hm)
    rw [s.order_dispatchOrder, if_neg hmn]
    exact h.orders m (List.mem_cons_of_mem _ hm)
  · rw [h.counter_dispatchOrder]
    omega
  · rw [h.loan_dispatchOrder ho, h.counter_dispatchOrder, if_neg (by omega), Nat.add_assoc, Nat.add_comm 1 j]
    exact h.free (j + 1) (Nat.succ_lt_succ hj)

/-- The orders dispatched leave those behind them as they were, and the numbers from the counter on are taken. -/
theorem State.Lendable.dispatched (xs : List Nat) {ys : List Nat} {s : State} (h : s.Lendable (xs ++ ys)) :
    (xs.foldl State.dispatchOrder s).Lendable ys ∧
    (xs.foldl State.dispatchOrder s).loans.counter = s.loans.counter + xs.length ∧
    ∀ k, k < s.loans.counter ∨ s.loans.counter + xs.length ≤ k →
      (xs.foldl State.dispatchOrder s).loan k = s.loan k := by
  induction xs generalizing s with
  | nil => exact ⟨h, rfl, fun _ _ => rfl⟩
  | cons n rest ih =>
    have h : s.Lendable (n :: (rest ++ ys)) := h
    obtain ⟨o, ho⟩ := Option.isSome_iff_exists.1 (h.orders n List.mem_cons_self)
    obtain ⟨hrest, hcounter, hloan⟩ := ih h.dispatchOrder
    rw [h.counter_dispatchOrder] at hcounter hloan
    rw [List.length_cons]
    refine ⟨hrest, by rw [List.foldl_cons, hcounter]; omega, fun k hk => ?_⟩
    rw [List.foldl_cons, hloan k (by omega), h.loan_dispatchOrder ho, if_neg (by omega)]

/-- A cartridge that none of the orders names. -/
theorem State.cart_foldl_dispatchOrder (l : List Nat) {c : Nat} (s : State)
    (hother : ∀ m ∈ l, ∀ o, s.order m = some o → o.item ≠ .cartridge c) :
    (l.foldl State.dispatchOrder s).cart c = s.cart c := by
  induction l generalizing s with
  | nil => rfl
  | cons n rest ih =>
    have hstep : (s.dispatchOrder n).cart c = s.cart c := by
      cases ho : s.order n with
      | none => rw [s.dispatchOrder_of_none ho]
      | some o =>
        rw [s.dispatchOrder_of_some ho]
        exact State.cart_giveOut_other _ (hother n List.mem_cons_self o ho) _
    rw [List.foldl_cons, ih, hstep]
    intro m hm o ho
    rw [s.order_dispatchOrder] at ho
    split at ho
    · cases ho
    · exact hother m (List.mem_cons_of_mem _ hm) o ho

/-- A copy that none of the orders names. The other entries of its map may change. -/
theorem State.title_foldl_dispatchOrder (l : List Nat) {t i : Nat} {copies : List Copy} {hold : List Nat} (s : State)
    (ht : s.title t = some (.braille copies hold))
    (hother : ∀ m ∈ l, ∀ o, s.order m = some o → o.title = t → o.item ≠ .copy i) :
    ∃ left, (l.foldl State.dispatchOrder s).title t = some (.braille left hold) ∧ left.length = copies.length ∧
      left.getD i .absent = copies.getD i .absent := by
  induction l generalizing s copies with
  | nil => exact ⟨copies, ht, rfl, rfl⟩
  | cons n rest ih =>
    have hstep : ∃ left, (s.dispatchOrder n).title t = some (.braille left hold) ∧ left.length = copies.length ∧
        left.getD i .absent = copies.getD i .absent := by
      cases ho : s.order n with
      | none => exact ⟨copies, by rw [s.dispatchOrder_of_none ho, ht], rfl, rfl⟩
      | some o =>
        rw [s.dispatchOrder_of_some ho]
        by_cases hot : ∃ j, o.item = .copy j ∧ t = o.title
        · obtain ⟨j, hitem, rfl⟩ := hot
          have hij : j ≠ i := fun hij => hother n List.mem_cons_self o ho rfl (hij ▸ hitem)
          have ht' : (s.lend n o).title o.title = some (.braille copies hold) := ht
          refine ⟨copies.set j (.onLoan s.loanNumber), ?_, List.length_set, ?_⟩
          · rw [State.title_giveOut_same _ hitem, ht']
            rfl
          · simp only [List.getD_eq_getElem?_getD, List.getElem?_set_ne hij]
        · refine ⟨copies, ?_, rfl, rfl⟩
          rw [State.title_giveOut_other _ (fun j hj htj => hot ⟨j, hj, htj⟩)]
          exact ht
    obtain ⟨mid, hmid, hmidlen, hmidi⟩ := hstep
    obtain ⟨left, hleft, hlen, hi⟩ := ih (s.dispatchOrder n) hmid (fun m hm o ho => by
      rw [s.order_dispatchOrder] at ho
      split at ho
      · cases ho
      · exact hother m (List.mem_cons_of_mem _ hm) o ho)
    exact ⟨left, hleft, hlen.trans hmidlen, hi.trans hmidi⟩

/-! #### The order at one place of the list -/

section Place
variable {before after : List Nat} {m : Nat} {o : Order} (h : s.Lendable (before ++ m :: after)) (ho : s.order m = some o)
include h

theorem State.Lendable.order_before : (before.foldl State.dispatchOrder s).order m = s.order m := by
  rw [State.order_foldl_dispatchOrder, if_neg]
  intro hm
  exact (List.nodup_append.1 h.nodup).2.2 m hm m List.mem_cons_self rfl

include ho

theorem State.Lendable.loan_at : ((before ++ m :: after).foldl State.dispatchOrder s).loan
    (s.loans.counter + before.length) = some (s.newLoan o) := by
  obtain ⟨hnext, hcounter, -⟩ := State.Lendable.dispatched before h
  obtain ⟨-, -, hlater⟩ := State.Lendable.dispatched after (ys := []) (by simpa using hnext.dispatchOrder)
  have hm : (before.foldl State.dispatchOrder s).order m = some o := h.order_before.trans ho
  rw [hnext.counter_dispatchOrder, hcounter] at hlater
  rw [List.foldl_append, List.foldl_cons, hlater _ (by omega), hnext.loan_dispatchOrder hm, hcounter, if_pos rfl,
    State.newLoan_foldl_dispatchOrder]

theorem State.Lendable.dispatchOrder_at :
    (before.foldl State.dispatchOrder s).dispatchOrder m =
      ((before.foldl State.dispatchOrder s).lend m o).giveOut o (s.loans.counter + before.length) := by
  obtain ⟨hnext, hcounter, -⟩ := State.Lendable.dispatched before h
  rw [State.dispatchOrder_of_some _ (h.order_before.trans ho), hnext.loanNumber, hcounter]

/-- R48: the cartridge of an order that no other order of the list shares. -/
theorem State.Lendable.cart_at {c : Nat} (hitem : o.item = .cartridge c)
    (hother : ∀ a ∈ before ++ m :: after, a ≠ m → ∀ x, s.order a = some x → x.item ≠ .cartridge c) :
    ((before ++ m :: after).foldl State.dispatchOrder s).cart c =
      (s.cart c).map (Cartridge.lent (s.loans.counter + before.length)) := by
  obtain ⟨-, hnodup, hdisj⟩ := List.nodup_append.1 h.nodup
  have hbefore : ∀ a ∈ before, ∀ x, s.order a = some x → x.item ≠ .cartridge c :=
    fun a ha => hother a (List.mem_append_left _ ha) (hdisj a ha m List.mem_cons_self)
  have hafter : ∀ a ∈ after, ∀ x, ((before.foldl State.dispatchOrder s).dispatchOrder m).order a = some x →
      x.item ≠ .cartridge c := by
    intro a ha x hx
    rw [State.order_dispatchOrder] at hx
    split at hx
    · cases hx
    · next ham =>
      rw [State.order_foldl_dispatchOrder] at hx
      split at hx
      · cases hx
      · exact hother a (by simp [ha]) ham x hx
  rw [List.foldl_append, List.foldl_cons, State.cart_foldl_dispatchOrder after _ hafter, h.dispatchOrder_at ho,
    State.cart_giveOut_same _ hitem]
  exact congrArg _ (State.cart_foldl_dispatchOrder before s hbefore)

/-- R28: the copy of an order that no other order of the list shares. -/
theorem State.Lendable.copy_at {i : Nat} {copies : List Copy} {hold : List Nat} (hitem : o.item = .copy i)
    (ht : s.title o.title = some (.braille copies hold)) (hi : i < copies.length)
    (hother : ∀ a ∈ before ++ m :: after, a ≠ m → ∀ x, s.order a = some x → x.title = o.title → x.item ≠ .copy i) :
    ∃ left, ((before ++ m :: after).foldl State.dispatchOrder s).title o.title = some (.braille left hold) ∧
      left.getD i .absent = .onLoan (s.loans.counter + before.length) := by
  obtain ⟨-, hnodup, hdisj⟩ := List.nodup_append.1 h.nodup
  have hbefore : ∀ a ∈ before, ∀ x, s.order a = some x → x.title = o.title → x.item ≠ .copy i :=
    fun a ha => hother a (List.mem_append_left _ ha) (hdisj a ha m List.mem_cons_self)
  have hafter : ∀ a ∈ after, ∀ x, ((before.foldl State.dispatchOrder s).dispatchOrder m).order a = some x →
      x.title = o.title → x.item ≠ .copy i := by
    intro a ha x hx
    rw [State.order_dispatchOrder] at hx
    split at hx
    · cases hx
    · next ham =>
      rw [State.order_foldl_dispatchOrder] at hx
      split at hx
      · cases hx
      · exact hother a (by simp [ha]) ham x hx
  obtain ⟨mid, hmid, hmidlen, -⟩ := State.title_foldl_dispatchOrder before s ht hbefore
  have hat : ((before.foldl State.dispatchOrder s).dispatchOrder m).title o.title =
      some (.braille (mid.set i (.onLoan (s.loans.counter + before.length))) hold) := by
    rw [h.dispatchOrder_at ho, State.title_giveOut_same _ hitem]
    exact congrArg (Option.map _) hmid
  obtain ⟨left, hleft, -, hlefti⟩ := State.title_foldl_dispatchOrder after _ hat hafter
  refine ⟨left, ?_, hlefti.trans ?_⟩
  · rw [List.foldl_append, List.foldl_cons, hleft]
  · have hin : i < mid.length := hmidlen ▸ hi
    simp [List.getD_eq_getElem?_getD, hin]

end Place

end Sys2Proof.Machine

/-! ### Bags handed over (8.5): the unbagged queue drained -/

namespace Sys2Proof.Machine

/-! #### Tables -/

theorem Table.look_foldl_drop {α : Type} (l : List Nat) (t : Table α) (m : Nat) :
    (l.foldl (fun t n => t.drop n) t).look m = if m ∈ l then none else t.look m := by
  induction l generalizing t with
  | nil => rfl
  | cons n rest ih =>
    rw [List.foldl_cons, ih, Table.look_drop]
    by_cases hmn : m = n <;> simp [hmn]

theorem Table.put_put {α : Type} (t : Table α) (n : Nat) (v w : α) : (t.put n v).put n w = t.put n w := by
  induction t with
  | nil => simp [Table.put]
  | cons e rest ih =>
    obtain ⟨k, u⟩ := e
    by_cases hlt : n < k
    · simp [Table.put, hlt]
    · by_cases hk : n = k
      · simp [Table.put, hk]
      · simp [Table.put, hlt, hk, ih]

/-- A record put in its table and then altered. -/
theorem Table.alter_put {α : Type} (t : Table α) (hw : t.wf = true) (n : Nat) (v : α) (f : α → α) :
    (t.put n v).alter n f = t.put n (f v) := by
  rw [Table.alter_eq_put _ (Table.wf_put _ _ _ hw) (Table.look_put_same t n v), Table.put_put]

/-- R7: the first free number is one number. -/
theorem FirstFree.unique {α : Type} {last : Nat} {t : Table α} {counter n m : Nat} (hn : FirstFree last t counter n)
    (hm : FirstFree last t counter m) : n = m := by
  obtain ⟨k, rfl, hkfree, hktaken⟩ := hn
  obtain ⟨j, rfl, hjfree, hjtaken⟩ := hm
  rcases Nat.lt_trichotomy k j with hlt | rfl | hlt
  · exact absurd (hjtaken k hlt) (by simp [hkfree])
  · rfl
  · exact absurd (hktaken j hlt) (by simp [hjfree])

variable (s : State)

/-! #### The FILLING bag of a region (R136) -/

theorem State.fillingBag_eq_none {region : Nat}
    (h : ∀ e ∈ s.packing.bags, e.2.state = .filling → e.2.region ≠ region) : s.fillingBag region = none := by
  refine Option.map_eq_none_iff.2 (List.find?_eq_none.2 (fun e he hfit => ?_))
  obtain ⟨hregion, hfilling⟩ : e.2.region = region ∧ e.2.state = .filling := by simpa using hfit
  exact h e he hfilling hregion

theorem State.fillingBag_eq_some {region b : Nat} {g : Bag} (hg : s.bag b = some g) (hfilling : g.state = .filling)
    (hregion : g.region = region)
    (honly : ∀ e ∈ s.packing.bags, e.2.state = .filling → e.2.region = region → e.1 = b) :
    s.fillingBag region = some b := by
  cases hfind : s.packing.bags.find? (fun e => decide (e.2.region = region) && decide (e.2.state = .filling)) with
  | none =>
    have hunfit := List.find?_eq_none.1 hfind (b, g) (Table.mem_of_look _ hg)
    simp [hfilling, hregion] at hunfit
  | some e =>
    obtain ⟨heregion, hefilling⟩ : e.2.region = region ∧ e.2.state = .filling := by
      simpa using List.find?_some hfind
    rw [State.fillingBag, hfind, Option.map_some, honly e (List.mem_of_find?_eq_some hfind) hefilling heregion]

/-! #### One container of the queue (R136, R137, R139) -/

/-- R137: a container in its bag. -/
def Container.sealInto (b : Nat) (c : Container) : Container :=
  { c with state := .sealed, bag := some b }

/-- R136: a container at the tail of a bag. -/
def Bag.add (w : Nat) (g : Bag) : Bag :=
  { g with containers := g.containers ++ [w] }

/-- R139: the state with a container of the queue in a bag; the bags and their counter are given. -/
def State.bagged (w b : Nat) (bags : Table Bag) (counter : Nat) : State :=
  { s with packing := { s.packing with
      containers := s.packing.containers.alter w (Container.sealInto b)
      bags := bags
      bagCounter := counter
      unbagged := s.packing.unbagged.filter (· != w) } }

/-- R137, R139: the state with a container of the queue in a new bag of its region. -/
def State.opened (w b region : Nat) : State :=
  s.bagged w b (s.packing.bags.put b ⟨region, .filling, [w], false⟩) (nextNumber maxBagNumber b)

theorem State.joinBag_of_room {w b : Nat} {g : Bag} (hg : s.bag b = some g) (hroom : g.containers.length + 1 < bagCapacity) :
    s.joinBag w b = (s.onBag b (Bag.add w)).onContainer w (Container.sealInto b) := by
  have hlook : ((s.onBag b (Bag.add w)).onContainer w (Container.sealInto b)).bag b = some (g.add w) :=
    (Table.look_alter_same ..).trans (congrArg (Option.map _) hg)
  have hnot : ¬ bagCapacity ≤ (g.add w).containers.length := by
    rw [Bag.add, List.length_append, List.length_singleton]
    omega
  simp only [State.bag] at hlook
  simp only [State.joinBag]
  change (match ((s.onBag b (Bag.add w)).onContainer w (Container.sealInto b)).packing.bags.look b with
    | none => (s.onBag b (Bag.add w)).onContainer w (Container.sealInto b)
    | some g => if bagCapacity ≤ g.containers.length then _ else _) = _
  rw [hlook]
  exact if_neg hnot

section DrainOne
variable {w : Nat} {c : Container} (hc : s.container w = some c)
include hc

/-- R139: a container that finds a FILLING bag of its region with room. -/
theorem State.drainOne_joins {b : Nat} {g : Bag} (hb : s.fillingBag c.region = some b) (hg : s.bag b = some g)
    (hroom : g.containers.length + 1 < bagCapacity) :
    s.drainOne w = s.bagged w b (s.packing.bags.alter b (Bag.add w)) s.packing.bagCounter := by
  simp only [State.drainOne, hc, State.bagContainer, hb, s.joinBag_of_room hg hroom]
  rfl

/-- R137, R139: a container that opens a new bag. -/
theorem State.drainOne_opens (hw : s.packing.bags.wf = true) (hb : s.fillingBag c.region = none)
    (hroom : s.packing.bags.length < maxBags) {b : Nat}
    (hnumber : assignNumber maxBagNumber s.packing.bags s.packing.bagCounter = b) :
    s.drainOne w = s.opened w b c.region := by
  subst hnumber
  have hg : (s.newBag c.region).1.bag (s.newBag c.region).2 = some ⟨c.region, .filling, [], false⟩ :=
    Table.look_put_same ..
  have hput : ∀ b, s.packing.bags.put b ⟨c.region, .filling, [w], false⟩ =
      (s.packing.bags.put b ⟨c.region, .filling, [], false⟩).alter b (Bag.add w) :=
    fun b => (Table.alter_put _ hw b ⟨c.region, .filling, [], false⟩ (Bag.add w)).symm
  have hjoin := State.joinBag_of_room (w := w) _ hg (show 0 + 1 < bagCapacity by decide)
  simp only [State.drainOne, hc, State.bagContainer, hb, if_pos hroom, hjoin]
  rw [State.opened, State.bagged, hput]
  rfl

/-- R139: a container that finds neither a bag nor room for one. -/
theorem State.drainOne_waits (hb : s.fillingBag c.region = none) (hfull : maxBags ≤ s.packing.bags.length) :
    s.drainOne w = s := by
  simp only [State.drainOne, hc, State.bagContainer, hb, if_neg (Nat.not_lt.2 hfull)]

end DrainOne

/-! #### A queue of two -/

section DrainTwo
variable {s} {w₁ w₂ b : Nat} {c₁ c₂ : Container}

theorem State.container_opened_other (hne : w₁ ≠ w₂) (hc₂ : s.container w₂ = some c₂) (region : Nat) :
    (s.opened w₁ b region).container w₂ = some c₂ :=
  (Table.look_alter_other _ _ hne.symm).trans hc₂

variable (hqueue : s.packing.unbagged = [w₁, w₂]) (hc₁ : s.container w₁ = some c₁) (hw : s.packing.bags.wf = true)
  (hlen : s.packing.bags.length + 1 = maxBags)
  (hfilling : ∀ e ∈ s.packing.bags, e.2.state = .filling → e.2.region ≠ c₁.region ∧ e.2.region ≠ c₂.region)
  (hnumber : assignNumber maxBagNumber s.packing.bags s.packing.bagCounter = b)
include hqueue hc₁ hw hlen hfilling hnumber

/-- R139: the first container opens the new bag of its region. -/
theorem State.drain_two : s.drain = (s.opened w₁ b c₁.region).drainOne w₂ := by
  have hopens := s.drainOne_opens hc₁ hw (s.fillingBag_eq_none (fun e he hf => (hfilling e he hf).1)) (by omega) hnumber
  rw [State.drain, hqueue, List.foldl_cons, List.foldl_cons, List.foldl_nil, hopens]

variable (hne : w₁ ≠ w₂) (hc₂ : s.container w₂ = some c₂)
include hne hc₂

/-- R139: the second container is of the new bag's region. -/
theorem State.drain_two_joined (hregion : c₂.region = c₁.region) : s.drain = (s.opened w₁ b c₁.region).bagged w₂ b
    (s.packing.bags.put b ⟨c₁.region, .filling, [w₁, w₂], false⟩) (nextNumber maxBagNumber b) := by
  have hc := State.container_opened_other (b := b) hne hc₂ c₁.region
  have hg : (s.opened w₁ b c₁.region).bag b = some ⟨c₁.region, .filling, [w₁], false⟩ := Table.look_put_same ..
  have hfind := State.fillingBag_eq_some _ hg rfl hregion.symm (fun e he hf hr => by
    rcases Table.mem_put _ he with rfl | he
    · rfl
    · exact absurd hr (hfilling e he hf).2)
  rw [State.drain_two hqueue hc₁ hw hlen hfilling hnumber,
    State.drainOne_joins _ hc hfind hg (show 1 + 1 < bagCapacity by decide)]
  exact congrArg (fun bags => State.bagged _ w₂ b bags _) (Table.alter_put _ hw _ _ _)

/-- R139: the second container is of another region, and the bag table is full again. -/
theorem State.drain_two_waits (hfree : s.bag b = none) (hregion : c₂.region ≠ c₁.region) :
    s.drain = s.opened w₁ b c₁.region := by
  have hc := State.container_opened_other (b := b) hne hc₂ c₁.region
  have hlen' : (s.opened w₁ b c₁.region).packing.bags.length = maxBags :=
    (Table.put_perm _ _ hfree).length_eq.trans hlen
  rw [State.drain_two hqueue hc₁ hw hlen hfilling hnumber]
  refine State.drainOne_waits _ hc (State.fillingBag_eq_none _ (fun e he hf => ?_)) hlen'.ge
  rcases Table.mem_put _ he with rfl | he
  · exact hregion.symm
  · exact (hfilling e he hf).2

end DrainTwo

end Sys2Proof.Machine

/-! ### BAG_HANDED (8.5) -/

namespace Sys2Proof.Machine

variable (s : State)

/-! #### The bag gone, before the drain (R140, R141) -/

/-- R140, R141: the orders become loans, bag and containers leave their tables, and DISPATCHED is raised. -/
def State.handedOver (n : Nat) (g : Bag) (items : List Nat) : State :=
  ((items.foldl State.dispatchOrder s).removeBag n g.containers).raise .circulation .dispatched n
    [u1 g.region, u1 g.containers.length, u1 items.length, mark g.atCutoff]

theorem State.itemsOf_eq (n : Nat) : s.itemsOf n = ((s.container n).map Container.items).getD [] := by
  unfold State.itemsOf
  split
  · next h => rw [h]; rfl
  · next h => rw [h]; rfl

theorem bagHanded_filling {n : Nat} {g : Bag} (hn : n ≠ 0) (hg : s.bag n = some g) (hst : g.state = .filling) :
    bagHanded n s = refuse s .wrongState 0 := by
  simp [bagHanded, firstBad, hn, hg, hst]

theorem bagHanded_closed {n : Nat} {g : Bag} (hn : n ≠ 0) (hg : s.bag n = some g) (hst : g.state = .closed)
    {items : List Nat} (hitems : items = (g.containers.map (fun k => ((s.container k).map Container.items).getD [])).flatten) :
    bagHanded n s = answer (s.handedOver n g items).drain .accepted [u1 g.containers.length, u1 items.length,
      u1 ((s.handedOver n g items).packing.unbagged.length - (s.handedOver n g items).drain.packing.unbagged.length),
      u2 (s.handedOver n g items).drain.packing.unbagged.length] := by
  have hitemsOf : (g.containers.map s.itemsOf).flatten = items := by
    rw [hitems]
    exact congrArg _ (List.map_congr_left (fun k _ => s.itemsOf_eq k))
  simp only [bagHanded, firstBad, hn, hg, hst, decide_false, Option.map_none, hitemsOf]
  rfl

section HandedOver
variable (n : Nat) (g : Bag) (items : List Nat)

theorem State.packing_handedOver : (s.handedOver n g items).packing = { s.packing with
    containers := g.containers.foldl (fun t n => t.drop n) s.packing.containers, bags := s.packing.bags.drop n } := by
  rw [State.handedOver, State.raise_packing, State.removeBag, s.packing_foldl_dispatchOrder]

theorem State.bag_handedOver (a : Nat) : (s.handedOver n g items).bag a = if a = n then none else s.bag a := by
  rw [State.bag, State.packing_handedOver, Table.look_drop]
  rfl

theorem State.container_handedOver (k : Nat) :
    (s.handedOver n g items).container k = if k ∈ g.containers then none else s.container k := by
  rw [State.container, State.packing_handedOver, Table.look_foldl_drop]
  rfl

theorem State.order_handedOver (m : Nat) :
    (s.handedOver n g items).order m = if m ∈ items then none else s.order m :=
  State.order_foldl_dispatchOrder items s m

theorem State.ports_handedOver : (s.handedOver n g items).ports = (s.raise .circulation .dispatched n
    [u1 g.region, u1 g.containers.length, u1 items.length, mark g.atCutoff]).ports := by
  obtain ⟨hports, -, -, -, hclock, -, -, -, -⟩ := s.foldl_dispatchOrder_frame items
  have hports' : ((items.foldl State.dispatchOrder s).removeBag n g.containers).ports = s.ports := hports
  have hclock' : ((items.foldl State.dispatchOrder s).removeBag n g.containers).clock = s.clock := hclock
  rw [State.handedOver, State.raise_ports, hports', hclock', State.raise_ports]

end HandedOver

/-! #### A bag of one item (R140, R145) -/

theorem Order.item_of_serial {o : Order} {c : Nat} (hf : o.format = .cartridge) (hc : o.serial = some c) :
    o.item = .cartridge c := by
  rw [Order.item, hf, hc]
  rfl

theorem Order.item_of_copy {o : Order} {i : Nat} (hf : o.format = .braille) (hi : o.copy = some i) :
    o.item = .copy i := by
  rw [Order.item, hf, hi]
  rfl

theorem State.newLoan_of_item {o : Order} {item : Item} (h : o.item = item) : s.newLoan o =
    ⟨o.patron, o.title, item, s.clock.day, min 65535 (s.clock.day + s.loans.period), .out⟩ := by
  subst h
  rfl

/-- R145: one order takes the first free number from the counter on. -/
theorem State.loans_dispatchOrder_counter (h1 : 1 ≤ s.loans.counter) (h2 : s.loans.counter ≤ 65535) {m : Nat} {o : Order}
    (ho : s.order m = some o) : (s.dispatchOrder m).loans = { s.loans with
      loans := s.loans.loans.put s.loanNumber (s.newLoan o)
      counter := if s.loanNumber = 65535 then 1 else s.loanNumber + 1 } := by
  obtain ⟨-, hrange⟩ : 1 ≤ s.loanNumber ∧ s.loanNumber ≤ maxNumber := assignNumber_range _ h1 h2
  rw [s.loans_dispatchOrder ho, nextNumber_eq _ hrange]

section One
variable {s} {m : Nat} {o : Order} (ho : s.order m = some o)
include ho

theorem State.dispatchOrder_cartridge {c : Nat} {k : Cartridge} (hitem : o.item = .cartridge c)
    (hk : s.cart c = some k) :
    (s.dispatchOrder m).cart c = some { k with state := .onLoan, bound := .loan s.loanNumber } ∧
    (∀ a, a ≠ c → (s.dispatchOrder m).cart a = s.cart a) ∧ (s.dispatchOrder m).titles = s.titles := by
  rw [s.dispatchOrder_of_some ho]
  refine ⟨?_, fun a ha => ?_, ?_⟩
  · rw [State.cart_giveOut_same _ hitem, show (s.lend m o).cart c = some k from hk]
    rfl
  · have hother : o.item ≠ .cartridge a := fun h => ha (Item.cartridge.inj (h.symm.trans hitem))
    exact State.cart_giveOut_other _ hother _
  · rw [State.giveOut_cartridge _ hitem]
    rfl

theorem State.dispatchOrder_copy {i : Nat} {copies : List Copy} {hold : List Nat} (hitem : o.item = .copy i)
    (ht : s.title o.title = some (.braille copies hold)) :
    (s.dispatchOrder m).title o.title = some (.braille (copies.set i (.onLoan s.loanNumber)) hold) ∧
    (∀ a, a ≠ o.title → (s.dispatchOrder m).title a = s.title a) ∧ (s.dispatchOrder m).carts = s.carts := by
  rw [s.dispatchOrder_of_some ho]
  refine ⟨?_, fun a ha => State.title_giveOut_other _ (fun _ _ => ha) _, ?_⟩
  · rw [State.title_giveOut_same _ hitem, show (s.lend m o).title o.title = some (.braille copies hold) from ht]
    rfl
  · rw [State.giveOut_copy _ hitem]
    rfl

end One

/-! #### A bag of several items (R145) -/

/-- An entry of a list stands between those before it and those after it. -/
theorem getElem?_split {l : List Nat} {j m : Nat} (h : l[j]? = some m) :
    ∃ before after, l = before ++ m :: after ∧ before.length = j := by
  obtain ⟨hj, rfl⟩ := List.getElem?_eq_some_iff.1 h
  exact ⟨l.take j, l.drop (j + 1), by rw [List.getElem_cons_drop, List.take_append_drop], List.length_take_of_le hj.le⟩

section Several
variable {s} {items : List Nat} (h : s.Lendable items) {j m : Nat} {o : Order} (hm : items[j]? = some m)
  (ho : s.order m = some o)
include h hm ho

theorem State.Lendable.loan_getElem : (items.foldl State.dispatchOrder s).loan (s.loans.counter + j) =
    some (s.newLoan o) := by
  obtain ⟨before, after, rfl, rfl⟩ := getElem?_split hm
  exact h.loan_at ho

/-- R48. -/
theorem State.Lendable.cart_getElem {c : Nat} (hf : o.format = .cartridge) (hc : o.serial = some c)
    (hother : ∀ a ∈ items, a ≠ m → ∀ x, s.order a = some x → x.format = .cartridge →
      x.serial ≠ some c ∧ x.serial ≠ none) :
    (items.foldl State.dispatchOrder s).cart c =
      (s.cart c).map (fun k => { k with state := .onLoan, bound := .loan (s.loans.counter + j) }) := by
  obtain ⟨before, after, rfl, rfl⟩ := getElem?_split hm
  refine h.cart_at ho (Order.item_of_serial hf hc) (fun a ha ham x hx hitem => ?_)
  cases hfx : x.format with
  | braille =>
    rw [Order.item, hfx] at hitem
    cases hitem
  | cartridge =>
    obtain ⟨hother, hnone⟩ := hother a ha ham x hx hfx
    obtain ⟨d, hd⟩ := Option.ne_none_iff_exists'.1 hnone
    rw [Order.item_of_serial hfx hd] at hitem
    cases hitem
    exact hother hd

/-- R28. -/
theorem State.Lendable.copy_getElem {i : Nat} {copies : List Copy} {hold : List Nat} (hf : o.format = .braille)
    (hi : o.copy = some i) (ht : s.title o.title = some (.braille copies hold)) (hlt : i < copies.length)
    (hother : ∀ a ∈ items, a ≠ m → ∀ x, s.order a = some x → x.format = .braille → x.title = o.title →
      x.copy ≠ some i ∧ x.copy ≠ none) :
    ∃ left, (items.foldl State.dispatchOrder s).title o.title = some (.braille left hold) ∧
      left.getD i .absent = .onLoan (s.loans.counter + j) := by
  obtain ⟨before, after, rfl, rfl⟩ := getElem?_split hm
  refine h.copy_at ho (Order.item_of_copy hf hi) ht hlt (fun a ha ham x hx hxt hitem => ?_)
  cases hfx : x.format with
  | cartridge =>
    rw [Order.item, hfx] at hitem
    cases hitem
  | braille =>
    obtain ⟨hother, hnone⟩ := hother a ha ham x hx hfx hxt
    obtain ⟨d, hd⟩ := Option.ne_none_iff_exists'.1 hnone
    rw [Order.item_of_copy hfx hd] at hitem
    cases hitem
    exact hother hd

end Several

/-! #### The drain of a queue of two after the bag (R139) -/

theorem State.container_bagged (w b k : Nat) (bags : Table Bag) (counter : Nat) :
    (s.bagged w b bags counter).container k =
      if k = w then (s.container w).map (Container.sealInto b) else s.container k :=
  Table.look_alter ..

theorem FirstFree.le {α : Type} {last : Nat} {t : Table α} {counter n : Nat} (hlast : 1 ≤ last)
    (h : FirstFree last t counter n) : n ≤ last := by
  obtain ⟨k, rfl, -, -⟩ := h
  exact Nat.mod_lt _ hlast

theorem nextNumber_bag {b : Nat} (h : b ≤ 255) : nextNumber maxBagNumber b = if b = 255 then 1 else b + 1 := by
  unfold nextNumber maxBagNumber
  by_cases hb : b = 255
  · simp [hb]
  · simp [hb, show ¬ 255 ≤ b by omega]

section Drain
variable {s} {n w₁ w₂ b : Nat} {g : Bag} {c₁ c₂ : Container} (items : List Nat) (hg : s.bag n = some g)
  (hqueue : s.packing.unbagged = [w₁, w₂]) (hne : w₁ ≠ w₂) (hw₁ : w₁ ∉ g.containers) (hw₂ : w₂ ∉ g.containers)
  (hc₁ : s.container w₁ = some c₁) (hc₂ : s.container w₂ = some c₂) (hw : s.packing.bags.wf = true)
  (hlen : s.packing.bags.length = 16)
  (hfilling : ∀ e ∈ s.packing.bags, e.2.state = .filling → e.2.region ≠ c₁.region ∧ e.2.region ≠ c₂.region)
  (h1 : 1 ≤ s.packing.bagCounter) (h2 : s.packing.bagCounter ≤ 255)
  (hb : FirstFree 255 (s.packing.bags.drop n) s.packing.bagCounter b)
include hg hqueue hne hw₁ hw₂ hc₁ hc₂ hw hlen hfilling h1 h2 hb

/-- R139: with 16 bags in the table, the bag that leaves makes room for one. -/
theorem State.drain_handedOver : (s.handedOver n g items).drain = if c₂.region = c₁.region
    then ((s.handedOver n g items).opened w₁ b c₁.region).bagged w₂ b
      ((s.handedOver n g items).packing.bags.put b ⟨c₁.region, .filling, [w₁, w₂], false⟩) (nextNumber maxBagNumber b)
    else (s.handedOver n g items).opened w₁ b c₁.region := by
  have hpacking := s.packing_handedOver n g items
  have hbags : (s.handedOver n g items).packing.bags = s.packing.bags.drop n := by rw [hpacking]
  have hcounter : (s.handedOver n g items).packing.bagCounter = s.packing.bagCounter := by rw [hpacking]
  have hq : (s.handedOver n g items).packing.unbagged = [w₁, w₂] := by rw [hpacking, ← hqueue]
  have hlook₁ : (s.handedOver n g items).container w₁ = some c₁ := by rw [State.container_handedOver, if_neg hw₁, hc₁]
  have hlook₂ : (s.handedOver n g items).container w₂ = some c₂ := by rw [State.container_handedOver, if_neg hw₂, hc₂]
  have hwf : (s.handedOver n g items).packing.bags.wf = true := hbags ▸ Table.wf_drop _ n hw
  have hroom : (s.handedOver n g items).packing.bags.length + 1 = maxBags := by
    rw [hbags]
    exact (Table.drop_perm _ hw hg).length_eq.symm.trans hlen
  have hfilling' : ∀ e ∈ (s.handedOver n g items).packing.bags, e.2.state = .filling →
      e.2.region ≠ c₁.region ∧ e.2.region ≠ c₂.region := by
    intro e he
    rw [hbags] at he
    exact hfilling e (Table.mem_drop _ he).1
  have hshort : (s.packing.bags.drop n).length < 255 := by
    rw [← hbags]
    simp only [maxBags] at hroom
    omega
  have hnumber : assignNumber maxBagNumber (s.handedOver n g items).packing.bags
      (s.handedOver n g items).packing.bagCounter = b := by
    rw [hbags, hcounter]
    exact FirstFree.unique (assignNumber_firstFree _ h1 h2 hshort) hb
  split
  · next hregion => exact State.drain_two_joined hq hlook₁ hwf hroom hfilling' hnumber hne hlook₂ hregion
  · next hregion =>
    obtain ⟨-, -, hfree, -⟩ := hb
    have hfree' : (s.handedOver n g items).bag b = none := by rw [State.bag, hbags, hfree]
    exact State.drain_two_waits hq hlook₁ hwf hroom hfilling' hnumber hne hlook₂ hfree' hregion

/-- R139: what the drained queue, the bags and the two containers are then; the rest is as the bag left it. -/
theorem State.drain_handedOver_facts {both : Bool} (hboth : both = decide (c₂.region = c₁.region)) :
    (s.handedOver n g items).drain.packing.unbagged = (if both then [] else [w₂]) ∧
    (s.handedOver n g items).drain.bag b = some ⟨c₁.region, .filling, if both then [w₁, w₂] else [w₁], false⟩ ∧
    (∀ a, a ≠ b → a ≠ n → (s.handedOver n g items).drain.bag a = s.bag a) ∧
    (s.handedOver n g items).drain.packing.bagCounter = (if b = 255 then 1 else b + 1) ∧
    (s.handedOver n g items).drain.container w₁ = some { c₁ with state := .sealed, bag := some b } ∧
    (s.handedOver n g items).drain.container w₂ = some (if both then { c₂ with state := .sealed, bag := some b } else c₂) ∧
    (s.handedOver n g items).drain.ports = (s.handedOver n g items).ports := by
  have hdrain := State.drain_handedOver items hg hqueue hne hw₁ hw₂ hc₁ hc₂ hw hlen hfilling h1 h2 hb
  have hq : (s.handedOver n g items).packing.unbagged = [w₁, w₂] := by rw [s.packing_handedOver, ← hqueue]
  have hlook₁ : (s.handedOver n g items).container w₁ = some c₁ := by rw [State.container_handedOver, if_neg hw₁, hc₁]
  have hlook₂ : (s.handedOver n g items).container w₂ = some c₂ := by rw [State.container_handedOver, if_neg hw₂, hc₂]
  have hbag : ∀ a, a ≠ n → (s.handedOver n g items).bag a = s.bag a := by
    intro a ha
    rw [State.bag_handedOver, if_neg ha]
  have hnext := nextNumber_bag (FirstFree.le (by decide) hb)
  have hleft₁ : [w₁, w₂].filter (· != w₁) = [w₂] := by simp [hne.symm]
  have hleft₂ : [w₂].filter (· != w₂) = [] := by simp
  by_cases hregion : c₂.region = c₁.region
  · obtain rfl : both = true := hboth.trans (decide_eq_true hregion)
    rw [hdrain, if_pos hregion]
    refine ⟨?_, Table.look_put_same .., fun a hab han => (Table.look_put_other _ _ hab).trans (hbag a han), hnext,
      ?_, ?_, rfl⟩
    · rw [State.bagged, State.opened, State.bagged, hq, hleft₁, hleft₂, if_pos rfl]
    · rw [State.container_bagged, if_neg hne, State.opened, State.container_bagged, if_pos rfl, hlook₁]
      rfl
    · rw [State.container_bagged, if_pos rfl, State.opened, State.container_bagged, if_neg hne.symm, hlook₂]
      rfl
  · obtain rfl : both = false := hboth.trans (decide_eq_false hregion)
    rw [hdrain, if_neg hregion]
    refine ⟨?_, Table.look_put_same .., fun a hab han => (Table.look_put_other _ _ hab).trans (hbag a han), hnext,
      ?_, State.container_opened_other hne hlook₂ _, rfl⟩
    · rw [State.opened, State.bagged, hq, hleft₁]
      rfl
    · rw [State.opened, State.container_bagged, if_pos rfl, hlook₁]
      rfl

end Drain

/-- Settles O56: the orders one by one, then the drain. -/
theorem handedBagsBecomeLoans : Obligations.HandedBagsBecomeLoans := by
  intro s h n g ht hn hg
  refine ⟨fun hst => congrArg _ (request_refuse ht (bagHanded_filling (s.clocked h) hn hg hst)),
    fun hst items hitems => ?_⟩
  have hacc := bagHanded_closed (s.clocked h) hn hg hst hitems
  have hpacking := (s.clocked h).packing_handedOver n g items
  have hports := (s.clocked h).ports_handedOver n g items
  have horders := (s.clocked h).order_handedOver n g items
  obtain ⟨-, hqueue, hbays, hrack, hclock, hlane, hpending, -, hpatrons⟩ :=
    (s.clocked h).foldl_dispatchOrder_frame items
  refine ⟨fun hempty => ?_, fun w₁ w₂ c₁ c₂ b hunbagged hne hw₁ hw₂ hc₁ hc₂ hw hlen hfilling h1 h2 hb both hboth => ?_⟩
  · have hnone : ((s.clocked h).handedOver n g items).packing.unbagged = [] := by
      rw [hpacking]
      exact hempty
    have hdrain : ((s.clocked h).handedOver n g items).drain = (s.clocked h).handedOver n g items := by
      rw [State.drain, hnone, List.foldl_nil]
    rw [hdrain, hnone] at hacc
    refine ⟨_, congrArg _ (request_answer ht hacc), ?_, fun a ha => ?_, (s.clocked h).container_handedOver n g items,
      horders, hports, hnone, hpatrons, hqueue, hbays, hrack, hclock, hlane, hpending,
      fun m o hone ho hlen h1 h2 => ?_, fun hnodup hsome h1 hrange hfree => ?_⟩
    · rw [State.bag_handedOver, if_pos rfl]
    · rw [State.bag_handedOver, if_neg ha]
      rfl
    · subst hone
      have ho' : (s.clocked h).order m = some o := ho
      have hloans := (s.clocked h).loans_dispatchOrder_counter h1 h2 ho'
      refine ⟨(s.clocked h).loanNumber, assignNumber_firstFree _ h1 h2 hlen, fun c k hf hc hk => ?_,
        fun i copies hold hf hi htitle => ?_⟩
      · have hitem := Order.item_of_serial hf hc
        rw [State.newLoan_of_item _ hitem] at hloans
        exact ⟨hloans, State.dispatchOrder_cartridge ho' hitem hk⟩
      · have hitem := Order.item_of_copy hf hi
        rw [State.newLoan_of_item _ hitem] at hloans
        exact ⟨hloans, State.dispatchOrder_copy ho' hitem htitle⟩
    · have hlendable : (s.clocked h).Lendable items := ⟨hnodup, hsome, hrange, hfree⟩
      obtain ⟨-, hcounter, hothers⟩ := State.Lendable.dispatched items (ys := []) (by rwa [List.append_nil])
      refine ⟨hcounter, hothers, fun j m o hm ho => ⟨fun c hf hc => ⟨?_, ?_⟩, fun i hf hi => ⟨?_, ?_⟩⟩⟩
      · exact (hlendable.loan_getElem hm ho).trans (congrArg some (State.newLoan_of_item _ (Order.item_of_serial hf hc)))
      · exact hlendable.cart_getElem hm ho hf hc
      · exact (hlendable.loan_getElem hm ho).trans (congrArg some (State.newLoan_of_item _ (Order.item_of_copy hf hi)))
      · exact fun copies hold htitle hlt => hlendable.copy_getElem hm ho hf hi htitle hlt
  · obtain ⟨hleft, hopened, hbags, hnext, hcont₁, hcont₂, hquiet⟩ := State.drain_handedOver_facts (s := s.clocked h)
      items hg hunbagged hne hw₁ hw₂ hc₁ hc₂ hw hlen hfilling h1 h2 hb hboth
    obtain ⟨-, -, hkept, hbook, -⟩ := ((s.clocked h).handedOver n g items).drain_frame
    have hq : ((s.clocked h).handedOver n g items).packing.unbagged = [w₁, w₂] := by
      rw [hpacking]
      exact hunbagged
    have hdrained : [u1 g.containers.length, u1 items.length, u1 ([w₁, w₂].length - (if both then [] else [w₂]).length),
        u2 (if both then [] else [w₂]).length] =
        [u1 g.containers.length, u1 items.length, u1 (if both then 2 else 1), u2 (if both then 0 else 1)] := by
      cases both <;> rfl
    rw [hleft, hq, hdrained] at hacc
    refine ⟨_, congrArg _ (request_answer ht hacc), hleft, hopened, hbags, hnext, hcont₁, hcont₂, fun m => ?_,
      hkept.trans hpatrons, hquiet.trans hports⟩
    rw [State.order, hbook]
    exact horders m

end Sys2Proof.Machine

/-! ### The ledger of a state

Who has which cartridge: the cartridge of each order, loan and bay, and the cartridges with the pool and the backlog.
The sixth law of the device is a law of the ledger, one cartridge at a time: what a cartridge names has that cartridge.
That what an order, a bay or a loan names is bound to it is a law of the scene. -/

namespace Sys2Proof.Machine

structure Ledger where
  cart : Nat → Option Cartridge
  pool : List Nat
  backlog : List Nat
  /-- The cartridge of an order. -/
  serial : Nat → Option Nat
  /-- The cartridge of a loan. -/
  lent : Nat → Option Nat
  /-- The state of a bay, and its cartridge. -/
  berth : Nat → BayState × Option Nat
  queue : List Nat
  size : Nat → Option Nat

def Bay.berth (r : Bay) : BayState × Option Nat :=
  (r.state, r.cartridge)

def State.ledger (s : State) : Ledger where
  cart := s.cart
  pool := s.carts.pool
  backlog := s.carts.backlog
  serial n := (s.order n).bind Order.serial
  lent l := (s.loan l).bind (fun v => v.item.serial)
  berth b := (s.bay b).berth
  queue := s.book.queue
  size t := (s.title t).bind Title.size

/-! #### The laws of a ledger -/

/-- R51, R52: how often a cartridge stands in the queue of the cartridges of a state, once where it has that state and
no bay. -/
def Cartridge.standing (st : CartridgeState) : Option Cartridge → Nat
  | none => 0
  | some k => if k.state = st ∧ k.bay = none then 1 else 0

namespace Ledger

variable {L L' : Ledger} {c n b : Nat} {k : Cartridge}

/-- Table 3-2: what a cartridge names has it, and its extent goes with its state. -/
structure Held (L : Ledger) (c : Nat) (k : Cartridge) : Prop where
  order : ∀ n, k.bound = .order n → L.serial n = some c
  loan : ∀ l, k.bound = .loan l → L.lent l = some c
  unbound : k.bound = .unbound → k.state.spare
  bay : ∀ b, k.bay = some b → (L.berth b).2 = some c
  clean : k.state = .blank → k.dirty = 0
  dirty : k.state ≠ .blank → k.state ≠ .retired → 1 ≤ k.dirty

/-- R43: one cartridge, as Table 3-2 and its queue have it. -/
structure Kept (L : Ledger) (c : Nat) : Prop where
  held : ∀ k, L.cart c = some k → L.Held c k
  pool : L.pool.count c = Cartridge.standing .blank (L.cart c)
  backlog : L.backlog.count c = Cartridge.standing .needsBlank (L.cart c)

/-- R43 (the sixth law of the device), with what the bay arbiter needs: no waiting order has a cartridge, an ARMED bay
has a BLANK one, and no image is empty. -/
structure Custody (L : Ledger) : Prop where
  kept : ∀ c, L.Kept c
  queued : ∀ n ∈ L.queue, L.serial n = none
  armed : ∀ b, (L.berth b).1 = .armed → ∃ c k, (L.berth b).2 = some c ∧ L.cart c = some k ∧ k.state = .blank ∧
    k.bay = some b
  sizes : ∀ t m, L.size t = some m → 1 ≤ m

/-- An act on one cartridge: what another cartridge names has that one still. -/
structure Deal (L L' : Ledger) (c : Nat) : Prop where
  cart : ∀ d, d ≠ c → L'.cart d = L.cart d := by grind
  pool : ∀ d, d ≠ c → L'.pool.count d = L.pool.count d := by grind
  backlog : ∀ d, d ≠ c → L'.backlog.count d = L.backlog.count d := by grind
  serial : ∀ m d, d ≠ c → L.serial m = some d → L'.serial m = some d := by grind
  lent : ∀ l d, d ≠ c → L.lent l = some d → L'.lent l = some d := by grind
  berth : ∀ j d, d ≠ c → (L.berth j).2 = some d → (L'.berth j).2 = some d := by grind
  queued : ∀ m ∈ L'.queue, L'.serial m = none := by grind
  armed : ∀ j, (L'.berth j).1 = .armed → (L'.berth j = L.berth j ∧ (L.berth j).2 ≠ some c) ∨
    ∃ k, (L'.berth j).2 = some c ∧ L'.cart c = some k ∧ k.state = .blank ∧ k.bay = some j := by grind
  size : L'.size = L.size := by grind
  held : ∀ k, L'.cart c = some k → L'.Held c k := by grind
  standing : L'.pool.count c = Cartridge.standing .blank (L'.cart c) ∧
    L'.backlog.count c = Cartridge.standing .needsBlank (L'.cart c) := by grind

theorem Custody.deal (hL : L.Custody) (h : L.Deal L' c) : L'.Custody where
  kept d := by
    by_cases hd : d = c
    · exact hd ▸ ⟨h.held, h.standing.1, h.standing.2⟩
    · obtain ⟨held, pool, backlog⟩ := hL.kept d
      rw [← h.cart d hd] at held pool backlog
      refine ⟨fun k hk => ?_, (h.pool d hd).trans pool, (h.backlog d hd).trans backlog⟩
      obtain ⟨order, loan, unbound, bay, clean, dirty⟩ := held k hk
      exact ⟨fun m hm => h.serial m d hd (order m hm), fun l hl => h.lent l d hd (loan l hl), unbound,
        fun j hj => h.berth j d hd (bay j hj), clean, dirty⟩
  queued := h.queued
  armed j hj := by
    rcases h.armed j hj with ⟨hsame, hne⟩ | ⟨k, hk⟩
    · obtain ⟨d, k, hd, hk, hblank⟩ := hL.armed j (hsame ▸ hj)
      have hdc : d ≠ c := fun hdc => hne (hdc ▸ hd)
      exact ⟨d, k, hsame ▸ hd, (h.cart d hdc).trans hk, hblank⟩
    · exact ⟨c, k, hk⟩
  sizes t m ht := hL.sizes t m (h.size ▸ ht)

/-- An ARMED bay's cartridge. -/
theorem Custody.of_armed (hL : L.Custody) (hk : L.cart c = some k) (hb : (L.berth b).1 = .armed)
    (hc : (L.berth b).2 = some c) : k.state = .blank ∧ k.bay = some b := by
  obtain ⟨d, v, hd, hv, hblank⟩ := hL.armed b hb
  cases hd.symm.trans hc
  cases hv.symm.trans hk
  exact hblank

/-- Orders that join the pending queue have no cartridge. -/
theorem Custody.requeue (hL : L.Custody) {q : List Nat} (hq : ∀ m ∈ q, m ∈ L.queue ∨ L.serial m = none) :
    Custody { L with queue := q } where
  kept c := ⟨fun k hk => let h := (hL.kept c).held k hk; ⟨h.order, h.loan, h.unbound, h.bay, h.clean, h.dirty⟩,
    (hL.kept c).pool, (hL.kept c).backlog⟩
  queued m hm := (hq m hm).elim (hL.queued m) id
  armed := hL.armed
  sizes := hL.sizes

/-- A cartridge that an order has is bound to no other order. -/
theorem Custody.bound_order (hL : L.Custody) (hk : L.cart c = some k) (hn : k.bound = .order n) : L.serial n = some c :=
  ((hL.kept c).held k hk).order n hn

/-- The places of a cartridge in the pool and the backlog. -/
theorem Custody.standing (hL : L.Custody) (hk : L.cart c = some k) :
    L.pool.count c = Cartridge.standing .blank (some k) ∧ L.backlog.count c = Cartridge.standing .needsBlank (some k) :=
  ⟨hk ▸ (hL.kept c).pool, hk ▸ (hL.kept c).backlog⟩

end Ledger

end Sys2Proof.Machine

/-! ### The ledger of a state after each act

One equation for each update of a state, and one for each act that leaves the ledger. -/

namespace Sys2Proof.Machine

variable (s : State)

/-! #### The updates that change the ledger -/

theorem State.ledger_onCart (c : Nat) (f : Cartridge → Cartridge) :
    (s.onCart c f).ledger = { s.ledger with cart := Function.update s.ledger.cart c ((s.cart c).map f) } := by
  simp only [State.ledger]
  congr 1
  funext d
  simp only [State.cart, State.onCart_carts, Table.look_alter, Function.update_apply]

theorem State.ledger_joinPool (c : Nat) :
    (s.joinPool c).ledger = { s.ledger with pool := s.ledger.pool ++ [c] } := rfl

theorem State.ledger_joinBacklog (c : Nat) :
    (s.joinBacklog c).ledger = { s.ledger with backlog := s.ledger.backlog ++ [c] } := rfl

theorem State.ledger_leaveQueues (c : Nat) : (s.leaveQueues c).ledger =
    { s.ledger with pool := s.ledger.pool.filter (· != c), backlog := s.ledger.backlog.filter (· != c) } := rfl

theorem State.ledger_setBay {b : Nat} (hb : b < s.bays.length) (r : Bay) :
    (s.setBay b r).ledger = { s.ledger with berth := Function.update s.ledger.berth b r.berth } := by
  simp only [State.ledger]
  congr 1
  funext a
  simp only [Function.update_apply]
  split
  · next h => rw [h, s.bay_setBay_same hb]
  · next h => rw [s.bay_setBay_other h]

theorem State.ledger_onOrder (n : Nat) (f : Order → Order) : (s.onOrder n f).ledger =
    { s.ledger with serial := Function.update s.ledger.serial n ((s.order n).bind (fun o => (f o).serial)) } := by
  simp only [State.ledger]
  congr 1
  funext m
  simp only [State.order, State.onOrder_book, Table.look_alter, Function.update_apply]
  split
  · cases s.book.orders.look n <;> rfl
  · rfl

theorem State.ledger_dropOrder (n : Nat) :
    (s.dropOrder n).ledger = { s.ledger with serial := Function.update s.ledger.serial n none } := by
  simp only [State.ledger]
  congr 1
  funext m
  simp only [State.order, State.dropOrder, Table.look_drop, Function.update_apply]
  split <;> rfl

theorem State.ledger_setQueue (q : List Nat) : (s.setQueue q).ledger = { s.ledger with queue := q } := rfl

/-! #### The updates that leave the ledger -/

@[simp] theorem State.ledger_raise (p : Port) (k : NoticeKind) (n : Nat) (d : List Field) :
    (s.raise p k n d).ledger = s.ledger := rfl
@[simp] theorem State.ledger_onRack (f : Scheduler → Scheduler) : (s.onRack f).ledger = s.ledger := rfl

theorem State.ledger_onOrder_of (n : Nat) {f : Order → Order} (hf : ∀ o, (f o).serial = o.serial) :
    (s.onOrder n f).ledger = s.ledger := by
  rw [s.ledger_onOrder, funext hf]
  exact congrArg (fun g => { s.ledger with serial := g }) (Function.update_eq_self n s.ledger.serial)

theorem State.ledger_setBay_of {b : Nat} (hb : b < s.bays.length) {r : Bay} (hr : r.berth = (s.bay b).berth) :
    (s.setBay b r).ledger = s.ledger := by
  rw [s.ledger_setBay hb, hr]
  exact congrArg (fun g => { s.ledger with berth := g }) (Function.update_eq_self b s.ledger.berth)

/-- A change of a title that leaves its image size. -/
@[simp] theorem State.ledger_onTitle (t : Nat) {f : Title → Title} (hf : ∀ v, (f v).size = v.size) :
    (s.onTitle t f).ledger = s.ledger := by
  simp only [State.ledger]
  congr 1
  funext m
  simp only [State.title, State.onTitle_titles, Table.look_alter]
  split
  · next h =>
    subst h
    cases s.titles.look m with
    | none => rfl
    | some v => exact hf v
  · rfl

@[simp] theorem Title.setCopy_size (v : Title) (i : Nat) (x : Copy) : (v.setCopy i x).size = v.size := by
  cases v <;> rfl

@[simp] theorem Title.leaveHold_size (v : Title) (n : Nat) : (v.leaveHold n).size = v.size := by
  cases v <;> rfl

@[simp] theorem Title.joinHold_size (v : Title) (rush : Nat → Bool) (n : Nat) : (v.joinHold rush n).size = v.size := by
  cases v <;> rfl

/-- An act that leaves the scene, the cartridges and the catalogue. -/
theorem State.ledger_of_scene {s t : State} (hscene : t.scene = s.scene) (hcarts : t.carts = s.carts)
    (htitles : t.titles = s.titles) : t.ledger = s.ledger := by
  have hserial (u : State) (n : Nat) : u.ledger.serial n = (u.scene.order n).bind OrderCore.serial := by
    simp only [State.ledger, State.scene]
    cases u.order n <;> rfl
  have hlent (u : State) (l : Nat) : u.ledger.lent l = (u.scene.loan l).bind (fun v => v.item.serial) := by
    simp only [State.ledger, State.scene]
    cases u.loan l <;> rfl
  have hberth (u : State) (b : Nat) : u.ledger.berth b = ((u.scene.bay b).state, (u.scene.bay b).cartridge) := rfl
  have h1 : t.ledger.serial = s.ledger.serial := by funext n; rw [hserial, hserial, hscene]
  have h2 : t.ledger.lent = s.ledger.lent := by funext l; rw [hlent, hlent, hscene]
  have h3 : t.ledger.berth = s.ledger.berth := by funext b; rw [hberth, hberth, hscene]
  have h4 : t.ledger.queue = s.ledger.queue := congrArg Scene.queue hscene
  have h5 : t.cart = s.cart := funext (State.cart_congr t hcarts)
  simp only [State.ledger, State.title, hcarts, htitles] at h1 h2 h3 h4 ⊢
  rw [h1, h2, h3, h4, h5]

/-- An act on ports, patrons, rack, clock, containers and lane alone. -/
theorem State.ledger_congr {s t : State} (hcarts : t.carts = s.carts) (hbook : t.book = s.book) (hbays : t.bays = s.bays)
    (hloans : t.loans = s.loans) (htitles : t.titles = s.titles) : t.ledger = s.ledger := by
  have hcart : t.cart = s.cart := funext (State.cart_congr t hcarts)
  simp only [State.ledger, State.order, State.bay, State.loan, State.title, hcart, hcarts, hbook, hbays, hloans, htitles]

@[simp] theorem State.ledger_settle (b : Table Order) : (s.settle b).ledger = s.ledger :=
  State.ledger_congr (by simp) (by simp) (by simp) (by simp) (by simp)

@[simp] theorem State.ledger_reexamine (n : Nat) : (s.reexamine n).ledger = s.ledger :=
  State.ledger_congr (by simp) (by simp) (by simp) (by simp) (by simp)

@[simp] theorem State.ledger_reexamineOf (n : Nat) : (s.reexamineOf n).ledger = s.ledger :=
  State.ledger_congr (by simp) (by simp) (by simp) (by simp) (by simp)

@[simp] theorem State.ledger_idleExpire (n : Nat) : (s.idleExpire n).ledger = s.ledger :=
  State.ledger_congr (by simp) (by simp) (by simp) (by simp) (by simp)

@[simp] theorem State.ledger_drain : s.drain.ledger = s.ledger :=
  State.ledger_congr (by simp) (by simp) (by simp) (by simp) (by simp)

@[simp] theorem State.ledger_recomputeWriting (t : Nat) : (s.recomputeWriting t).ledger = s.ledger :=
  State.ledger_of_scene (by simp) (by simp) (by simp)

@[simp] theorem State.ledger_expireSlot : s.expireSlot.ledger = s.ledger := by
  unfold State.expireSlot
  split
  · rfl
  · rw [State.ledger_settle]
    exact State.ledger_of_scene (by simp) (by simp) (by simp)

/-- R30: what an order that takes a copy has of the cartridges is nothing new. -/
@[simp] theorem State.ledger_allocate (t i n : Nat) : (s.allocate t i n).ledger = s.ledger := by
  refine (State.ledger_onOrder_of _ n (fun _ => ?_)).trans (s.ledger_onTitle t (by simp))
  rfl

@[simp] theorem State.ledger_shelve (t i : Nat) : (s.shelve t i).ledger = s.ledger := by
  simp only [State.shelve]
  split <;> simp

@[simp] theorem State.ledger_bringCopies (t : Nat) (l : List Nat) (r : State × Nat × Nat) :
    (State.bringCopies t l r).1.ledger = r.1.ledger := by
  induction l generalizing r with
  | nil => rfl
  | cons i rest ih =>
    obtain ⟨s, needed, allocated⟩ := r
    unfold State.bringCopies
    (repeat' split) <;> simp [ih]

end Sys2Proof.Machine

/-! ### The laws of the ledger: the bay arbiter, and orders created -/

namespace Sys2Proof.Machine

variable {s : State} {n b c size : Nat} {sel : Selector} {o : Order} {k : Cartridge}

theorem State.lt_bays (h : s.bay b ≠ Bay.vacant) : b < s.bays.length := by
  by_contra hlt
  exact h (List.getD_eq_default _ _ (Nat.le_of_not_lt hlt))

theorem State.ledger_startJob_write (s : State) (hb : b < s.bays.length) (n : Nat) (sel : Selector) (m : Nat) :
    (s.startJob b (.write n sel) m).ledger =
      { s.ledger with berth := Function.update s.ledger.berth b (.writing, (s.bay b).cartridge) } :=
  s.ledger_setBay hb ⟨.writing, (s.bay b).cartridge, some ⟨.write n sel, m, m⟩, (s.bay b).fault, (s.bay b).aborted⟩

theorem State.ledger_startJob_blank (s : State) (hb : b < s.bays.length) (m : Nat) : (s.startJob b .blank m).ledger =
    { s.ledger with berth := Function.update s.ledger.berth b (.blanking, (s.bay b).cartridge) } :=
  s.ledger_setBay hb ⟨.blanking, (s.bay b).cartridge, some ⟨.blank, m, m⟩, (s.bay b).fault, (s.bay b).aborted⟩

/-- R65: the ledger once an order has taken the cartridge of a bay. -/
theorem State.ledger_assign (hb : b < s.bays.length) (ho : s.order n = some o) (hc : (s.bay b).cartridge = some c)
    (ht : s.title o.title = some (.cartridge size sel)) (hk : s.cart c = some k) : (s.assign n b).ledger =
      { s.ledger with
        cart := Function.update s.ledger.cart c (some (k.takes n size))
        serial := Function.update s.ledger.serial n (some c)
        berth := Function.update s.ledger.berth b (.writing, some c)
        queue := s.ledger.queue.filter (· != n) } := by
  obtain ⟨u, hu⟩ := s.assign_eq ho hc ht
  rw [hu, State.ledger_onOrder_of _ _ (fun o => congrArg OrderCore.serial (u.writingForm_core _ o)),
    State.ledger_startJob_write _ (by exact hb), State.ledger_onCart, State.ledger_onOrder, State.ledger_setQueue]
  simp only [State.order, State.cart, State.bay, State.onCart_bays, State.onOrder_bays, State.setQueue_bays,
    State.onOrder_carts, State.setQueue_carts, State.setQueue_book] at ho hk hc ⊢
  rw [ho, hk, hc]
  rfl

/-- R65: a waiting order takes the BLANK cartridge of an ARMED bay. -/
theorem Ledger.Custody.takes {L : Ledger} (hL : L.Custody) (hn : n ∈ L.queue) (hb : (L.berth b).1 = .armed)
    (hc : (L.berth b).2 = some c) (hk : L.cart c = some k) (hsize : 1 ≤ size) : Ledger.Custody { L with
      cart := Function.update L.cart c (some (k.takes n size))
      serial := Function.update L.serial n (some c)
      berth := Function.update L.berth b (.writing, some c)
      queue := L.queue.filter (· != n) } := by
  have hnone := hL.queued
  obtain ⟨hblank, hkb⟩ := hL.of_armed hk hb hc
  have hother := fun j => hL.of_armed (b := j) hk
  have hstanding := hL.standing hk
  refine hL.deal (c := c) { held := ?_, standing := ?_ }
  · simp only [Function.update_self]
    rintro _ ⟨⟩
    constructor <;> simp [Cartridge.takes, hkb, hsize]
  · simpa [Cartridge.takes, Cartridge.standing, hkb] using hstanding

namespace State

theorem custody_assign (hs : s.ledger.Custody) (hn : n ∈ s.book.queue) (hb : (s.bay b).state = .armed) :
    (s.assign n b).ledger.Custody := by
  obtain ⟨c, k, hc, hk, -⟩ := hs.armed b hb
  have hcb : (s.bay b).cartridge = some c := hc
  cases ho : s.order n with
  | none => simpa only [State.assign, ho] using hs
  | some o =>
    cases ht : s.title o.title with
    | none => simpa only [State.assign, ho, hcb, ht] using hs
    | some t =>
      cases t with
      | braille _ _ => simpa only [State.assign, ho, hcb, ht] using hs
      | cartridge size sel =>
        rw [State.ledger_assign (s.lt_bays (by rintro h; simp [h, Bay.vacant] at hb)) ho hc ht hk]
        exact hs.takes hn hb hc hk (hs.sizes o.title size (by simp [State.ledger, ht, Title.size]))

theorem custody_arbiterLoop (fuel : Nat) {s : State} (hs : s.ledger.Custody) :
    (State.arbiterLoop fuel s).ledger.Custody := by
  induction fuel generalizing s with
  | zero => exact hs
  | succ fuel ih =>
    unfold State.arbiterLoop
    split
    · next n _ b _ hq hb =>
      obtain ⟨-, harmed⟩ := (s.mem_armedBays b).1 (by simp [hb])
      exact ih (custody_assign hs (by simp [hq]) harmed)
    · exact hs

/-- R64. -/
theorem custody_arbiter (hs : s.ledger.Custody) : s.arbiter.ledger.Custody :=
  custody_arbiterLoop bayCount hs

end State

end Sys2Proof.Machine

/-! ### The laws of the ledger: orders created, released and retried -/

namespace Sys2Proof.Machine

namespace State

variable {s : State} {n : Nat}

theorem custody_onPatron (hs : s.ledger.Custody) (p : Nat) (f : Patron → Patron) : (s.onPatron p f).ledger.Custody :=
  hs

theorem custody_settle (hs : s.ledger.Custody) (b : Table Order) : (s.settle b).ledger.Custody :=
  (s.ledger_settle b).symm ▸ hs

/-- A new order has no cartridge. -/
theorem ledger_enterOrder (hnew : s.order n = none) (p title : Nat) (f : Format) (pr : Priority) :
    (s.enterOrder n p title f pr).ledger = s.ledger := by
  have hserial : (s.enterOrder n p title f pr).ledger.serial = s.ledger.serial := by
    funext m
    simp only [State.ledger]
    by_cases hm : m = n
    · subst hm
      rw [s.enterOrder_order_same, hnew]
      rfl
    · rw [s.enterOrder_order_other hm]
  exact congrArg (fun g => { s.ledger with serial := g }) hserial

theorem custody_joinPending (hs : s.ledger.Custody) (hn : s.ledger.serial n = none) :
    (s.joinPending n).ledger.Custody := by
  refine custody_arbiter (hs.requeue (fun m hm => ?_))
  rcases List.mem_cons.1 ((joinTail_perm s.isRush n s.book.queue).mem_iff.1 hm) with rfl | hm
  · exact .inr hn
  · exact .inl hm

/-- R13. -/
theorem custody_createOrder (hs : s.ledger.Custody) (hf : s.FirstLaw) (p title : Nat) (pr : Priority) :
    (s.createOrder p title pr).ledger.Custody := by
  have hnew : s.order s.nextOrder = none := hf.nextOrder_free
  have henter (f : Format) : (s.enterOrder s.nextOrder p title f pr).ledger = s.ledger := ledger_enterOrder hnew p title f pr
  cases ht : s.title title with
  | none => rwa [s.createOrder_of_no_title ht]
  | some t =>
    cases t with
    | cartridge size sel =>
      rw [s.createOrder_cartridge ht]
      refine custody_joinPending ((henter _).symm ▸ hs) ?_
      rw [henter]
      simp [State.ledger, hnew]
    | braille copies hold =>
      cases hlow : lowestOnShelf copies with
      | some i => rwa [s.createOrder_picked ht p pr hlow, State.ledger_allocate, henter]
      | none => rwa [s.createOrder_held ht p pr hlow, State.ledger_onTitle _ _ (by simp), henter]

/-- R15. -/
theorem custody_releaseLoop {p : Nat} (l : List Nat) {r : State × Nat} (hs : r.1.ledger.Custody) (hf : r.1.FirstLaw) :
    (State.releaseLoop p l r).1.ledger.Custody := by
  induction l generalizing r with
  | nil => exact hs
  | cons title rest ih =>
    unfold State.releaseLoop
    split
    · next hmay =>
      obtain ⟨q, hq, hc, -, hroom⟩ := (r.1.mayRelease_iff p).1 hmay
      have hstrip : (r.1.onPatron p (fun p => { p with deferred := rest })).FirstLaw := hf.onPatron p _ (fun _ => rfl)
      have hp : (r.1.onPatron p (fun p => { p with deferred := rest })).patron p = some { q with deferred := rest } := by
        simp [hq]
      dsimp only
      split
      · exact ih hs hstrip
      · have hlimit : q.causes.limit = false := by
          simp only [Causes.any, Bool.or_eq_false_iff] at hc
          exact hc.1.1
        exact ih (custody_createOrder (custody_onPatron hs p _) hstrip p title .standard)
          (firstLaw_shapeLaw.createOrder hstrip hp hlimit hroom)
    · exact hs

theorem custody_releasePass (hs : s.ledger.Custody) (hf : s.FirstLaw) (p : Nat) :
    (s.releasePass p).1.ledger.Custody := by
  unfold State.releasePass
  split
  · exact custody_releaseLoop _ hs hf
  · exact hs

/-- R10 to R13. -/
theorem custody_orderPlace (hs : s.ledger.Custody) (hf : s.FirstLaw) (p title pr : Nat) :
    (orderPlace p title pr s).state.ledger.Custody := by
  simp only [Machine.orderPlace]
  split
  · exact hs
  split
  · exact hs
  split
  · exact hs
  split
  · exact hs
  split
  · exact hs
  split
  · split
    · exact hs
    · refine custody_settle (custody_releasePass (custody_onPatron hs p _) (hf.onPatron p _ ?_) p) _
      exact fun _ => rfl
  · exact custody_settle (custody_createOrder hs hf p title _) _

/-- R21. -/
theorem custody_patronSet (hs : s.ledger.Custody) (hf : s.FirstLaw) (p region high restore sus : Nat) :
    (patronSet p region high restore sus s).state.ledger.Custody := by
  simp only [Machine.patronSet]
  split
  · exact hs
  split
  · exact hs
  split
  · exact hs
  · refine custody_settle (custody_releasePass (custody_onPatron hs p _) (hf.onPatron p _ ?_) p) _
    exact fun _ => rfl

/-- R19: a STALLED order has no cartridge. -/
theorem custody_orderRetry (hs : s.ledger.Custody) (hsound : s.Sound) (n : Nat) :
    (orderRetry n s).state.ledger.Custody := by
  simp only [Machine.orderRetry]
  split
  · exact hs
  split
  · exact hs
  next o ho =>
  split
  · exact hs
  · next hstalled =>
    have hst : o.state = .stalled := by simpa using hstalled
    obtain ⟨hserial, -⟩ := (hsound.core.place n _ (State.scene_order ho)).loose (.inr (.inl hst))
    have hnone : s.ledger.serial n = none := by
      simp only [State.ledger, ho]
      exact hserial
    have hledger : (s.onOrder n (fun o => { o.unseat .pending with retry := 0 })).ledger = s.ledger := by
      rw [State.ledger_onOrder, ho]
      exact congrArg (fun g => { s.ledger with serial := g }) (Function.update_eq_self_iff.2 hnone.symm)
    refine custody_settle (custody_joinPending (hledger.symm ▸ hs) ?_) _
    rw [hledger, hnone]

end State

end Sys2Proof.Machine

/-! ### The laws of the ledger: cartridges that leave their order -/

namespace Sys2Proof.Machine

/-- Tables 3-2 and 4-2: a cartridge that no order or loan has, in bay `b`, or in none and then in the backlog. -/
structure Cartridge.Freed (k : Cartridge) (b : Nat) (keep : Bool) : Prop where
  bound : k.bound = .unbound
  state : k.state = .needsBlank ∨ (k.state = .retired ∧ keep = true)
  bay : k.bay = if keep then some b else none
  dirty : k.state ≠ .retired → 1 ≤ k.dirty

/-- R51, R52: a cartridge that stands in neither queue. -/
def Cartridge.Unqueued (k : Cartridge) : Prop :=
  standing .blank (some k) = 0 ∧ standing .needsBlank (some k) = 0

theorem Cartridge.Unqueued.of_bay {k : Cartridge} {b : Nat} (h : k.bay = some b) : k.Unqueued := by
  simp [Cartridge.Unqueued, standing, h]

theorem Cartridge.Unqueued.of_state {k : Cartridge} (h : k.state ≠ .blank) (h' : k.state ≠ .needsBlank) :
    k.Unqueued := by
  simp [Cartridge.Unqueued, standing, h, h']

namespace Ledger

variable {L : Ledger} {c n b : Nat} {k k' : Cartridge} {st : BayState} {keep : Bool}

/-- R71, R72, R73: an order loses the cartridge of its bay, which stays there or goes to the backlog. -/
theorem Custody.frees (hL : L.Custody) (hk : L.cart c = some k) (hst : k.state ≠ .blank) (hserial : L.serial n = some c)
    (hkb : k.bay = some b) (hfreed : k'.Freed b keep) (hbay : st ≠ .armed) {q : List Nat}
    (hq : ∀ m ∈ q, m ∈ L.queue ∨ m = n) : Custody { L with
      cart := Function.update L.cart c (some k')
      backlog := if keep then L.backlog else L.backlog ++ [c]
      serial := Function.update L.serial n none
      berth := Function.update L.berth b (st, if keep then some c else none)
      queue := q } := by
  have hberth := ((hL.kept c).held k hk).bay b hkb
  have hother := fun j => hL.of_armed (b := j) hk
  have hqueued := hL.queued
  obtain ⟨hpool, hbacklog⟩ := hL.standing hk
  obtain ⟨hbound, hstate, hbay', hdirty⟩ := hfreed
  refine hL.deal (c := c) { held := ?_, standing := ?_ }
  · simp only [Function.update_self]
    rintro _ ⟨⟩
    constructor <;> grind [CartridgeState.spare]
  · simp only [Cartridge.standing, Function.update_self] at *
    grind

/-- What is asked of the pool and the backlog after an act on one cartridge. -/
structure Shelved (L : Ledger) (c : Nat) (v : Option Cartridge) (p q : List Nat) : Prop where
  pool : ∀ d, d ≠ c → p.count d = L.pool.count d
  backlog : ∀ d, d ≠ c → q.count d = L.backlog.count d
  inPool : p.count c = Cartridge.standing .blank v
  inBacklog : q.count c = Cartridge.standing .needsBlank v

/-- What is asked of the record of a cartridge that no order or loan is to have. -/
structure Spare (k k' : Cartridge) : Prop where
  bound : k'.bound = k.bound ∨ k'.bound = .unbound
  state : k'.state.spare
  clean : k'.state = .blank → k'.dirty = 0
  dirty : k'.state = .needsBlank → 1 ≤ k'.dirty

/-- A cartridge that no order has enters a bay, leaves it, or has its state changed in it. -/
theorem Custody.shifts (hL : L.Custody) (hk : L.cart c = some k) (hb : ∀ d, (L.berth b).2 = some d → d = c)
    (hkb : ∀ j, k.bay = some j → j = b) (hspare : Spare k k') {r : BayState × Option Nat}
    (hr : (k'.bay = some b ∧ r.2 = some c) ∨ (k'.bay = none ∧ r.2 = none))
    (harmed : r.1 = .armed → k'.state = .blank ∧ k'.bay = some b) {p q : List Nat} (hq : L.Shelved c (some k') p q) :
    Custody { L with
      cart := Function.update L.cart c (some k')
      pool := p
      backlog := q
      berth := Function.update L.berth b r } := by
  obtain ⟨horder, hloan, -⟩ := (hL.kept c).held k hk
  have hother := fun j => hL.of_armed (b := j) hk
  have hqueued := hL.queued
  obtain ⟨hpool, hbacklog, hinPool, hinBacklog⟩ := hq
  obtain ⟨hbound, hstate, hclean, hdirty⟩ := hspare
  refine hL.deal (c := c) { held := ?_, standing := ?_ }
  · simp only [Function.update_self]
    rintro _ ⟨⟩
    constructor <;> grind [CartridgeState.spare]
  · simp only [Function.update_self]
    exact ⟨hinPool, hinBacklog⟩

/-- An order or a loan gives up a cartridge that is in no bay. -/
theorem Custody.parks (hL : L.Custody) (hk : L.cart c = some k) (hkb : k.bay = none) (hbound : k'.bound = .unbound)
    (hbay : k'.bay = none) (hspare : Spare k k') {p q : List Nat} (hq : L.Shelved c (some k') p q) {f g : Nat → Option Nat}
    (hf : ∀ m d, L.serial m = some d → d ≠ c → f m = some d) (hqueued : ∀ m ∈ L.queue, f m = none)
    (hg : ∀ m d, L.lent m = some d → d ≠ c → g m = some d) : Custody { L with
      cart := Function.update L.cart c (some k')
      pool := p
      backlog := q
      serial := f
      lent := g } := by
  have hother := fun j => hL.of_armed (b := j) hk
  obtain ⟨hpool, hbacklog, hinPool, hinBacklog⟩ := hq
  obtain ⟨-, hstate, hclean, hdirty⟩ := hspare
  refine hL.deal (c := c) { held := ?_, standing := ?_ }
  · simp only [Function.update_self]
    rintro _ ⟨⟩
    constructor <;> grind [CartridgeState.spare]
  · simp only [Function.update_self]
    exact ⟨hinPool, hinBacklog⟩

theorem Shelved.stays (hL : L.Custody) (hk : L.cart c = some k) (h : k.Unqueued) (h' : k'.Unqueued) :
    L.Shelved c (some k') L.pool L.backlog := by
  obtain ⟨hpool, hbacklog⟩ := hL.standing hk
  exact ⟨fun _ _ => rfl, fun _ _ => rfl, hpool.trans (by rw [h.1, h'.1]), hbacklog.trans (by rw [h.2, h'.2])⟩

theorem Shelved.joinPool (hL : L.Custody) (hk : L.cart c = some k) (h : k.Unqueued) (hst : k'.state = .blank)
    (hbay : k'.bay = none) : L.Shelved c (some k') (L.pool ++ [c]) L.backlog := by
  obtain ⟨hpool, hbacklog⟩ := hL.standing hk
  obtain ⟨h1, h2⟩ := h
  constructor <;> grind [Cartridge.standing]

theorem Shelved.joinBacklog (hL : L.Custody) (hk : L.cart c = some k) (h : k.Unqueued) (hst : k'.state = .needsBlank)
    (hbay : k'.bay = none) : L.Shelved c (some k') L.pool (L.backlog ++ [c]) := by
  obtain ⟨hpool, hbacklog⟩ := hL.standing hk
  obtain ⟨h1, h2⟩ := h
  constructor <;> grind [Cartridge.standing]

theorem Shelved.leaveQueues (h' : k'.Unqueued) :
    L.Shelved c (some k') (L.pool.filter (· != c)) (L.backlog.filter (· != c)) := by
  have hcount (l : List Nat) :
      (∀ d, d ≠ c → (l.filter (· != c)).count d = l.count d) ∧ (l.filter (· != c)).count c = 0 :=
    ⟨fun d hd => List.count_filter (by simpa using hd), List.count_eq_zero.2 (by simp)⟩
  exact ⟨(hcount _).1, (hcount _).1, (hcount _).2.trans h'.1.symm, (hcount _).2.trans h'.2.symm⟩

/-- A bay's state changes, to one that is not ARMED. -/
theorem Custody.rework (hL : L.Custody) (hst : st ≠ .armed) :
    Custody { L with berth := Function.update L.berth b (st, (L.berth b).2) } where
  kept c := by
    refine ⟨fun k hk => ?_, (hL.kept c).pool, (hL.kept c).backlog⟩
    obtain ⟨horder, hloan, hunbound, hbay, hclean, hdirty⟩ := (hL.kept c).held k hk
    exact ⟨horder, hloan, hunbound, by grind, hclean, hdirty⟩
  queued := hL.queued
  armed := by have harmed := hL.armed; grind
  sizes := hL.sizes

/-- A cartridge in a bay stands in no queue. -/
theorem Custody.standing_of_bay {j : Nat} (hL : L.Custody) (hk : L.cart c = some k) (hkb : k.bay = some j) :
    c ∉ L.pool ∧ c ∉ L.backlog := by
  obtain ⟨hpool, hbacklog⟩ := hL.standing hk
  simp only [Cartridge.standing, hkb] at hpool hbacklog
  exact ⟨List.count_eq_zero.1 (by simpa using hpool), List.count_eq_zero.1 (by simpa using hbacklog)⟩

end Ledger

end Sys2Proof.Machine

/-! ### The laws of the ledger: jobs, faults and slots -/

namespace Sys2Proof.Machine

variable {s : State} {b n c total left : Nat} {sel : Selector} {o : Order} {k : Cartridge}

/-! #### The cartridge of a bay's job -/

/-- R60: what a WRITE job's order, bay and cartridge are to each other. -/
structure State.AtWork (s : State) (b c n : Nat) (k : Cartridge) : Prop where
  cartridge : (s.bay b).cartridge = some c
  cart : s.cart c = some k
  bay : k.bay = some b
  state : k.state = .inBay
  serial : s.ledger.serial n = some c
  order : (s.order n).isSome = true

theorem State.Sound.atWork (hs : s.Sound) (ho : s.order n = some o) (hb : o.bay = some b) (hc : o.serial = some c) :
    ∃ k, s.AtWork b c n k := by
  obtain ⟨st, job, -, -, hbay, hcart⟩ := hs.core.inBay (State.scene_order ho) hb hc
  obtain ⟨k, hk, hkc⟩ := State.cart_of_scene hcart
  exact ⟨k, congrArg BayCore.cartridge hbay, hk, congrArg CartCore.bay hkc, congrArg CartCore.state hkc,
    by simp only [State.ledger, ho]; exact hc, by simp [ho]⟩

theorem State.Sound.atWork_of_job (hs : s.Sound) (hb : b < bayCount)
    (hj : (s.bay b).job = some ⟨.write n sel, total, left⟩) : ∃ c k, s.AtWork b c n k := by
  obtain ⟨c, o, -, -, ho, hob, hc, -⟩ := hs.writeJob hb hj
  exact ⟨c, hs.atWork ho hob hc⟩

theorem State.Sound.spare_in_bay (hs : s.Sound) (hb : b < bayCount) (hc : (s.bay b).cartridge = some c)
    {kst : CartridgeState} {job : Option (Option Nat)} (hst : (s.bay b).state.spare = some (kst, job)) :
    ∃ k, s.cart c = some k ∧ k.state = kst ∧ k.bay = some b := by
  obtain ⟨-, x, hcart⟩ := hs.core.spare_of hb hst hc
  obtain ⟨k, hk, hkc⟩ := State.cart_of_scene hcart
  exact ⟨k, hk, congrArg CartCore.state hkc, congrArg CartCore.bay hkc⟩

/-- R60: the cartridge of a BLANK job. -/
theorem State.Sound.blankJob (hs : s.Sound) (hb : b < bayCount) (hj : (s.bay b).job = some ⟨.blank, total, left⟩) :
    ∃ c k, (s.bay b).cartridge = some c ∧ s.cart c = some k ∧ k.state = .needsBlank ∧ k.bay = some b := by
  obtain ⟨c, x, hbay, hcart⟩ := hs.core.job_blank hb (by simp [State.scene, Bay.core, hj]; rfl)
  obtain ⟨k, hk, hkc⟩ := State.cart_of_scene hcart
  exact ⟨c, k, congrArg BayCore.cartridge hbay, hk, congrArg CartCore.state hkc, congrArg CartCore.bay hkc⟩

theorem State.lt_bays_of_berth (h : (s.ledger.berth b).2 = some c) : b < s.bays.length := by
  refine s.lt_bays fun hv => ?_
  simp [State.ledger, hv, Bay.berth, Bay.vacant] at h

/-! #### Faults (R73, R75, R77, R78) -/

theorem State.ledger_abortJob_write (hb : b < s.bays.length) (hj : (s.bay b).job = some ⟨.write n sel, total, left⟩)
    (hc : (s.bay b).cartridge = some c) (hk : s.cart c = some k) (keep : Bool) : (s.abortJob b keep).ledger =
      { s.ledger with cart := Function.update s.ledger.cart c (some k.dirtied) } := by
  simp only [State.abortJob, hj, hc, State.ledger_onRack]
  rw [State.ledger_onCart, State.ledger_setBay_of s hb (by rw [Bay.berth, ← hc]; rfl)]
  simp only [State.cart, State.setBay_carts] at hk ⊢
  rw [hk]
  rfl

theorem State.ledger_abortJob_blank (hb : b < s.bays.length) (hj : (s.bay b).job = some ⟨.blank, total, left⟩)
    (keep : Bool) : (s.abortJob b keep).ledger = s.ledger := by
  simp only [State.abortJob, hj, State.ledger_onRack]
  exact State.ledger_setBay_of s hb rfl

theorem State.ledger_fails {t : State} (hb : b < t.bays.length) (hc : (t.ledger.berth b).2 = some c) (kind : FaultKind)
    (keep : Bool) : (t.setBay b ((t.bay b).fails kind keep)).ledger =
      { t.ledger with berth := Function.update t.ledger.berth b (.faulted, if keep then some c else none) } := by
  have hc : (t.bay b).cartridge = some c := hc
  rw [t.ledger_setBay hb, Bay.berth, Bay.fails, hc]

theorem State.ledger_rejoin (ho : (s.order n).isSome = true) : ∃ (u : State) (q : List Nat), s.rejoin n = u.arbiter ∧
    u.ledger = { s.ledger with serial := Function.update s.ledger.serial n none, queue := q } ∧
    ∀ m ∈ q, m ∈ s.book.queue ∨ m = n := by
  obtain ⟨o, ho⟩ := Option.isSome_iff_exists.1 ho
  refine ⟨_, joinHead (s.onOrder n (fun o => o.unseat .pending)).isRush n s.book.queue, rfl, ?_, fun m hm => ?_⟩
  · rw [State.ledger_setQueue, State.ledger_onOrder, ho]
    rfl
  · exact (List.mem_cons.1 ((joinHead_perm _ n s.book.queue).mem_iff.1 hm)).symm

namespace State

/-- R75, R77, R78: a fault in a bay with a WRITE job. `t` is the state once the cartridge has been taken out, if it has. -/
theorem custody_faultBay_write (hs : s.ledger.Custody) {t : State} (hw : s.AtWork b c n k) (hb : b < s.bays.length)
    (hj : (s.bay b).job = some ⟨.write n sel, total, left⟩) (keep : Bool) (hbays : t.bays = s.bays)
    (hbook : t.book = s.book) (hledger : t.ledger = { s.ledger with
      cart := Function.update s.ledger.cart c (some { k with bay := if keep then some b else none })
      backlog := if keep then s.ledger.backlog else s.ledger.backlog ++ [c] }) (kind : FaultKind) :
    (t.faultBay b kind keep).ledger.Custody := by
  obtain ⟨hc, hk, hkb, hst, hserial, ho⟩ := hw
  have hlen : b < t.bays.length := hbays ▸ hb
  have hbay : t.bay b = s.bay b := t.bay_congr hbays b
  have hkt : t.cart c = some { k with bay := if keep then some b else none } :=
    (congrFun (congrArg Ledger.cart hledger) c).trans (Function.update_self ..)
  have habort := State.ledger_abortJob_write hlen (hbay ▸ hj) (hbay ▸ hc) hkt true
  have hberth : ((t.abortJob b true).ledger.berth b).2 = some c := by
    rw [habort, hledger]
    exact hc
  have hfails := State.ledger_fails (State.lt_bays_of_berth hberth) hberth kind keep
  generalize hv : (t.abortJob b true).setBay b (((t.abortJob b true).bay b).fails kind keep) = v at hfails
  have hvbook : v.book = s.book := by simp [← hv, hbook]
  obtain ⟨u, q, hu, hul, hq⟩ := State.ledger_rejoin (s := v) (n := n) (by rwa [State.order, hvbook])
  rw [hvbook] at hq
  rw [State.faultBay_write (hbay ▸ hj), hv, State.reenter, hu, State.ledger_reexamineOf]
  refine custody_arbiter ?_
  rw [hul, hfails, habort, hledger]
  simp only [Function.update_idem]
  refine hs.frees hk (by simp [hst]) hserial hkb ⟨rfl, .inl rfl, rfl, fun _ => ?_⟩ (by simp) hq
  exact ((hs.kept c).held k hk).dirty (by simp [hst]) (by simp [hst])

/-- R75, R77: the same of a BLANK job. -/
theorem custody_faultBay_blank (hs : s.ledger.Custody) {t : State} (hb : b < s.bays.length)
    (hj : (s.bay b).job = some ⟨.blank, total, left⟩) (hc : (s.bay b).cartridge = some c) (hk : s.cart c = some k)
    (hkb : k.bay = some b) (hst : k.state = .needsBlank) (keep : Bool) (hbays : t.bays = s.bays)
    (hledger : t.ledger = { s.ledger with
      cart := Function.update s.ledger.cart c (some { k with bay := if keep then some b else none })
      backlog := if keep then s.ledger.backlog else s.ledger.backlog ++ [c] }) (kind : FaultKind) :
    (t.faultBay b kind keep).ledger.Custody := by
  have hbay : t.bay b = s.bay b := t.bay_congr hbays b
  have habort := State.ledger_abortJob_blank (hbays ▸ hb) (hbay ▸ hj) true
  have hberth : ((t.abortJob b true).ledger.berth b).2 = some c := by
    rw [habort, hledger]
    exact hc
  rw [State.faultBay_blank (hbay ▸ hj), State.ledger_fails (State.lt_bays_of_berth hberth) hberth kind keep, habort,
    hledger]
  have hdirty := ((hs.kept c).held k hk).dirty (by simp [hst]) (by simp [hst])
  refine hs.shifts (p := s.ledger.pool) (r := (.faulted, if keep then some c else none))
    (k' := { k with bay := if keep then some b else none }) hk
    (fun d hd => Option.some.inj (hd.symm.trans hc)) (fun j hj => Option.some.inj (hj.symm.trans hkb))
    ⟨.inl rfl, .inr (.inl hst), by simp [hst], fun _ => hdirty⟩ ?_ (by simp) ?_
  · cases keep <;> simp
  · cases keep with
    | false => exact .joinBacklog hs hk (.of_bay hkb) hst rfl
    | true => exact .stays hs hk (.of_bay hkb) (.of_bay rfl)

/-! #### Jobs completed (R67, R68) -/

theorem custody_completeBlank (hs : s.ledger.Custody) (hsound : s.Sound) (hb : b < bayCount)
    (hj : (s.bay b).job = some ⟨.blank, total, left⟩) : (s.completeBlank b).ledger.Custody := by
  obtain ⟨c, k, hc, hk, hst, hkb⟩ := hsound.blankJob hb hj
  simp only [State.completeBlank, hc]
  refine custody_arbiter ?_
  rw [State.ledger_onCart, State.ledger_onRack, State.ledger_setBay s (hsound.bays ▸ hb)]
  have hlook : s.carts.table.look c = some k := hk
  simp only [State.cart, State.onRack_carts, State.setBay_carts, hlook, Option.map_some]
  exact hs.shifts (p := s.ledger.pool) (k' := { k with state := .blank, dirty := 0 }) (r := (.armed, some c)) hk
    (fun d hd => Option.some.inj (hd.symm.trans hc)) (fun j hj => Option.some.inj (hj.symm.trans hkb))
    ⟨.inl rfl, .inl rfl, fun _ => rfl, nofun⟩ (.inl ⟨hkb, rfl⟩)
    (fun _ => ⟨rfl, hkb⟩) (.stays hs hk (.of_bay hkb) (.of_bay hkb))

theorem custody_completeWrite (hs : s.ledger.Custody) (hsound : s.Sound) (hb : b < bayCount) (n : Nat) :
    (s.completeWrite b n).ledger.Custody := by
  unfold State.completeWrite
  rw [State.ledger_onOrder_of, State.ledger_onRack, State.ledger_setBay s (hsound.bays ▸ hb)]
  · exact hs.rework (by simp)
  · exact fun _ => rfl

theorem custody_completeJob (hs : s.ledger.Custody) (hsound : s.Sound) (hb : b < bayCount) :
    (s.completeJob b).ledger.Custody := by
  unfold State.completeJob
  split
  · exact custody_completeWrite hs hsound hb _
  · next hj => exact custody_completeBlank hs hsound hb hj
  · exact hs

/-! #### A slot's report (R95) -/

theorem ledger_credit (hb : b < s.bays.length) (count : Nat) : (s.credit b count).ledger = s.ledger :=
  s.ledger_setBay_of hb rfl

/-- R77, R78: a fault that leaves the cartridge in its bay. -/
theorem custody_fault (hs : s.ledger.Custody) (hsound : s.Sound) (hb : b < bayCount) (hj : s.working b) (kind : FaultKind) :
    (s.faultBay b kind true).ledger.Custody := by
  obtain ⟨⟨kd, total, left⟩, hj⟩ := Option.isSome_iff_exists.1 hj
  have hself {c : Nat} {k : Cartridge} (hk : s.cart c = some k) (hkb : k.bay = some b) : s.ledger = { s.ledger with
      cart := Function.update s.ledger.cart c (some { k with bay := if true then some b else none })
      backlog := if true then s.ledger.backlog else s.ledger.backlog ++ [c] } := by
    have hkeep : some { k with bay := if true then some b else none } = s.ledger.cart c := by
      rw [if_pos rfl, ← hkb]
      exact hk.symm
    rw [hkeep, Function.update_eq_self]
    rfl
  cases kd with
  | write n sel =>
    obtain ⟨c, k, hw⟩ := hsound.atWork_of_job hb hj
    exact custody_faultBay_write hs hw (hsound.bays ▸ hb) hj true rfl rfl (hself hw.cart hw.bay) kind
  | blank =>
    obtain ⟨c, k, hc, hk, hst, hkb⟩ := hsound.blankJob hb hj
    exact custody_faultBay_blank hs (hsound.bays ▸ hb) hj hc hk hkb hst true rfl (hself hk hkb) kind

/-- R95: only a bay with a job can report too few blocks. -/
theorem working_of_short {g : Grant} (hg : 0 < g.blocks → g.lost = false → s.working b) {count m : Nat}
    (hcase : sliceCase g count m = .short) : s.working b := by
  unfold sliceCase at hcase
  split at hcase
  · cases hcase
  · next hblocks =>
    split at hcase
    · cases hcase
    · next hlost => exact hg (Nat.pos_of_ne_zero hblocks) (Bool.eq_false_iff.2 hlost)

/-- R95. -/
theorem custody_applySlice (hs : s.ledger.Custody) (hsound : s.Sound) (hb : b < bayCount) {g : Grant}
    (hg : 0 < g.blocks → g.lost = false → s.working b) (count : Nat) : (s.applySlice b g count).ledger.Custody := by
  have hcredit : (s.credit b count).ledger.Custody := (ledger_credit (hsound.bays ▸ hb) count).symm ▸ hs
  unfold State.applySlice
  split
  · exact hs
  · exact hs
  · exact hcredit
  · exact custody_completeJob hcredit (hsound.credit hb count) hb
  · next hcase =>
    have hwork := working_of_short hg hcase
    refine custody_fault hcredit (hsound.credit hb count) hb ?_ _
    rw [State.working, State.credit, State.bay_setBay_same _ hwork.lt]
    simpa [State.working] using hwork

/-- R94, R95, R96. -/
theorem custody_takeReport (hs : s.ledger.Custody) (hsound : s.Sound) (hjobs : s.JobLaw) {sl : Slot}
    (hsl : s.rack.slot = some sl) (even odd : Nat) : (s.takeReport sl even odd).ledger.Custody := by
  obtain ⟨-, -, hslots, -⟩ := hjobs
  obtain ⟨hpair, heven, hodd⟩ := hslots sl hsl
  have hlt : 2 * sl.pair + 1 < bayCount := by simp only [pairCount, bayCount] at *; omega
  have hworks {b : Nat} {g : Grant} (hg : s.GrantStands b g) (hblocks : 0 < g.blocks) (hlost : g.lost = false) :
      s.working b := by
    obtain ⟨-, j, hj, -⟩ := hg hblocks hlost
    exact Option.isSome_iff_exists.2 ⟨j, hj⟩
  have hfirst := custody_applySlice hs hsound (Nat.lt_of_succ_lt hlt) (hworks heven) even
  exact custody_applySlice hfirst (hsound.applySlice (Nat.lt_of_succ_lt hlt) (hworks heven) even) hlt
    (fun hblocks hlost => (hworks hodd hblocks hlost).applySlice_other (by omega) sl.even even) odd

end State
end Sys2Proof.Machine

/-! ### The laws of the ledger: the requests about a bay -/

namespace Sys2Proof.Machine

variable {s : State} {b n c : Nat} {k : Cartridge}

/-- R74: an order's written cartridge leaves its bay. -/
theorem Ledger.Custody.leaves {L : Ledger} (hL : L.Custody) (hk : L.cart c = some k) (hst : k.state = .inBay)
    (hkb : k.bay = some b) : Ledger.Custody { L with
      cart := Function.update L.cart c (some { k with state := .written, bay := none })
      berth := Function.update L.berth b (.empty, none) } := by
  have hheld := (hL.kept c).held k hk
  have hberth := hheld.bay b hkb
  have hother := fun j => hL.of_armed (b := j) hk
  have hqueued := hL.queued
  obtain ⟨hpool, hbacklog⟩ := hL.standing hk
  obtain ⟨horder, hloan, hunbound, -, -, hdirty⟩ := hheld
  refine hL.deal (c := c) { held := ?_, standing := ?_ }
  · simp only [Function.update_self]
    rintro _ ⟨⟩
    constructor <;> grind [CartridgeState.spare]
  · simp only [Cartridge.standing, Function.update_self] at *
    grind

/-! #### The ledger after each act -/

theorem State.ledger_retire (hk : s.cart c = some k) : (s.retire c).ledger = { s.ledger with
    cart := Function.update s.ledger.cart c (some { k with state := .retired, bound := .unbound })
    pool := s.ledger.pool.filter (· != c)
    backlog := s.ledger.backlog.filter (· != c) } := by
  rw [State.retire, State.ledger_onCart, State.ledger_leaveQueues]
  simp only [State.cart, State.leaveQueues_carts] at hk ⊢
  rw [hk]
  rfl

theorem State.ledger_emptyBay (hb : b < s.bays.length) (hk : s.cart c = some k) : (s.emptyBay b c).ledger = { s.ledger with
    cart := Function.update s.ledger.cart c (some { k with bay := none })
    berth := Function.update s.ledger.berth b (.empty, none) } := by
  rw [State.emptyBay, State.ledger_onCart, State.ledger_setBay s hb]
  simp only [State.cart, State.setBay_carts] at hk ⊢
  rw [hk]
  rfl

/-- R66. -/
theorem State.ledger_blankInPlace (hb : b < s.bays.length) (hc : (s.bay b).cartridge = some c) (hk : s.cart c = some k) :
    (s.blankInPlace b).ledger = { s.ledger with
      cart := Function.update s.ledger.cart c (some k.dirtied)
      berth := Function.update s.ledger.berth b (.blanking, some c) } := by
  obtain ⟨-, -, -, hbook, htitles, -, -, hloans, -⟩ := s.blankInPlace_frame b
  have hledger : (s.blankInPlace b).ledger =
      ((s.onCart c Cartridge.dirtied).setBay b ((s.bay b).blanks (units32 k.dirty))).ledger :=
    State.ledger_congr (s.blankInPlace_carts hc hk) hbook (s.blankInPlace_bays hc hk hb) hloans htitles
  rw [hledger, State.ledger_setBay (s.onCart c Cartridge.dirtied) hb, State.ledger_onCart, hk, ← hc]
  rfl

namespace State

/-! #### BAY_INSERT (R61 to R63) -/

theorem custody_retire (hs : s.ledger.Custody) (hk : s.cart c = some k) (hkb : k.bay = none) :
    (s.retire c).ledger.Custody := by
  rw [State.ledger_retire hk]
  exact hs.parks (k' := { k with state := .retired, bound := .unbound }) (f := s.ledger.serial) (g := s.ledger.lent) hk hkb
    rfl hkb ⟨.inr rfl, .inr (.inr rfl), nofun, nofun⟩ (.leaveQueues (.of_state nofun nofun))
    (fun _ _ h _ => h) hs.queued (fun _ _ h _ => h)

theorem berth_of_vacant (hsound : s.Sound) (hb : b < bayCount) (he : (s.bay b).state = .empty) :
    (s.ledger.berth b).2 = none :=
  congrArg BayCore.cartridge (hsound.core.vacant hb he)

theorem custody_insertBlank (hs : s.ledger.Custody) (hsound : s.Sound) (hb : b < bayCount)
    (he : (s.bay b).state = .empty) (hk : s.cart c = some k) (hst : k.state = .blank) (hkb : k.bay = none) :
    (s.insertBlank b c).ledger.Custody := by
  have hnone := berth_of_vacant hsound hb he
  have hheld := (hs.kept c).held k hk
  refine custody_arbiter ?_
  rw [State.ledger_setBay _ (by exact hsound.bays ▸ hb), State.ledger_onCart, State.ledger_leaveQueues]
  simp only [State.cart, State.leaveQueues_carts] at hk ⊢
  rw [hk]
  exact hs.shifts (k' := { k with bay := some b }) (r := (.armed, some c)) hk (by simp [hnone]) (by simp [hkb])
    ⟨.inl rfl, .inl hst, hheld.clean, fun h => nomatch hst.symm.trans h⟩ (.inl ⟨rfl, rfl⟩) (fun _ => ⟨hst, rfl⟩)
    (.leaveQueues (.of_bay rfl))

theorem custody_insertDirty (hs : s.ledger.Custody) (hsound : s.Sound) (hb : b < bayCount)
    (he : (s.bay b).state = .empty) (hk : s.cart c = some k) (hst : k.state = .needsBlank) (hkb : k.bay = none)
    (dirty : Nat) : (s.insertDirty b c dirty).ledger.Custody := by
  have hlen : b < ((s.leaveQueues c).onCart c (fun c => { c with bay := some b })).bays.length := hsound.bays ▸ hb
  have hnone := berth_of_vacant hsound hb he
  have hheld := (hs.kept c).held k hk
  rw [State.insertDirty, State.ledger_startJob_blank _ (by simpa using hlen), State.bay_setBay_same _ hlen,
    State.ledger_setBay _ hlen, State.ledger_onCart, State.ledger_leaveQueues]
  simp only [State.cart, State.leaveQueues_carts, Function.update_idem] at hk ⊢
  rw [hk]
  exact hs.shifts (k' := { k with bay := some b }) (r := (.blanking, some c)) hk (by simp [hnone]) (by simp [hkb])
    ⟨.inl rfl, .inr (.inl hst), hheld.clean, fun _ => hheld.dirty (by simp [hst]) (by simp [hst])⟩
    (.inl ⟨rfl, rfl⟩) nofun (.leaveQueues (.of_bay rfl))

theorem custody_bayInsert (hs : s.ledger.Custody) (hsound : s.Sound) (b c : Nat) :
    (bayInsert b c s).state.ledger.Custody := by
  unfold Machine.bayInsert
  split
  · exact hs
  next hbad =>
  have hb := bay_of_range hbad
  split
  · exact hs
  next hempty =>
  have he : (s.bay b).state = .empty := by simpa using hempty
  split
  · exact hs
  next k hk =>
  split
  · exact hs
  next hfit =>
  obtain ⟨hst, hkb⟩ : (k.state ≠ .blank → k.state = .needsBlank) ∧ k.bay = none := by
    simpa [not_or, Option.isSome_iff_ne_none] using hfit
  split
  · exact custody_retire hs hk hkb
  split
  · next hblank => exact custody_settle (custody_insertBlank hs hsound hb he hk hblank hkb) _
  · next hblank => exact custody_insertDirty hs hsound hb he hk (hst hblank) hkb _

/-! #### BAY_REMOVE (R74 to R76) -/

/-- R74: a cartridge that no order has leaves its bay, and joins the queue of its state. -/
theorem custody_emptyBay (hs : s.ledger.Custody) (hsound : s.Sound) (hb : b < bayCount)
    (hc : (s.bay b).cartridge = some c) {kst : CartridgeState} {job : Option (Option Nat)}
    (hst : (s.bay b).state.spare = some (kst, job)) {st : BayState} (hst' : st ≠ .armed) {p q : List Nat}
    (hq : ∀ k, s.cart c = some k → k.state = kst → k.bay = some b →
      s.ledger.Shelved c (some { k with bay := none }) p q) : Ledger.Custody { s.ledger with
        cart := Function.update s.ledger.cart c ((s.cart c).map (fun k => { k with bay := none }))
        pool := p
        backlog := q
        berth := Function.update s.ledger.berth b (st, none) } := by
  obtain ⟨k, hk, hkst, hkb⟩ := hsound.spare_in_bay hb hc hst
  have hheld := (hs.kept c).held k hk
  rw [hk]
  exact hs.shifts (k' := { k with bay := none }) (r := (st, none)) hk
    (fun d hd => Option.some.inj (hd.symm.trans hc)) (fun j hj => Option.some.inj (hj.symm.trans hkb))
    ⟨.inl rfl, hkst ▸ BayState.spare_cart hst, hheld.clean, fun h => hheld.dirty (by simp_all) (by simp_all)⟩
    (.inr ⟨rfl, rfl⟩) (fun h => absurd h hst') (hq k hk hkst hkb)

theorem custody_removeArmed (hs : s.ledger.Custody) (hsound : s.Sound) (hb : b < bayCount)
    (hc : (s.bay b).cartridge = some c) (hst : (s.bay b).state = .armed) :
    ((s.emptyBay b c).joinPool c).ledger.Custody := by
  rw [State.ledger_joinPool, State.emptyBay, State.ledger_onCart, State.ledger_setBay s (hsound.bays ▸ hb)]
  exact custody_emptyBay (st := .empty) hs hsound hb hc (by rw [hst]; rfl) nofun
    (fun k hk hkst hkb => .joinPool hs hk (.of_bay hkb) hkst rfl)

theorem custody_removeEject (hs : s.ledger.Custody) (hsound : s.Sound) (hb : b < bayCount)
    (hc : (s.bay b).cartridge = some c) (hst : (s.bay b).state = .eject) : (s.emptyBay b c).ledger.Custody := by
  rw [State.emptyBay, State.ledger_onCart, State.ledger_setBay s (hsound.bays ▸ hb)]
  exact custody_emptyBay (st := .empty) hs hsound hb hc (by rw [hst]; rfl) nofun
    (fun k hk hkst hkb => .stays hs hk (.of_bay hkb) (.of_state (by simp [hkst]) (by simp [hkst])))

theorem custody_removeFaulted (hs : s.ledger.Custody) (hsound : s.Sound) (hb : b < bayCount)
    (hc : (s.bay b).cartridge = some c) (hst : (s.bay b).state = .faulted) : (s.removeFaulted b c).ledger.Custody := by
  rw [State.removeFaulted, State.ledger_joinBacklog, State.ledger_onCart, State.ledger_setBay s (hsound.bays ▸ hb),
    Bay.berth, hst]
  exact custody_emptyBay (st := .faulted) hs hsound hb hc (by rw [hst]; rfl) nofun
    (fun k hk hkst hkb => .joinBacklog hs hk (.of_bay hkb) hkst rfl)

theorem custody_removeDone (hs : s.ledger.Custody) (hsound : s.Sound) (hb : b < bayCount)
    (hc : (s.bay b).cartridge = some c) (hst : (s.bay b).state = .done) : (s.removeDone b c).ledger.Custody := by
  obtain ⟨n, c', _, _, -, hbay, ho', hobay, hser⟩ := hsound.core.work_of hb (.inr (.inr hst))
  cases hc.symm.trans (congrArg BayCore.cartridge hbay)
  obtain ⟨o, ho, rfl⟩ := State.order_of_scene ho'
  obtain ⟨k, -, hk, hkb, hkst, -, -⟩ := hsound.atWork ho hobay hser
  have hledger : (s.removeDone b c).ledger = ((s.emptyBay b c).onCart c (fun k => { k with state := .written })).ledger := by
    unfold State.removeDone
    split
    · exact State.ledger_onOrder_of _ _ (fun _ => rfl)
    · rfl
  have hempty : (s.emptyBay b c).cart c = some { k with bay := none } :=
    (congrFun (congrArg Ledger.cart (State.ledger_emptyBay (hsound.bays ▸ hb) hk)) c).trans (Function.update_self ..)
  rw [hledger, State.ledger_onCart, State.ledger_emptyBay (hsound.bays ▸ hb) hk, hempty]
  simp only [Function.update_idem, Option.map_some]
  exact hs.leaves hk hkst hkb

/-- R75. -/
theorem custody_removeInJob (hs : s.ledger.Custody) (hsound : s.Sound) (hb : b < bayCount)
    (hc : (s.bay b).cartridge = some c) (hj : s.working b) : (s.removeInJob b c).ledger.Custody := by
  obtain ⟨⟨kd, total, left⟩, hj⟩ := Option.isSome_iff_exists.1 hj
  have hout {k : Cartridge} (hk : s.cart c = some k) :
      ((s.onCart c (fun c => { c with bay := none })).joinBacklog c).ledger = { s.ledger with
        cart := Function.update s.ledger.cart c (some { k with bay := if false then some b else none })
        backlog := if false then s.ledger.backlog else s.ledger.backlog ++ [c] } := by
    rw [State.ledger_joinBacklog, State.ledger_onCart, hk]
    rfl
  unfold State.removeInJob
  cases kd with
  | write n sel =>
    obtain ⟨c', k, hw⟩ := hsound.atWork_of_job hb hj
    cases hc.symm.trans hw.cartridge
    refine custody_faultBay_write hs hw (hsound.bays ▸ hb) hj false ?_ ?_ (hout hw.cart) _ <;> rfl
  | blank =>
    obtain ⟨c', k, hc', hk, hst, hkb⟩ := hsound.blankJob hb hj
    cases hc.symm.trans hc'
    refine custody_faultBay_blank hs (hsound.bays ▸ hb) hj hc hk hkb hst false ?_ (hout hk) _
    rfl

theorem working_of_state (hsound : s.Sound) (hb : b < bayCount)
    (h : (s.bay b).state = .blanking ∨ (s.bay b).state = .writing ∨ (s.bay b).state = .verifying) : s.working b := by
  simpa [State.working, State.scene, Bay.core] using hsound.core.working hb h

theorem custody_bayRemove (hs : s.ledger.Custody) (hsound : s.Sound) (b : Nat) :
    (bayRemove b s).state.ledger.Custody := by
  unfold Machine.bayRemove
  split
  · exact hs
  next hbad =>
  have hb := bay_of_range hbad
  split
  · exact hs
  next c hc =>
  have hjob := fun h => custody_settle (custody_removeInJob hs hsound hb hc (working_of_state hsound hb h)) s.book.orders
  split
  · exact hs
  · next h => exact custody_removeArmed hs hsound hb hc h
  · next h => exact custody_removeDone hs hsound hb hc h
  · next h => exact custody_removeEject hs hsound hb hc h
  · next h => exact custody_removeFaulted hs hsound hb hc h
  · next h => exact hjob (.inl h)
  · next h => exact hjob (.inr (.inl h))
  · next h => exact hjob (.inr (.inr h))

/-! #### BAY_FAULT and BAY_CLEAR (R77, R79) -/

theorem custody_bayFault (hs : s.ledger.Custody) (hsound : s.Sound) (b fault : Nat) :
    (bayFault b fault s).state.ledger.Custody := by
  unfold Machine.bayFault
  split
  · exact hs
  next hbad =>
  have hb := bay_of_range hbad
  split
  · exact hs
  next hholds =>
  have hst : (s.bay b).state = .blanking ∨ (s.bay b).state = .writing ∨ (s.bay b).state = .verifying := by
    cases h : (s.bay b).state <;> simp [h, BayState.holdsJob] at hholds ⊢
  exact custody_settle (custody_fault hs hsound hb (working_of_state hsound hb hst) _) _

theorem custody_bayClear (hs : s.ledger.Custody) (hsound : s.Sound) (b : Nat) :
    (bayClear b s).state.ledger.Custody := by
  unfold Machine.bayClear
  split
  · exact hs
  next hbad =>
  split
  · exact hs
  next h =>
  have hc : (s.ledger.berth b).2 = none := by
    simp only [ne_eq, Option.isSome_iff_ne_none, not_or, not_not] at h
    exact h.2
  have hclear : (s.setBay b Bay.vacant).ledger.Custody := by
    rw [State.ledger_setBay s (hsound.bays ▸ bay_of_range hbad), Bay.berth, show Bay.vacant.cartridge = _ from hc.symm]
    exact hs.rework nofun
  exact hclear

/-! #### VERIFY_DONE (R69 to R71) -/

theorem custody_verifyPass (hs : s.ledger.Custody) (hb : b < s.bays.length) (n : Nat) :
    (s.verifyPass b n).ledger.Custody := by
  simp only [State.verifyPass]
  generalize hr : { s.bay b with state := BayState.done, job := none } = r
  have hberth : r.berth = (.done, (s.bay b).cartridge) := hr ▸ rfl
  rw [State.ledger_onOrder_of, State.ledger_setBay s hb, hberth]
  · exact hs.rework nofun
  · exact fun o => congrArg OrderCore.serial (State.readyForm_core (s.setBay b r) { o with state := .ready })

/-- R70: the cartridge of a failed verification. -/
theorem ledger_failCartridge (hs : s.ledger.Custody) (hb : b < s.bays.length) (hw : s.AtWork b c n k) :
    ∃ k' st, k'.Freed b true ∧ st ≠ .armed ∧ (s.failCartridge b c).ledger = { s.ledger with
      cart := Function.update s.ledger.cart c (some k')
      berth := Function.update s.ledger.berth b (st, some c) } := by
  have hdirty : 1 ≤ k.dirty := ((hs.kept c).held k hw.cart).dirty (by simp [hw.state]) (by simp [hw.state])
  obtain ⟨hpool, hbacklog⟩ := hs.standing_of_bay hw.cart hw.bay
  have hfailed := s.ledger_onCart c (fun c => { c with failures := c.failures + 1 })
  have hk1 := s.cart_onCart_same c (fun c => { c with failures := c.failures + 1 })
  rw [hw.cart, Option.map_some] at hfailed hk1
  simp only [State.failCartridge]
  split
  · refine ⟨{ k with state := .needsBlank, bound := .unbound, failures := k.failures + 1 }, .blanking,
      ⟨rfl, .inl rfl, hw.bay, fun _ => hdirty⟩, nofun,
      (State.ledger_blankInPlace (by exact hb) (by exact hw.cartridge) hk1).trans ?_⟩
    rw [hfailed]
    simp only [Function.update_idem]
    rfl
  · refine ⟨{ k with state := .retired, bound := .unbound, failures := k.failures + 1 }, .eject,
      ⟨rfl, .inr ⟨rfl, rfl⟩, hw.bay, fun h => absurd rfl h⟩, nofun, (State.ledger_retire (by exact hk1)).trans ?_⟩
    rw [State.ledger_setBay _ (by exact hb), hfailed, Bay.berth]
    simp only [Function.update_idem]
    congr 1
    · exact List.filter_eq_self.2 fun d hd => by simpa using (fun h : d = c => hpool (h ▸ hd))
    · exact List.filter_eq_self.2 fun d hd => by simpa using (fun h : d = c => hbacklog (h ▸ hd))
    · exact congrArg (fun x => Function.update s.ledger.berth b (.eject, x)) hw.cartridge

theorem failCartridge_book (s : State) (b c : Nat) : (s.failCartridge b c).book = s.book := by
  simp only [State.failCartridge]
  split <;> simp

/-- R70, R71. -/
theorem custody_verifyFail (hs : s.ledger.Custody) (hb : b < s.bays.length) (hw : s.AtWork b c n k) :
    ((s.failCartridge b c).failOrder n c).ledger.Custody := by
  obtain ⟨k', st, hfreed, hst, hledger⟩ := ledger_failCartridge hs hb hw
  obtain ⟨hc, hk, hkb, hkst, hserial, ho⟩ := hw
  have hbook : (s.failCartridge b c).book = s.book := s.failCartridge_book b c
  obtain ⟨o, ho⟩ := Option.isSome_iff_exists.1 ho
  have hof : (s.failCartridge b c).order n = some o := by rw [State.order, hbook]; exact ho
  simp only [State.failOrder, hof]
  split
  · have hretried : ((s.failCartridge b c).onOrder n (fun o => { o with retry := 1 })).ledger =
        (s.failCartridge b c).ledger := by
      refine State.ledger_onOrder_of _ n fun _ => ?_
      rfl
    obtain ⟨u, q, hu, hul, hq⟩ := State.ledger_rejoin (n := n)
      (s := (s.failCartridge b c).onOrder n (fun o => { o with retry := 1 })) (by
        rw [State.order] at hof ⊢
        simp [hof])
    rw [State.ledger_reexamineOf, hu]
    refine custody_arbiter ?_
    rw [hul, hretried, hledger]
    rw [State.onOrder_book, hbook] at hq
    exact hs.frees hk (by simp [hkst]) hserial hkb hfreed hst hq
  · rw [State.ledger_reexamineOf, State.ledger_raise, State.ledger_onOrder, hof, hledger]
    exact hs.frees hk (by simp [hkst]) hserial hkb hfreed hst fun m hm => .inl hm

theorem custody_verifyDone (hs : s.ledger.Custody) (hsound : s.Sound) (b result : Nat) :
    (verifyDone b result s).state.ledger.Custody := by
  unfold Machine.verifyDone
  split
  · exact hs
  next hbad =>
  have hb := bay_of_range hbad
  split
  · exact hs
  split
  · next hn hc =>
    split
    · exact custody_settle (custody_verifyPass hs (hsound.bays ▸ hb) _) _
    · obtain ⟨c', _, hbay, ho', hobay, hser, -⟩ := hsound.core.job_order hb (State.job_of_order hn)
      cases hc.symm.trans (congrArg BayCore.cartridge hbay)
      obtain ⟨o, ho, rfl⟩ := State.order_of_scene ho'
      obtain ⟨k, hw⟩ := hsound.atWork ho hobay hser
      exact custody_settle (custody_verifyFail hs (hsound.bays ▸ hb) hw) _
  · exact hs

end State
end Sys2Proof.Machine

/-! ### The laws of the ledger: an order cancelled (R16) -/

namespace Sys2Proof.Machine

variable {s : State} {b n c : Nat} {o : Order} {k : Cartridge}

namespace State

theorem ledger_serial (ho : s.order n = some o) : s.ledger.serial n = o.serial := by
  simp only [State.ledger, ho, Option.bind_some]

/-- An order without a cartridge leaves the book. -/
theorem ledger_dropOrder_loose (h : s.ledger.serial n = none) : (s.dropOrder n).ledger = s.ledger := by
  rw [State.ledger_dropOrder]
  exact congrArg (fun g => { s.ledger with serial := g }) (Function.update_eq_self_iff.2 h.symm)

/-- R66: the cartridge of an order that leaves the book is blanked in its bay. -/
theorem custody_dropInBay (hs : s.ledger.Custody) (hb : b < s.bays.length) (hw : s.AtWork b c n k) :
    ((s.dropOrder n).blankInPlace b).ledger.Custody := by
  obtain ⟨hc, hk, hkb, hst, hserial, -⟩ := hw
  rw [State.ledger_blankInPlace (s := s.dropOrder n) hb hc hk, State.ledger_dropOrder]
  refine hs.frees (keep := true) (st := .blanking) (k' := k.dirtied) hk (by simp [hst]) hserial hkb
    ⟨rfl, .inl rfl, hkb, fun _ => ?_⟩ nofun fun m hm => .inl hm
  exact ((hs.kept c).held k hk).dirty (by simp [hst]) (by simp [hst])

/-- R16: the written cartridge of an order that leaves the book joins the backlog. -/
theorem custody_dropShelved (hs : s.ledger.Custody) (hk : s.cart c = some k) (hst : k.state = .written)
    (hkb : k.bay = none) (hserial : s.ledger.serial n = some c) : (((s.dropOrder n).onCart c
      (fun c => { c with state := .needsBlank, bound := .unbound })).joinBacklog c).ledger.Custody := by
  have hkd : (s.dropOrder n).cart c = some k := hk
  have hdirty := ((hs.kept c).held k hk).dirty (by simp [hst]) (by simp [hst])
  rw [State.ledger_joinBacklog, State.ledger_onCart, hkd, State.ledger_dropOrder]
  refine hs.parks (k' := { k with state := .needsBlank, bound := .unbound }) (g := s.ledger.lent)
    (f := Function.update s.ledger.serial n none) hk hkb rfl hkb ⟨.inr rfl, .inr (.inl rfl), nofun, fun _ => hdirty⟩
    (.joinBacklog hs hk (.of_state (by simp [hst]) (by simp [hst])) rfl hkb) ?_ ?_ (fun _ _ h _ => h)
  · intro m d hm hd
    refine (Function.update_of_ne (fun hmn => hd ?_) ..).trans hm
    exact Option.some.inj ((hmn ▸ hm).symm.trans hserial)
  · intro m hm
    by_cases hmn : m = n
    · exact hmn ▸ Function.update_self ..
    · exact (Function.update_of_ne hmn ..).trans (hs.queued m hm)

/-- R16. -/
theorem custody_releaseItem (hs : s.ledger.Custody) (hsound : s.Sound) (ho : s.order n = some o)
    (hst : o.state ≠ .packed) : ((s.dropOrder n).releaseItem n o).ledger.Custody := by
  have ho' := State.scene_order ho
  have hplace := hsound.core.place n _ ho'
  have hloose (h : o.serial = none) : (s.dropOrder n).ledger = s.ledger :=
    ledger_dropOrder_loose ((ledger_serial ho).trans h)
  have hblank {b : Nat} (hb : o.bay = some b) : ((s.dropOrder n).blankInPlace b).ledger.Custody := by
    obtain ⟨c, hc⟩ := hplace.serial_of_bay hb
    obtain ⟨-, -, -, hlt, -⟩ := hsound.core.inBay ho' hb hc
    obtain ⟨k, hw⟩ := hsound.atWork ho hb hc
    exact custody_dropInBay hs (hsound.bays ▸ hlt) hw
  have hrack (h : o.state = .writing ∨ o.state = .verifying) : ∃ b, o.bay = some b := hplace.bay_of_rack h
  unfold State.releaseItem
  split
  · next hst =>
    rw [State.ledger_setQueue, hloose (hplace.loose (.inl hst)).1]
    exact hs.requeue fun m hm => .inl (List.mem_of_mem_filter hm)
  · next hst =>
    rw [State.ledger_onTitle _ _ (by simp), hloose (hplace.loose (.inr (.inr hst))).1]
    exact hs
  · next hst =>
    obtain ⟨b, hb⟩ := hrack (.inl hst)
    rw [hb]
    exact hblank hb
  · next hst =>
    obtain ⟨b, hb⟩ := hrack (.inr hst)
    rw [hb]
    exact hblank hb
  · next hst =>
    split
    · next i hi =>
      obtain ⟨-, -, hserial, -⟩ := hplace.of_copy hi
      rw [State.ledger_shelve, hloose hserial]
      exact hs
    · next hb => exact hblank hb
    · next c _ hb hc =>
      obtain ⟨st, hsh, hcart⟩ := hsound.core.shelved ho' hb hc
      obtain ⟨k, hk, hkc⟩ := State.cart_of_scene hcart
      have hwritten : st = .written := by
        rw [show o.core.state = .ready from hst] at hsh
        exact (Option.some.inj hsh).symm
      exact custody_dropShelved hs hk ((congrArg CartCore.state hkc).trans hwritten) (congrArg CartCore.bay hkc)
        ((ledger_serial ho).trans hc)
    · next hcopy _ hser => exact absurd ⟨hcopy, hser⟩ (hplace.item_of_ready hst)
  · next h => exact absurd h hst
  · next hst =>
    rw [hloose (hplace.loose (.inr (.inl hst))).1]
    exact hs

theorem custody_orderCancel (hs : s.ledger.Custody) (hsound : s.Sound) (hf : s.FirstLaw) (n : Nat) :
    (orderCancel n s).state.ledger.Custody := by
  simp only [Machine.orderCancel]
  split
  · exact hs
  split
  · exact hs
  next o ho =>
  split
  · exact hs
  next hst =>
  have hreleased := custody_onPatron (custody_releaseItem hs hsound ho hst) o.patron Patron.lose
  refine custody_settle (custody_releasePass ((State.ledger_reexamine ..).symm ▸ hreleased)
    (firstLaw_shapeLaw.congr ?_ (firstLaw_shapeLaw.cancelled hf ho)) o.patron) _
  simp only [State.shape_reexamine]
  exact State.shape_onPatron_congr (by simp) _ (fun _ => rfl)

end State

end Sys2Proof.Machine

/-! ### The laws of the ledger: items packed, handed over and returned -/

namespace Sys2Proof.Machine

variable {s : State} {n c l : Nat} {o : Order} {k : Cartridge}

namespace Ledger

variable {L : Ledger}

/-- R129: an order's written cartridge is packed. -/
theorem Custody.packs (hL : L.Custody) (hk : L.cart c = some k) (hst : k.state = .written) (hkb : k.bay = none) :
    Custody { L with cart := Function.update L.cart c (some { k with state := .packed }) } := by
  have hother := fun j => hL.of_armed (b := j) hk
  have hqueued := hL.queued
  obtain ⟨hpool, hbacklog⟩ := hL.standing hk
  obtain ⟨horder, hloan, hunbound, hbay, -, hdirty⟩ := (hL.kept c).held k hk
  refine hL.deal (c := c) { held := ?_, standing := ?_ }
  · simp only [Function.update_self]
    rintro _ ⟨⟩
    constructor <;> grind [CartridgeState.spare]
  · simp only [Cartridge.standing, Function.update_self] at *
    grind

/-- R140: an order's packed cartridge goes out on a new loan. -/
theorem Custody.lends (hL : L.Custody) (hk : L.cart c = some k) (hst : k.state = .packed) (hkb : k.bay = none)
    (hserial : L.serial n = some c) (hnew : L.lent l = none) : Custody { L with
      cart := Function.update L.cart c (some { k with state := .onLoan, bound := .loan l })
      serial := Function.update L.serial n none
      lent := Function.update L.lent l (some c) } := by
  have hother := fun j => hL.of_armed (b := j) hk
  have hqueued := hL.queued
  obtain ⟨hpool, hbacklog⟩ := hL.standing hk
  have hdirty := ((hL.kept c).held k hk).dirty (by simp [hst]) (by simp [hst])
  refine hL.deal (c := c) { held := ?_, standing := ?_ }
  · simp only [Function.update_self]
    rintro _ ⟨⟩
    constructor <;> grind [CartridgeState.spare]
  · simp only [Cartridge.standing, Function.update_self] at *
    grind

end Ledger

namespace State

/-! #### PACK_ITEM (R127 to R131) -/

@[simp] theorem ledger_newContainer (s : State) (p : Nat) (br : Bool) : (s.newContainer p br).1.ledger = s.ledger := by
  simp only [State.newContainer]
  split <;> rfl

@[simp] theorem ledger_afterPlacing (s : State) (m : Nat) (created : Bool) :
    (s.afterPlacing m created).ledger = s.ledger := by
  have hclose (u : State) (m : Nat) : (u.closeContainer m).ledger = u.ledger :=
    State.ledger_congr (by simp) (by simp) (by simp) (by simp) (by simp)
  simp only [State.afterPlacing, State.expireAtOnce]
  split
  · rfl
  · split
    · exact hclose ..
    · split
      · split
        · exact State.ledger_congr (by simp) (by simp) (by simp) (by simp) (by simp)
        · exact hclose ..
      · rfl

/-- What a READY order in no bay has is a cartridge that is WRITTEN. -/
theorem cart_of_ready (hs : s.scene.Core) (ho : s.order n = some o) (hst : o.state = .ready) (hbay : o.bay = none)
    (hc : o.serial = some c) : ∃ k, s.cart c = some k ∧ k.state = .written ∧ k.bay = none := by
  obtain ⟨st, hsh, hcart⟩ := hs.shelved (State.scene_order ho) hbay hc
  obtain ⟨k, hk, hkc⟩ := State.cart_of_scene hcart
  have hwritten : st = .written := by
    rw [show o.core.state = .ready from hst] at hsh
    exact (Option.some.inj hsh).symm
  exact ⟨k, hk, (congrArg CartCore.state hkc).trans hwritten, congrArg CartCore.bay hkc⟩

theorem custody_placeItem (hs : s.ledger.Custody)
    (hwritten : ∀ c, o.serial = some c → ∃ k, s.cart c = some k ∧ k.state = .written ∧ k.bay = none) (m : Nat) :
    (s.placeItem n o m).ledger.Custody := by
  have hplaced : ∀ f, ((s.onOrder n (fun o => { o with state := .packed, container := some m })).onContainer m f).ledger =
      s.ledger := fun _ => State.ledger_onOrder_of s n (fun _ => rfl)
  simp only [State.placeItem]
  split
  · next c hc =>
    obtain ⟨k, hk, hst, hkb⟩ := hwritten c hc
    rw [State.ledger_onCart, hplaced]
    simp only [State.cart, State.onContainer_carts, State.onOrder_carts] at hk ⊢
    rw [hk]
    exact hs.packs hk hst hkb
  · rw [hplaced]
    exact hs

theorem custody_packItem (hs : s.ledger.Custody) (hsound : s.Sound) (hcarts : s.CartridgeLaw) (hcopies : s.CopyLaw)
    (item identity copy : Nat) : (packItem item identity copy s).state.ledger.Custody := by
  unfold Machine.packItem
  split
  · exact hs
  split
  · exact hs
  next n hn =>
  split
  · next o ho =>
    obtain ⟨hst, hbay⟩ := hsound.target_ready hcarts hcopies hn ho
    have hpack {u : State} (hcart : u.cart = s.cart) (hu : u.ledger.Custody) (m : Nat) (created : Bool) :
        (u.packInto n o m created).state.ledger.Custody := by
      simp only [State.packInto, answer_state, ledger_reexamine, ledger_afterPlacing]
      exact custody_placeItem hu (fun c hc => hcart ▸ cart_of_ready hsound.core ho hst hbay hc) m
    unfold State.packOrder
    split
    · exact hpack rfl hs _ _
    · split
      · exact hs
      · refine hpack ?_ ((ledger_newContainer ..).symm ▸ hs) _ _
        exact congrArg Ledger.cart (ledger_newContainer s o.patron _)
  · exact hs

/-! #### BAG_HANDED (R140, R141) -/

/-- R140: an order is a loan now, and has no cartridge. -/
theorem ledger_lend (s : State) (n : Nat) (o : Order) :
    (s.lend n o).ledger = { s.ledger with
      serial := Function.update s.ledger.serial n none
      lent := Function.update s.ledger.lent (assignNumber maxNumber s.loans.loans s.loans.counter) o.item.serial } := by
  have hdrop := congrArg Ledger.serial (s.ledger_dropOrder n)
  have hlent : (s.lend n o).ledger.lent = Function.update s.ledger.lent
      (assignNumber maxNumber s.loans.loans s.loans.counter) o.item.serial := by
    funext m
    simp only [State.ledger, State.loan, State.lend, Table.look_put, Function.update_apply]
    split <;> rfl
  simp only [State.ledger] at hdrop hlent ⊢
  rw [← hdrop, ← hlent]
  rfl

theorem custody_dispatchOrder (hs : s.ledger.Custody) (hcore : s.scene.Core) (hf : s.FirstLaw)
    (hst : ∀ o, s.order n = some o → o.state = .packed) : (s.dispatchOrder n).ledger.Custody := by
  cases ho : s.order n with
  | none => rwa [s.dispatchOrder_of_none ho]
  | some o =>
    have hplace := hcore.place n _ (State.scene_order ho)
    have hfree := hf.nextLoan_free
    have hlend := s.ledger_lend n o
    have hlent : s.ledger.lent (assignNumber maxNumber s.loans.loans s.loans.counter) = none := by
      simp only [State.ledger, State.loan, hfree, Option.bind_none]
    cases hfmt : o.format with
    | cartridge =>
      obtain ⟨c, hser, hbay⟩ := hplace.cart_of_packed (hst o ho) hfmt
      obtain ⟨st, hsh, hcart⟩ := hcore.shelved (State.scene_order ho) hbay hser
      obtain ⟨k, hk, hkc⟩ := State.cart_of_scene hcart
      have hpacked : st = .packed := by
        rw [show o.core.state = .packed from hst o ho] at hsh
        exact (Option.some.inj hsh).symm
      have hitem : o.item = .cartridge c := by simp only [Order.item, hfmt, show o.serial = some c from hser]; rfl
      have hd : s.dispatchOrder n = (s.lend n o).onCart c (fun c =>
          { c with state := .onLoan, bound := .loan (assignNumber maxNumber s.loans.loans s.loans.counter) }) := by
        simp only [State.dispatchOrder, ho, hitem]
        rfl
      rw [hd, State.ledger_onCart, hlend, hitem, show (s.lend n o).cart c = some k from hk]
      exact hs.lends hk ((congrArg CartCore.state hkc).trans hpacked) (congrArg CartCore.bay hkc)
        ((ledger_serial ho).trans hser) hlent
    | braille =>
      obtain ⟨i, hi⟩ := hplace.copy_of_packed (hst o ho) hfmt
      obtain ⟨-, -, hser, -⟩ := hplace.of_copy hi
      have hitem : o.item = .copy i := by simp only [Order.item, hfmt, show o.copy = some i from hi]; rfl
      have hd : s.dispatchOrder n = (s.lend n o).onTitle o.title (fun t =>
          t.setCopy i (.onLoan (assignNumber maxNumber s.loans.loans s.loans.counter))) := by
        simp only [State.dispatchOrder, ho, hitem]
        rfl
      rw [hd, State.ledger_onTitle _ _ (by simp), hlend, hitem]
      have hs1 : Function.update s.ledger.serial n none = s.ledger.serial :=
        Function.update_eq_self_iff.2 ((ledger_serial ho).trans hser).symm
      have hs2 : Function.update s.ledger.lent (assignNumber maxNumber s.loans.loans s.loans.counter) (Item.copy i).serial =
          s.ledger.lent := Function.update_eq_self_iff.2 hlent.symm
      rw [hs1, hs2]
      exact hs

theorem custody_dispatchAll {gone items : List Nat} (l : List Nat) {s : State} (hs : s.ledger.Custody)
    (h : s.Handing gone items) (hl : ∀ n ∈ l, n ∈ items) : (l.foldl State.dispatchOrder s).ledger.Custody := by
  induction l generalizing s with
  | nil => exact hs
  | cons n rest ih =>
    have hn := hl n (List.mem_cons_self ..)
    refine ih (custody_dispatchOrder hs h.core h.first fun o ho => ?_) (h.dispatchOrder hn)
      (fun m hm => hl m (List.mem_cons_of_mem _ hm))
    exact (h.inside n hn o ho).1

theorem Sound.handing (hsound : s.Sound) (hf : s.FirstLaw) (gone : List Nat) :
    s.Handing gone (gone.map s.itemsOf).flatten := by
  refine ⟨hsound.core, hf, fun k v hv _ => hsound.boxes k v hv, fun n hn o ho => ?_⟩
  obtain ⟨_, hl, hnl⟩ := List.mem_flatten.1 hn
  obtain ⟨m, hm, rfl⟩ := List.mem_map.1 hl
  unfold State.itemsOf at hnl
  split at hnl
  · next v hv =>
    obtain ⟨⟨-, -, -, -, hfilled⟩, -⟩ := hsound.boxes m v.core (by simp [State.scene, hv])
    obtain ⟨o', ho', hst, hin, -⟩ := hfilled n hnl
    cases (State.scene_order ho).symm.trans ho'
    exact ⟨hst, m, hm, hin⟩
  · cases hnl

theorem custody_bagHanded (hs : s.ledger.Custody) (hsound : s.Sound) (hf : s.FirstLaw) (bag : Nat) :
    (bagHanded bag s).state.ledger.Custody := by
  unfold Machine.bagHanded
  split
  · exact hs
  split
  · exact hs
  next g hg =>
  split
  · exact hs
  · have hall := custody_dispatchAll _ hs (hsound.handing hf g.containers) (fun _ h => h)
    exact (State.ledger_drain _).symm ▸ hall

/-! #### RETURN_ITEM (R153 to R156) -/

theorem ledger_closeLoan (s : State) (n : Nat) (l : Loan) :
    (s.closeLoan n l).ledger = { s.ledger with lent := Function.update s.ledger.lent n none } := by
  simp only [State.ledger]
  congr 1
  funext m
  simp only [State.loan, State.closeLoan, Table.look_drop, Function.update_apply]
  split <;> rfl

/-- A cartridge on loan is in no bay. -/
theorem bay_of_onLoan (hs : s.ledger.Custody) (hsound : s.Sound) (hk : s.cart c = some k) (hst : k.state = .onLoan) :
    k.bay = none := by
  cases hkb : k.bay with
  | none => rfl
  | some b =>
    have hberth := ((hs.kept c).held k hk).bay b hkb
    have hlt : b < bayCount := hsound.bays ▸ State.lt_bays_of_berth hberth
    exact absurd hst (hsound.core.berth_cart hlt hberth (State.scene_cart hk))

/-- R153 to R155: a loan closes, and its item is sent on. -/
theorem custody_sendOn (hs : s.ledger.Custody) (hsound : s.Sound) {l : Loan} (hl : s.loan n = some l) (condition : Nat) :
    ((s.closeLoan n l).sendOn l condition).ledger.Custody := by
  have hlent := hsound.core.lent n l.core (by simp [State.scene, hl])
  have hclosed := s.ledger_closeLoan n l
  have hlentn : s.ledger.lent n = l.item.serial := by simp only [State.ledger, hl, Option.bind_some]
  unfold State.sendOn
  split
  · next c hitem =>
    obtain ⟨x, hcart⟩ : ∃ x, s.scene.cart c = some ⟨.onLoan, .loan n, x⟩ := by
      cases hlent with
      | cartridge h1 h2 => cases h1.symm.trans hitem; exact ⟨_, h2⟩
      | copy h1 => cases h1.symm.trans hitem
    obtain ⟨k, hk, hkc⟩ := State.cart_of_scene hcart
    have hst : k.state = .onLoan := congrArg CartCore.state hkc
    have hkb := bay_of_onLoan hs hsound hk hst
    have hdirty := ((hs.kept c).held k hk).dirty (by simp [hst]) (by simp [hst])
    have hkclosed : (s.closeLoan n l).cart c = some k := hk
    have hout : k.Unqueued := .of_state (by simp [hst]) (by simp [hst])
    have hother (m d : Nat) (hm : s.ledger.lent m = some d) (hd : d ≠ c) :
        Function.update s.ledger.lent n none m = some d := by
      refine (Function.update_of_ne (fun hmn => hd ?_) ..).trans hm
      rw [hmn, hlentn, hitem] at hm
      exact (Option.some.inj hm).symm
    split
    · rw [State.ledger_joinBacklog, State.ledger_onCart, hclosed, hkclosed]
      exact hs.parks (k' := { k with state := .needsBlank, bound := .unbound }) (f := s.ledger.serial)
        (g := Function.update s.ledger.lent n none) hk hkb rfl hkb ⟨.inr rfl, .inr (.inl rfl), nofun, fun _ => hdirty⟩
        (.joinBacklog hs hk hout rfl hkb) (fun _ _ h _ => h) hs.queued hother
    · rw [State.ledger_retire hkclosed, hclosed]
      exact hs.parks (k' := { k with state := .retired, bound := .unbound }) (f := s.ledger.serial)
        (g := Function.update s.ledger.lent n none) hk hkb rfl hkb ⟨.inr rfl, .inr (.inr rfl), nofun, nofun⟩
        (.leaveQueues (.of_state nofun nofun)) (fun _ _ h _ => h) hs.queued hother
  · next i hitem =>
    have hsame : (s.closeLoan n l).ledger = s.ledger := by
      rw [hclosed]
      have hnone : s.ledger.lent n = none := by rw [hlentn, hitem]; rfl
      exact congrArg (fun g => { s.ledger with lent := g }) (Function.update_eq_self_iff.2 hnone.symm)
    split
    · rw [State.ledger_shelve, hsame]
      exact hs
    · rw [State.ledger_onTitle _ _ (by simp), hsame]
      exact hs

theorem ledger_laneError (s : State) (e : ErrorKind) (i : GivenItem) (x : Option Nat) :
    (s.laneError e i x).ledger = s.ledger := by
  simp only [State.laneError]
  split <;> rfl

theorem custody_returnItem (hs : s.ledger.Custody) (hsound : s.Sound) (hf : s.FirstLaw)
    (item identity copy condition : Nat) : (returnItem item identity copy condition s).state.ledger.Custody := by
  simp only [Machine.returnItem]
  split
  · exact hs
  split
  · exact hs
  split
  · next n l hcase =>
    have hl := s.loan_of_classify hcase
    have hfirst : ((s.closeLoan n l).sendOn l condition).FirstLaw :=
      firstLaw_shapeLaw.congr (State.shape_sendOn _ _ _) (firstLaw_shapeLaw.loanClosed hf hl)
    exact custody_settle (custody_releasePass (custody_sendOn hs hsound hl condition) hfirst l.patron) _
  · exact (State.ledger_laneError ..).symm ▸ hs

end State

end Sys2Proof.Machine

/-! ### The laws of the ledger: titles, cartridges, the clock and the rounds -/

namespace Sys2Proof.Machine

variable {s : State} {c : Nat} {k : Cartridge}

namespace Ledger

variable {L : Ledger}

/-- R49: a new cartridge joins the pool. -/
theorem Custody.adds (hL : L.Custody) (hnew : L.cart c = none) : Custody { L with
    cart := Function.update L.cart c (some Cartridge.created)
    pool := L.pool ++ [c] } := by
  have harmed := hL.armed
  have hqueued := hL.queued
  obtain ⟨-, hpool, hbacklog⟩ := hL.kept c
  rw [hnew] at hpool hbacklog
  refine hL.deal (c := c) { held := ?_, standing := ?_ }
  · simp only [Function.update_self]
    rintro _ ⟨⟩
    constructor <;> simp [Cartridge.created, CartridgeState.spare]
  · simp only [Cartridge.standing, Function.update_self, Cartridge.created] at *
    grind

/-- R50: a RETIRED cartridge, or one in the pool, leaves. -/
theorem Custody.drops (hL : L.Custody) (hk : L.cart c = some k) (hst : k.state ≠ .needsBlank) (hkb : k.bay = none) :
    Custody { L with
      cart := Function.update L.cart c none
      pool := L.pool.filter (· != c) } := by
  have hother := fun j => hL.of_armed (b := j) hk
  have hqueued := hL.queued
  obtain ⟨-, hbacklog⟩ := hL.standing hk
  have hfilter : ∀ d, d ≠ c → (L.pool.filter (· != c)).count d = L.pool.count d :=
    fun d hd => List.count_filter (by simpa using hd)
  refine hL.deal (c := c) { held := by simp, standing := ?_ }
  simp only [Function.update_self, hbacklog]
  exact ⟨List.count_eq_zero.2 (by simp), if_neg fun h => hst h.1⟩

/-- A change of the image sizes. -/
theorem Custody.resize (hL : L.Custody) {f : Nat → Option Nat} (hf : ∀ t m, f t = some m → 1 ≤ m) :
    Custody { L with size := f } where
  kept c := by
    refine ⟨fun k hk => ?_, (hL.kept c).pool, (hL.kept c).backlog⟩
    obtain ⟨horder, hloan, hunbound, hbay, hclean, hdirty⟩ := (hL.kept c).held k hk
    exact ⟨horder, hloan, hunbound, hbay, hclean, hdirty⟩
  queued := hL.queued
  armed := hL.armed
  sizes := hf

end Ledger

namespace State

/-! #### The cartridges (3.5) -/

theorem custody_cartridgeAdd (hs : s.ledger.Custody) (c : Nat) : (cartridgeAdd c s).state.ledger.Custody := by
  simp only [Machine.cartridgeAdd]
  split
  · exact hs
  split
  · exact hs
  next hnew =>
  split
  · exact hs
  · have hfree : s.ledger.cart c = none := (Table.has_false_iff _ c).1 (by simpa using hnew)
    have hput : ({ s with carts := { s.carts with table := s.carts.table.put c .created } } : State).ledger.cart =
        Function.update s.ledger.cart c (some Cartridge.created) := by
      funext d
      simp only [State.ledger, State.cart, Table.look_put, Function.update_apply]
    rw [answer_state, State.ledger_joinPool]
    exact (congrArg (fun g => Ledger.Custody { s.ledger with cart := g, pool := s.ledger.pool ++ [c] }) hput).mpr
      (hs.adds hfree)

theorem custody_cartridgeDrop (hs : s.ledger.Custody) (c : Nat) : (cartridgeDrop c s).state.ledger.Custody := by
  simp only [Machine.cartridgeDrop]
  split
  · exact hs
  split
  · exact hs
  next k hk =>
  split
  · exact hs
  · next hdrop =>
    have hfit : k.state ≠ .needsBlank ∧ k.bay = none := by
      simp only [State.droppable, Bool.not_eq_false, Bool.or_eq_true, Bool.and_eq_true, decide_eq_true_eq,
        Option.isNone_iff_eq_none] at hdrop
      rcases hdrop with ⟨hst, hbay⟩ | ⟨⟨hst, hbay⟩, -⟩ <;> simp [hst, hbay]
    have hleft : ({ s with carts := { s.carts with table := s.carts.table.drop c, pool := s.carts.pool.filter (· != c) } } :
        State).ledger.cart = Function.update s.ledger.cart c none := by
      funext d
      simp only [State.ledger, State.cart, Table.look_drop, Function.update_apply]
    exact (congrArg (fun g => Ledger.Custody { s.ledger with cart := g, pool := s.ledger.pool.filter (· != c) }) hleft).mpr
      (hs.drops hk hfit.1 hfit.2)

/-! #### The catalogue (2.6) -/

theorem one_le_clampImage (m : Nat) : 1 ≤ clampImage m := by
  simp only [clampImage, maxImage]
  omega

/-- A change of the catalogue. -/
theorem custody_catalogue (hs : s.ledger.Custody) {t : State} (hcarts : t.carts = s.carts) (hbook : t.book = s.book)
    (hbays : t.bays = s.bays) (hloans : t.loans = s.loans)
    (hsizes : ∀ n v m, t.title n = some v → v.size = some m → 1 ≤ m) : t.ledger.Custody := by
  have hother := State.ledger_congr (s := s) (t := { t with titles := s.titles }) hcarts hbook hbays hloans rfl
  have hledger : t.ledger = { s.ledger with size := t.ledger.size } := hother ▸ rfl
  rw [hledger]
  refine hs.resize fun n m h => ?_
  obtain ⟨v, hv, hm⟩ := Option.bind_eq_some_iff.1 h
  exact hsizes n v m hv hm

theorem Ledger.Custody.size_of_title (hs : s.ledger.Custody) {n m : Nat} {v : Title} (hv : s.title n = some v)
    (hm : v.size = some m) : 1 ≤ m :=
  hs.sizes n m (by simp only [State.ledger, hv, Option.bind_some, hm])

theorem custody_titleLoad (hs : s.ledger.Custody) (title f size sel copies : Nat) :
    (titleLoad title f size sel copies s).state.ledger.Custody := by
  have hput (t : Title) (ht : ∀ m, t.size = some m → 1 ≤ m) :
      ({ s with titles := s.titles.put title t } : State).ledger.Custody := by
    refine custody_catalogue hs rfl rfl rfl rfl fun n v m hv hm => ?_
    simp only [State.title, Table.look_put] at hv
    split at hv
    · cases hv
      exact ht m hm
    · exact Ledger.Custody.size_of_title hs hv hm
  simp only [Machine.titleLoad]
  split
  · exact hs
  split
  · exact hs
  split
  · exact hs
  split
  · refine hput _ fun m hm => ?_
    cases hm
    exact one_le_clampImage size
  · exact hput _ nofun

theorem custody_titleSet (hs : s.ledger.Custody) (title size sel copies : Nat) :
    (titleSet title size sel copies s).state.ledger.Custody := by
  simp only [Machine.titleSet]
  split
  · exact hs
  split
  · exact hs
  · unfold setCartridgeTitle
    split
    · exact hs
    split
    · exact hs
    · refine custody_catalogue hs rfl rfl rfl rfl fun n v m hv hm => ?_
      simp only [answer_state, State.title, State.onTitle_titles, Table.look_alter] at hv
      split at hv
      · obtain ⟨-, -, rfl⟩ := Option.map_eq_some_iff.1 hv
        cases hm
        exact one_le_clampImage size
      · exact Ledger.Custody.size_of_title hs hv hm
  · simp only [setBrailleTitle]
    split
    · split
      · exact hs
      · refine (State.ledger_onTitle s title fun v => ?_).symm ▸ hs
        cases v <;> rfl
    · refine custody_settle ?_ _
      exact (State.ledger_bringCopies ..).symm ▸ hs

theorem ledger_stripDeferred (s : State) (title n : Nat) : (State.stripDeferred title s n).ledger = s.ledger :=
  State.ledger_congr (by simp) (by simp) (by simp) (by simp) (by simp)

theorem custody_titleDrop (hs : s.ledger.Custody) (title : Nat) : (titleDrop title s).state.ledger.Custody := by
  have hdrop : ({ s with titles := s.titles.drop title } : State).ledger.Custody := by
    refine custody_catalogue hs rfl rfl rfl rfl fun n v m hv hm => ?_
    simp only [State.title, Table.look_drop] at hv
    split at hv
    · cases hv
    · exact Ledger.Custody.size_of_title hs hv hm
  simp only [Machine.titleDrop]
  split
  · exact hs
  split
  · exact hs
  split
  · exact hs
  · rw [answer_state, foldl_keeps State.ledger _ fun u n => ledger_stripDeferred u title n]
    exact hdrop

/-! #### The day clock and the mail settings (7.1 to 7.3) -/

theorem ledger_lastCall (s : State) : s.lastCall.ledger = s.ledger := by
  have hclose (u : State) (n : Nat) : (u.closeWithNotice n .lastCall).ledger = u.ledger :=
    State.ledger_congr (by simp) (by simp) (by simp) (by simp) (by simp)
  refine (State.ledger_of_scene (State.scene_tagsLate _) (by simp) (by simp)).trans ?_
  exact foldl_keeps State.ledger _ hclose _ _

theorem ledger_cutOff (s : State) : s.cutOff.ledger = s.ledger := by
  refine foldl_keeps State.ledger _ (fun u n => ?_) _ _
  exact State.ledger_congr (by simp) (by simp) (by simp) (by simp) (by simp)

@[simp] theorem ledger_enterMailDay (s : State) : s.enterMailDay.ledger = s.ledger := by
  simp only [State.enterMailDay]
  split
  · rw [ledger_cutOff]
    split
    · exact ledger_lastCall _
    · rfl
  · split
    · exact ledger_lastCall _
    · rfl

@[simp] theorem ledger_dayRecompute (s : State) (d : Bool) : (s.dayRecompute d).ledger = s.ledger :=
  State.ledger_of_scene (State.scene_dayRecompute ..) rfl rfl

@[simp] theorem ledger_sweep (s : State) : s.sweep.ledger = s.ledger :=
  State.ledger_of_scene (State.scene_sweep s) (by simp) (by simp)

theorem ledger_advanceSecond (s : State) : s.advanceSecond.ledger = s.ledger := by
  simp only [State.advanceSecond, ledger_settle]
  split
  · simp only [State.rollover, ledger_enterMailDay]
    exact (ledger_dayRecompute ..).trans (ledger_sweep _)
  · exact ledger_enterMailDay _

theorem ledger_clockSet (s : State) (day second : Nat) : (clockSet day second s).state.ledger = s.ledger := by
  unfold Machine.clockSet
  split
  · rfl
  · simp only [answer_state, State.setClock, ledger_settle, ledger_dayRecompute]
    split
    · exact (ledger_sweep _).trans (ledger_enterMailDay _)
    · exact ledger_enterMailDay _

theorem ledger_mailSet (s : State) (c m i a : Nat) : (mailSet c m i a s).state.ledger = s.ledger := by
  refine (foldl_keeps State.ledger _ (fun u n => u.ledger_idleExpire n) _ _).trans ?_
  rw [ledger_settle, ledger_dayRecompute, ledger_enterMailDay]
  rfl

theorem ledger_idleReached (s : State) (n : Nat) : (s.idleReached n).ledger = s.ledger := by
  unfold State.idleReached
  (repeat' split) <;> simp

/-! #### The rounds and the slots (Chapter 5) -/

theorem ledger_rackStart (s : State) : (rackStart s).state.ledger = s.ledger := by
  simp only [Machine.rackStart]
  split
  · rfl
  · rw [answer_state, ledger_settle, ledger_recomputeWriting, ledger_onRack]

theorem ledger_rackStop (s : State) : (rackStop s).state.ledger = s.ledger := by
  simp only [Machine.rackStop]
  split
  · rfl
  · rw [answer_state, ledger_settle]
    exact State.ledger_of_scene (State.scene_stopRack s) rfl rfl

theorem ledger_rackSet (s : State) (a b c d e : Nat) : (rackSet a b c d e s).state.ledger = s.ledger := by
  unfold Machine.rackSet
  (repeat' split) <;> rfl

theorem nextSlice_frame (s : State) : s.nextSlice.state.carts = s.carts ∧ s.nextSlice.state.titles = s.titles := by
  simp only [State.nextSlice, State.beginRound, State.grantSlot, State.roundDone, State.stopRack]
  (repeat' split) <;> simp

theorem ledger_sliceNext (s : State) : (sliceNext s).state.ledger = s.ledger := by
  unfold Machine.sliceNext
  split
  · rfl
  · refine (ledger_settle ..).trans ?_
    obtain ⟨hcarts, htitles⟩ := nextSlice_frame s
    exact State.ledger_of_scene (State.scene_nextSlice s) hcarts htitles

theorem ledger_slotExpiry (s : State) : s.slotExpiry.ledger = s.ledger := by
  unfold State.slotExpiry
  split
  · rfl
  · exact ledger_expireSlot _

theorem custody_sliceDone (hs : s.ledger.Custody) (hsound : s.Sound) (hjobs : s.JobLaw) (even odd : Nat) :
    (sliceDone even odd s).state.ledger.Custody := by
  unfold Machine.sliceDone
  split
  · exact hs
  next sl hsl =>
  split
  · exact (ledger_expireSlot s).symm ▸ hs
  split
  · exact hs
  · exact custody_settle (custody_takeReport hs hsound hjobs hsl even odd) _

/-! #### Containers, bags and patrons -/

theorem ledger_containerClose (s : State) (n : Nat) : (containerClose n s).state.ledger = s.ledger := by
  unfold Machine.containerClose
  split
  · rfl
  split
  · rfl
  split
  · rfl
  · exact State.ledger_congr (by simp) (by simp) (by simp) (by simp) (by simp)

theorem ledger_bagClose (s : State) (n : Nat) : (bagClose n s).state.ledger = s.ledger := by
  unfold Machine.bagClose
  split
  · rfl
  split
  · rfl
  split
  · rfl
  · exact State.ledger_congr (by simp) (by simp) (by simp) (by simp) (by simp)

theorem ledger_containerSealed (s : State) (n : Nat) : (containerSealed n s).state.ledger = s.ledger := by
  unfold Machine.containerSealed
  split
  · rfl
  split
  · rfl
  split
  · rfl
  split
  · next r hr =>
    obtain ⟨hcarts, hbook, hbays, hloans, htitles⟩ : r.1.carts = s.carts ∧ r.1.book = s.book ∧ r.1.bays = s.bays ∧
        r.1.loans = s.loans ∧ r.1.titles = s.titles := by
      simp [s.bagContainer_frame hr]
    exact State.ledger_congr hcarts hbook hbays hloans htitles
  · rfl

end State

end Sys2Proof.Machine

/-! ### The laws of the ledger: every command -/

namespace Sys2Proof.Machine

variable {s : State}

/-- The laws that the laws of the ledger are kept by. -/
structure State.Accounted (s : State) : Prop where
  ordered : s.Ordered
  custody : s.ledger.Custody

namespace State.Accounted

theorem onUnit (hs : s.Accounted) (p : Port) (f : PortUnit → PortUnit) : (s.onUnit p f).Accounted :=
  ⟨hs.ordered.onUnit p f, hs.custody⟩

theorem takeRequest (hs : s.Accounted) {act : State → Result}
    (hact : ∀ s : State, s.Accounted → (act s).state.ledger.Custody) (code : Nat) (own : Option Code) (h : Header) :
    (takeRequest code own h act s).ledger.Custody := by
  have hc : (s.clocked h).Accounted := hs.onUnit _ _
  simp only [Machine.takeRequest]
  split
  · exact hc.custody
  split
  · exact hc.custody
  split
  · exact hc.custody
  · exact hact _ hc

theorem request (hs : s.Accounted) {act : State → Result}
    (hact : ∀ s : State, s.Accounted → (act s).state.ledger.Custody) (k : Kind) (h : Header) :
    (request k h act s).ledger.Custody :=
  hs.takeRequest hact _ _ _

/-- A request that leaves the ledger. -/
theorem quiet (hs : s.Accounted) {act : State → Result} (hact : ∀ s, (act s).state.ledger = s.ledger) (k : Kind)
    (h : Header) : (Machine.request k h act s).ledger.Custody :=
  hs.request (fun s hs => (hact s).symm ▸ hs.custody) k h

/-- A query. -/
theorem asks (hs : s.Accounted) {act : State → Result} (hact : ∀ s, (act s).state = s) (k : Kind) (h : Header) :
    (Machine.request k h act s).ledger.Custody :=
  hs.quiet (fun s => congrArg State.ledger (hact s)) k h

end State.Accounted

theorem State.ledger_patronOpen (s : State) (p r h d : Nat) : (patronOpen p r h d s).state.ledger = s.ledger := by
  simp only [patronOpen]
  (repeat' split) <;> rfl

theorem State.ledger_patronClose (s : State) (p : Nat) : (patronClose p s).state.ledger = s.ledger := by
  simp only [patronClose]
  (repeat' split) <;> rfl

theorem State.ledger_laneMask (s : State) (a b c : Nat) : (laneMask a b c s).state.ledger = s.ledger := by
  unfold laneMask
  split <;> rfl

theorem State.ledger_fetchNotices (s : State) (p : Port) (n : Nat) : (fetchNotices p n s).state.ledger = s.ledger := by
  unfold fetchNotices
  split <;> rfl

theorem State.ledger_noticeMask (s : State) (p : Port) (m n : Nat) : (noticeMask p m n s).state.ledger = s.ledger := by
  unfold noticeMask
  split <;> rfl

theorem State.ledger_placeResponse (s : State) (p : Port) : (placeResponse p s).ledger = s.ledger := by
  unfold placeResponse
  split <;> rfl

theorem State.ledger_idleStep (s : State) : s.idleStep.ledger = s.ledger := by
  unfold State.idleStep
  (repeat' split) <;> rfl

/-- R179: with every table empty and every bay EMPTY. -/
theorem State.custody_reset (l : List Instr) :
    ({ State.reset with pending := l, resetHeld := true } : State).ledger.Custody := by
  have hberth (b : Nat) :
      ({ State.reset with pending := l, resetHeld := true } : State).ledger.berth b = (.empty, none) := by
    have hvacant : State.reset.bay b = Bay.vacant :=
      (List.getD_eq_getElem?_getD ..).trans (List.getElem?_getD_replicate_default_eq _ 32 b)
    exact congrArg Bay.berth hvacant
  refine ⟨fun c => ⟨nofun, rfl, rfl⟩, nofun, fun b hb => ?_, nofun⟩
  rw [hberth b] at hb
  cases hb

namespace State.Accounted

/-- Every command keeps the laws of the ledger. -/
theorem exec (hs : s.Accounted) {c : Instr} {t : State} (ht : exec c s = .next t) : t.ledger.Custody := by
  cases c with
  | patronOpen h _ _ _ _ => cases ht; exact hs.quiet (fun s => s.ledger_patronOpen _ _ _ _) _ h
  | patronSet h _ _ _ _ _ =>
    cases ht
    exact hs.request (fun s hs => custody_patronSet hs.custody hs.ordered.first _ _ _ _ _) _ h
  | patronClose h _ => cases ht; exact hs.quiet (fun s => s.ledger_patronClose _) _ h
  | orderPlace h _ _ _ => cases ht; exact hs.request (fun s hs => custody_orderPlace hs.custody hs.ordered.first _ _ _) _ h
  | orderCancel h _ =>
    cases ht
    exact hs.request (fun s hs => custody_orderCancel hs.custody hs.ordered.sound hs.ordered.first _) _ h
  | orderRetry h _ => cases ht; exact hs.request (fun s hs => custody_orderRetry hs.custody hs.ordered.sound _) _ h
  | titleLoad h _ _ _ _ _ => cases ht; exact hs.request (fun s hs => custody_titleLoad hs.custody _ _ _ _ _) _ h
  | titleSet h _ _ _ _ => cases ht; exact hs.request (fun s hs => custody_titleSet hs.custody _ _ _ _) _ h
  | titleDrop h _ => cases ht; exact hs.request (fun s hs => custody_titleDrop hs.custody _) _ h
  | cartridgeAdd h _ => cases ht; exact hs.request (fun s hs => custody_cartridgeAdd hs.custody _) _ h
  | cartridgeDrop h _ => cases ht; exact hs.request (fun s hs => custody_cartridgeDrop hs.custody _) _ h
  | clockSet h _ _ => cases ht; exact hs.quiet (fun s => s.ledger_clockSet _ _) _ h
  | mailSet h _ _ _ _ => cases ht; exact hs.quiet (fun s => s.ledger_mailSet _ _ _ _) _ h
  | packItem h _ _ _ =>
    cases ht
    exact hs.request (fun s hs => custody_packItem hs.custody hs.ordered.sound hs.ordered.carts hs.ordered.copies _ _ _) _ h
  | containerClose h _ => cases ht; exact hs.quiet (fun s => s.ledger_containerClose _) _ h
  | containerSealed h _ => cases ht; exact hs.quiet (fun s => s.ledger_containerSealed _) _ h
  | bagClose h _ => cases ht; exact hs.quiet (fun s => s.ledger_bagClose _) _ h
  | bagHanded h _ =>
    cases ht
    exact hs.request (fun s hs => custody_bagHanded hs.custody hs.ordered.sound hs.ordered.first _) _ h
  | returnItem h _ _ _ _ =>
    cases ht
    exact hs.request (fun s hs => custody_returnItem hs.custody hs.ordered.sound hs.ordered.first _ _ _ _) _ h
  | bayInsert h _ _ => cases ht; exact hs.request (fun s hs => custody_bayInsert hs.custody hs.ordered.sound _ _) _ h
  | bayRemove h _ => cases ht; exact hs.request (fun s hs => custody_bayRemove hs.custody hs.ordered.sound _) _ h
  | bayFault h _ _ => cases ht; exact hs.request (fun s hs => custody_bayFault hs.custody hs.ordered.sound _ _) _ h
  | bayClear h _ => cases ht; exact hs.request (fun s hs => custody_bayClear hs.custody hs.ordered.sound _) _ h
  | verifyDone h _ _ => cases ht; exact hs.request (fun s hs => custody_verifyDone hs.custody hs.ordered.sound _ _) _ h
  | rackStart h => cases ht; exact hs.quiet ledger_rackStart _ h
  | rackStop h => cases ht; exact hs.quiet ledger_rackStop _ h
  | rackSet h _ _ _ _ _ => cases ht; exact hs.quiet (fun s => s.ledger_rackSet _ _ _ _ _) _ h
  | sliceNext h => cases ht; exact hs.quiet ledger_sliceNext _ h
  | sliceDone h _ _ =>
    cases ht
    exact hs.request (fun s hs => custody_sliceDone hs.custody hs.ordered.sound hs.ordered.jobs _ _) _ h
  | patronQuery h _ => cases ht; exact hs.asks (fun s => by simp) _ h
  | orderQuery h _ _ _ _ => cases ht; exact hs.asks (fun s => by simp) _ h
  | loanQuery h _ _ _ _ => cases ht; exact hs.asks (fun s => by simp) _ h
  | titleQuery h _ _ => cases ht; exact hs.asks (fun s => by simp) _ h
  | circSet h _ _ _ _ => cases ht; exact hs.quiet (fun _ => rfl) _ h
  | nextInsert h => cases ht; exact hs.quiet (fun _ => rfl) _ h
  | laneClear h => cases ht; exact hs.quiet (fun _ => rfl) _ h
  | laneMask h _ _ _ => cases ht; exact hs.quiet (fun s => s.ledger_laneMask _ _ _) _ h
  | fetchNotices h _ => cases ht; exact hs.quiet (fun s => s.ledger_fetchNotices _ _) _ h
  | cartridgeQuery h _ => cases ht; exact hs.asks (fun s => by simp) _ h
  | bayQuery h _ => cases ht; exact hs.asks (fun s => by simp) _ h
  | projectionQuery h _ => cases ht; exact hs.asks (fun s => by simp) _ h
  | containerQuery h _ => cases ht; exact hs.asks (fun s => by simp) _ h
  | bagQuery h _ => cases ht; exact hs.asks (fun s => by simp) _ h
  | noticeMask h _ _ => cases ht; exact hs.quiet (fun s => s.ledger_noticeMask _ _ _) _ h
  | status h => cases ht; exact hs.asks (fun s => by simp) _ h
  | rackQuery h => cases ht; exact hs.asks (fun s => by simp) _ h
  | laneQuery h => cases ht; exact hs.asks (fun s => by simp) _ h
  | unknownKind h code => cases ht; exact hs.takeRequest (fun s hs => hs.custody) _ _ h
  | frameDiscard p n => cases ht; exact hs.custody
  | readPeriod p n => cases ht; exact hs.custody
  | linkReset p n => cases ht; exact hs.custody
  | responsePlaced p => cases ht; exact (s.ledger_placeResponse p).symm ▸ hs.custody
  | resetAssert => cases ht; exact State.custody_reset _
  | resetRelease =>
    cases ht
    split
    · exact hs.custody
    · exact hs.custody
  | secondAdvance =>
    cases ht
    split
    · exact hs.custody
    · exact s.ledger_advanceSecond.symm ▸ hs.custody
  | slotExpiry => cases ht; exact s.ledger_slotExpiry.symm ▸ hs.custody
  | idleExpiry n => cases ht; exact (s.ledger_idleReached n).symm ▸ hs.custody

theorem step (hs : s.Accounted) {t : State} (h : step s = .next t) : t.ledger.Custody := by
  unfold Machine.step at h
  split at h
  · next rest _ =>
    have hrest : ({ s with pending := rest } : State).Accounted :=
      ⟨⟨hs.ordered.sound.of_scene rfl, hs.ordered.first, hs.ordered.bags, hs.ordered.carts, hs.ordered.copies,
        hs.ordered.jobs⟩, hs.custody⟩
    exact hrest.exec h
  · cases h
    exact s.ledger_idleStep.symm ▸ hs.custody

end State.Accounted

end Sys2Proof.Machine

/-! ### The laws of the ledger, and the sixth law of the device -/

namespace Sys2Proof.Machine

variable {s : State} {c : Nat} {k : Cartridge}

theorem Binding.boundOrder_iff {x : Binding} {n : Nat} : x.boundOrder = some n ↔ x = .order n := by
  cases x <;> simp [Binding.boundOrder]

theorem Binding.boundLoan_iff {x : Binding} {n : Nat} : x.boundLoan = some n ↔ x = .loan n := by
  cases x <;> simp [Binding.boundLoan]

/-! #### The ledger of a consistent state -/

/-- A queue of cartridges holds each cartridge of its state and in no bay once, and no other. -/
theorem count_of_queue {cart : Nat → Option Cartridge} {l : List Nat} {st : CartridgeState} (hnodup : l.Nodup)
    (hin : ∀ n ∈ l, ∃ k ∈ cart n, k.state = st ∧ k.bay = none)
    (hall : ∀ k, cart c = some k → k.state = st → k.bay = none → c ∈ l) :
    l.count c = Cartridge.standing st (cart c) := by
  rw [hnodup.count]
  cases hk : cart c with
  | none =>
    refine if_neg fun h => ?_
    obtain ⟨k, hk', -⟩ := hin c h
    cases hk.symm.trans hk'
  | some k =>
    refine if_congr ⟨fun h => ?_, fun h => hall k hk h.1 h.2⟩ rfl rfl
    obtain ⟨k', hk', hst⟩ := hin c h
    cases hk.symm.trans hk'
    exact hst

/-- Table 3-2: what a cartridge of a consistent state is bound to has it. -/
theorem State.Consistent.bound_cases (hs : s.Consistent) (hk : s.cart c = some k) :
    (k.bound = .unbound ∧ k.state.spare) ∨ (∃ n, k.bound = .order n ∧ s.ledger.serial n = some c) ∨
      (∃ l, k.bound = .loan l ∧ s.ledger.lent l = some c) := by
  obtain ⟨hblank, hneeds, hin, hwritten, hpacked, hlent, hretired, -, -⟩ := hs.cartridgeStands hk
  have horder {m : Nat} {o : Order} (hm : k.bound.boundOrder = some m) (ho : s.order m = some o)
      (hc : o.serial = some c) : ∃ n, k.bound = .order n ∧ s.ledger.serial n = some c :=
    ⟨m, Binding.boundOrder_iff.1 hm, (State.ledger_serial ho).trans hc⟩
  cases hst : k.state with
  | blank => exact .inl ⟨(hblank hst).1, .inl rfl⟩
  | needsBlank => exact .inl ⟨(hneeds hst).1, .inr (.inl rfl)⟩
  | inBay =>
    obtain ⟨-, m, hm, o, ho, hc, -⟩ := hin hst
    exact .inr (.inl (horder hm ho hc))
  | written =>
    obtain ⟨-, m, hm, o, ho, hc, -⟩ := hwritten hst
    exact .inr (.inl (horder hm ho hc))
  | packed =>
    obtain ⟨-, m, hm, o, ho, hc, -⟩ := hpacked hst
    exact .inr (.inl (horder hm ho hc))
  | onLoan =>
    obtain ⟨-, m, hm, v, hv, hitem⟩ := hlent hst
    have hlent : s.ledger.lent m = some c := by
      simp only [State.ledger, show s.loan m = some v from hv, Option.bind_some, hitem, Item.serial]
    exact .inr (.inr ⟨m, Binding.boundLoan_iff.1 hm, hlent⟩)
  | retired => exact .inl ⟨hretired hst, .inr (.inr rfl)⟩

theorem State.Consistent.held (hs : s.Consistent) (hk : s.cart c = some k) : s.ledger.Held c k := by
  obtain ⟨hblank, -, -, -, -, -, -, hdirty, hbay⟩ := hs.cartridgeStands hk
  have hclean (h : k.state = .blank) : k.dirty = 0 := (hblank h).2.1
  have hberth (b : Nat) (hb : k.bay = some b) : (s.ledger.berth b).2 = some c := (hbay b hb).2
  rcases hs.bound_cases hk with ⟨hbound, hspare⟩ | ⟨n, hbound, hserial⟩ | ⟨l, hbound, hlent⟩
  · exact ⟨by simp [hbound], by simp [hbound], fun _ => hspare, hberth, hclean, hdirty⟩
  · exact ⟨by simpa [hbound] using hserial, by simp [hbound], by simp [hbound], hberth, hclean, hdirty⟩
  · exact ⟨by simp [hbound], by simpa [hbound] using hlent, by simp [hbound], hberth, hclean, hdirty⟩

theorem State.Consistent.custody (hs : s.Consistent) : s.ledger.Custody := by
  obtain ⟨hpool, hbacklog, hinPool, hinBacklog, -⟩ := hs.cartridges
  have hsound := hs.ordered.sound
  constructor
  case kept =>
    refine fun c => ⟨fun k hk => hs.held hk, ?_, ?_⟩
    · refine count_of_queue hpool hinPool fun k hk hst hb => ?_
      obtain ⟨hblank, -⟩ := hs.cartridgeStands hk
      exact (hblank hst).2.2 hb
    · refine count_of_queue hbacklog hinBacklog fun k hk hst hb => ?_
      obtain ⟨-, hneeds, -⟩ := hs.cartridgeStands hk
      exact (hneeds hst).2 hb
  case queued =>
    intro n hn
    obtain ⟨_, ho', hst⟩ := hsound.core.queue n hn
    obtain ⟨o, ho, rfl⟩ := State.order_of_scene ho'
    exact (State.ledger_serial ho).trans ((hsound.core.place n _ ho').loose (.inl hst)).1
  case armed =>
    intro b hb
    have hst : (s.bay b).state = .armed := hb
    have hlt : b < bayCount := hsound.bays ▸ s.lt_bays (by rintro h; simp [h, Bay.vacant] at hst)
    obtain ⟨-, hload, -⟩ := hs.jobs.1 b hlt
    obtain ⟨-, -, c, hc, k, hk, hkb, hblank, -⟩ := hload (by simp [hst]) (by simp [hst])
    exact ⟨c, k, hc, hk, hblank hst, hkb⟩
  case sizes =>
    intro t m hm
    obtain ⟨v, hv, hvm⟩ := Option.bind_eq_some_iff.1 hm
    exact (hs.copies.1 (t, v) (Table.mem_of_look _ hv) m hvm).1

/-! #### The sixth law, from the laws of the ledger -/

namespace State

/-- A cartridge that an order has, with the order. -/
theorem order_of_bound (hs : s.ledger.Custody) (hsound : s.Sound) (hk : s.cart c = some k) {n : Nat}
    (hn : k.bound = .order n) : ∃ o, s.order n = some o ∧ o.serial = some c ∧ o.bay = k.bay ∧
      ((k.state = .inBay ∧ k.bay ≠ none ∧ (o.state = .writing ∨ o.state = .verifying ∨ o.state = .ready)) ∨
        (k.state = .written ∧ k.bay = none ∧ o.state = .ready) ∨
        (k.state = .packed ∧ k.bay = none ∧ o.state = .packed)) := by
  obtain ⟨o, ho, hc⟩ := Option.bind_eq_some_iff.1 (hs.bound_order hk hn)
  have ho' := State.scene_order ho
  refine ⟨o, ho, hc, ?_⟩
  cases hb : o.bay with
  | some b =>
    obtain ⟨st, job, hwork, -, -, hcart⟩ := hsound.core.inBay ho' hb hc
    have hkc := Option.some.inj ((State.scene_cart hk).symm.trans hcart)
    have hkb : k.bay = some b := congrArg CartCore.bay hkc
    refine ⟨hkb.symm, .inl ⟨congrArg CartCore.state hkc, by simp [hkb], ?_⟩⟩
    rcases Scene.work_cases hwork with ⟨-, h, -⟩ | ⟨-, h, -⟩ | ⟨-, h, -⟩
    · exact .inl h
    · exact .inr (.inl h)
    · exact .inr (.inr h)
  | none =>
    obtain ⟨st, hsh, hcart⟩ := hsound.core.shelved ho' hb hc
    have hkc := Option.some.inj ((State.scene_cart hk).symm.trans hcart)
    have hkb : k.bay = none := congrArg CartCore.bay hkc
    have hkst : k.state = st := congrArg CartCore.state hkc
    refine ⟨hkb.symm, .inr ?_⟩
    rcases Scene.shelved_cases hsh with ⟨h, rfl⟩ | ⟨h, rfl⟩
    · exact .inl ⟨hkst, hkb, h⟩
    · exact .inr ⟨hkst, hkb, h⟩

/-- A cartridge that a loan has, with the loan. -/
theorem loan_of_bound (hs : s.ledger.Custody) (hsound : s.Sound) (hk : s.cart c = some k) {l : Nat}
    (hl : k.bound = .loan l) :
    ∃ v, s.loan l = some v ∧ v.item = .cartridge c ∧ k.state = .onLoan ∧ k.bay = none := by
  obtain ⟨v, hv, hc⟩ := Option.bind_eq_some_iff.1 (((hs.kept c).held k hk).loan l hl)
  have hitem : v.item = .cartridge c := by
    cases h : v.item <;> simp_all [Item.serial]
  have hst : k.state = .onLoan := by
    cases hsound.core.lent l v.core (by simp [State.scene, hv]) with
    | cartridge h1 h2 =>
      cases h1.symm.trans hitem
      exact congrArg CartCore.state (Option.some.inj ((State.scene_cart hk).symm.trans h2))
    | copy h1 => cases h1.symm.trans hitem
  exact ⟨v, hv, hitem, hst, bay_of_onLoan hs hsound hk hst⟩

/-- Table 3-2: a cartridge, by what it is bound to. -/
theorem cartridgeStands_of_custody (hs : s.ledger.Custody) (hsound : s.Sound) (hk : s.cart c = some k) :
    s.CartridgeStands c k := by
  obtain ⟨-, -, hunbound, hbay, hclean, hdirty⟩ := (hs.kept c).held k hk
  obtain ⟨hpool, hbacklog⟩ := hs.standing hk
  have hpooled (h : k.state = .blank) (hb : k.bay = none) : c ∈ s.carts.pool :=
    List.count_pos_iff.1 (by rw [show s.carts.pool.count c = _ from hpool]; simp [Cartridge.standing, h, hb])
  have hlogged (h : k.state = .needsBlank) (hb : k.bay = none) : c ∈ s.carts.backlog :=
    List.count_pos_iff.1 (by rw [show s.carts.backlog.count c = _ from hbacklog]; simp [Cartridge.standing, h, hb])
  have hbays (b : Nat) (hb : b ∈ k.bay) : b < bayCount ∧ (s.bay b).cartridge = some c :=
    ⟨hsound.bays ▸ lt_bays_of_berth (hbay b hb), hbay b hb⟩
  cases hx : k.bound with
  | unbound =>
    refine ⟨fun h => ⟨hx, hclean h, hpooled h⟩, fun h => ⟨hx, hlogged h⟩, ?_, ?_, ?_, ?_,
      fun _ => hx, hdirty, hbays⟩ <;>
      exact fun h => absurd (hunbound hx) (by simp [h, CartridgeState.spare])
  | order n =>
    obtain ⟨o, ho, hc, hob, hcase⟩ := order_of_bound hs hsound hk hx
    have horder := Binding.boundOrder_iff.2 hx
    rcases hcase with ⟨hst, hb, host⟩ | ⟨hst, hb, host⟩ | ⟨hst, hb, host⟩
    · refine ⟨?_, ?_, fun _ => ⟨hb, n, horder, o, ho, hc, hob, host⟩, ?_, ?_, ?_, ?_, hdirty, hbays⟩ <;>
        exact fun h => nomatch hst.symm.trans h
    · refine ⟨?_, ?_, ?_, fun _ => ⟨hb, n, horder, o, ho, hc, hob.trans hb, host⟩, ?_, ?_, ?_, hdirty, hbays⟩ <;>
        exact fun h => nomatch hst.symm.trans h
    · refine ⟨?_, ?_, ?_, ?_, fun _ => ⟨hb, n, horder, o, ho, hc, host⟩, ?_, ?_, hdirty, hbays⟩ <;>
        exact fun h => nomatch hst.symm.trans h
  | loan l =>
    obtain ⟨v, hv, hitem, hst, hb⟩ := loan_of_bound hs hsound hk hx
    have hloan := Binding.boundLoan_iff.2 hx
    refine ⟨?_, ?_, ?_, ?_, ?_, fun _ => ⟨hb, l, hloan, v, hv, hitem⟩, ?_, hdirty, hbays⟩ <;>
      exact fun h => nomatch hst.symm.trans h

theorem cartridgeLaw_of_custody (hs : s.ledger.Custody) (hsound : s.Sound) (htables : s.TableLaw) : s.CartridgeLaw := by
  obtain ⟨-, -, -, hcarts, -⟩ := htables
  have hstanding (st : CartridgeState) (v : Option Cartridge) : Cartridge.standing st v ≤ 1 := by
    cases v with
    | none => exact Nat.zero_le 1
    | some k => simp only [Cartridge.standing]; split <;> simp
  have hmem {l : List Nat} {st : CartridgeState} (h : ∀ c, l.count c = Cartridge.standing st (s.cart c)) (n : Nat)
      (hn : n ∈ l) : ∃ k ∈ s.cart n, k.state = st ∧ k.bay = none := by
    have hpos := List.count_pos_iff.2 hn
    rw [h n] at hpos
    cases hk : s.cart n with
    | none => simp [hk, Cartridge.standing] at hpos
    | some k =>
      refine ⟨k, rfl, ?_⟩
      by_contra hnot
      simp [hk, Cartridge.standing, hnot] at hpos
  have hpool := fun c => (hs.kept c).pool
  have hbacklog := fun c => (hs.kept c).backlog
  refine ⟨?_, ?_, hmem hpool, hmem hbacklog, fun e he => ?_⟩
  · exact List.nodup_iff_count_le_one.2 fun c => (hpool c).trans_le (hstanding _ _)
  · exact List.nodup_iff_count_le_one.2 fun c => (hbacklog c).trans_le (hstanding _ _)
  · exact cartridgeStands_of_custody hs hsound (Table.look_of_mem _ hcarts he)

end State

/-- Settles O13: the laws of the ledger hold of a consistent state, every command keeps them, and with the laws of the
scene they give the sixth law. -/
theorem stepsKeepTheCartridgeLaw : Obligations.StepsKeepTheCartridgeLaw := by
  intro s t hs h
  have hcustody := State.Accounted.step ⟨hs.ordered, hs.custody⟩ h
  exact State.cartridgeLaw_of_custody hcustody (hs.ordered.step h) (tableLaw_shapeLaw.step hs.tables h)

end Sys2Proof.Machine

/-! ### CARTRIDGE_ADD and CARTRIDGE_DROP (R49, R50) -/

namespace Sys2Proof.Machine

variable (s : State) {serial : Nat} {k : Cartridge}

/-! #### The outcomes of CARTRIDGE_ADD (R49) -/

theorem cartridgeAdd_zero : cartridgeAdd 0 s = refuse s .range 1 := rfl

theorem cartridgeAdd_checked (hserial : serial ≠ 0) : cartridgeAdd serial s =
    if s.carts.table.has serial then refuse s .duplicate 1
    else if maxCartridges ≤ s.carts.table.length then refuse s .full 0
    else answer (State.joinPool { s with carts := { s.carts with table := s.carts.table.put serial .created } } serial)
      .accepted [u2 (s.carts.pool.length + 1)] := by
  have hcheck : firstBad [decide (serial = 0)] = none := by simpa [firstBad_eq_none] using hserial
  rw [cartridgeAdd, hcheck]

theorem cartridgeAdd_duplicate (hserial : serial ≠ 0) (hhas : s.carts.table.has serial = true) :
    cartridgeAdd serial s = refuse s .duplicate 1 := by
  rw [cartridgeAdd_checked s hserial, if_pos hhas]

theorem cartridgeAdd_full (hserial : serial ≠ 0) (hhas : s.carts.table.has serial = false)
    (hlen : maxCartridges ≤ s.carts.table.length) : cartridgeAdd serial s = refuse s .full 0 := by
  rw [cartridgeAdd_checked s hserial, if_neg (Bool.eq_false_iff.1 hhas), if_pos hlen]

theorem cartridgeAdd_accepted (hserial : serial ≠ 0) (hhas : s.carts.table.has serial = false)
    (hlen : s.carts.table.length < maxCartridges) : cartridgeAdd serial s =
      answer (State.joinPool { s with carts := { s.carts with table := s.carts.table.put serial .created } } serial)
        .accepted [u2 (s.carts.pool.length + 1)] := by
  rw [cartridgeAdd_checked s hserial, if_neg (Bool.eq_false_iff.1 hhas), if_neg (Nat.not_le.2 hlen)]

/-! #### The outcomes of CARTRIDGE_DROP (R50) -/

theorem State.droppable_iff : s.droppable serial k = true ↔
    (k.state = .retired ∧ k.bay = none) ∨ (k.state = .blank ∧ k.bay = none ∧ serial ∈ s.carts.pool) := by
  simp [State.droppable, and_assoc]

theorem cartridgeDrop_zero : cartridgeDrop 0 s = refuse s .range 1 := rfl

theorem cartridgeDrop_unknown (hserial : serial ≠ 0) (hk : s.cart serial = none) :
    cartridgeDrop serial s = refuse s .notFound 1 := by
  simp [cartridgeDrop, firstBad, hserial, hk]

theorem cartridgeDrop_known (hserial : serial ≠ 0) (hk : s.cart serial = some k) : cartridgeDrop serial s =
    if s.droppable serial k = false then refuse s .wrongState 0
    else answer { s with carts := { s.carts with
        table := s.carts.table.drop serial, pool := s.carts.pool.filter (· != serial) } } .accepted
      [u2 (s.carts.table.drop serial).length] := by
  have hcheck : firstBad [decide (serial = 0)] = none := by simpa [firstBad_eq_none] using hserial
  simp only [cartridgeDrop, hcheck, hk]

theorem cartridgeDrop_accepted (hserial : serial ≠ 0) (hk : s.cart serial = some k)
    (hdrop : (k.state = .retired ∧ k.bay = none) ∨ (k.state = .blank ∧ k.bay = none ∧ serial ∈ s.carts.pool)) :
    cartridgeDrop serial s = answer { s with carts := { s.carts with
      table := s.carts.table.drop serial, pool := s.carts.pool.filter (· != serial) } } .accepted
        [u2 (s.carts.table.drop serial).length] := by
  rw [cartridgeDrop_known s hserial hk, (State.droppable_iff s).2 hdrop]
  rfl

theorem cartridgeDrop_wrongState (hserial : serial ≠ 0) (hk : s.cart serial = some k)
    (hkeep : ¬ ((k.state = .retired ∧ k.bay = none) ∨
      (k.state = .blank ∧ k.bay = none ∧ serial ∈ s.carts.pool))) :
    cartridgeDrop serial s = refuse s .wrongState 0 := by
  rw [cartridgeDrop_known s hserial hk, if_pos (Bool.eq_false_iff.2 (mt (State.droppable_iff s).1 hkeep))]

/-- Settles O39, outcome by outcome. -/
theorem cartridgesAreAddedAndDropped : Obligations.CartridgesAreAddedAndDropped := by
  intro s h serial
  refine ⟨fun ht => ⟨fun hzero => ?_, fun hserial hhas => ⟨1, ?_⟩, fun hserial hhas hlen => ?_,
      fun hserial hhas hlen => ?_⟩,
    fun ht => ⟨fun hzero => ?_, fun hserial hk => ?_, fun k hserial hk hdrop => ?_, fun k hserial hk hdrop => ?_⟩⟩
  · exact congrArg _ (request_refuse ht (hzero ▸ cartridgeAdd_zero _))
  · exact congrArg _ (request_refuse ht (cartridgeAdd_duplicate (s.clocked h) hserial hhas))
  · exact congrArg _ (request_refuse ht (cartridgeAdd_full (s.clocked h) hserial hhas hlen))
  · exact congrArg _ (request_answer ht (cartridgeAdd_accepted (s.clocked h) hserial hhas hlen))
  · exact congrArg _ (request_refuse ht (hzero ▸ cartridgeDrop_zero _))
  · exact congrArg _ (request_refuse ht (cartridgeDrop_unknown (s.clocked h) hserial hk))
  · exact congrArg _ (request_answer ht (cartridgeDrop_accepted (s.clocked h) hserial hk hdrop))
  · exact congrArg _ (request_refuse ht (cartridgeDrop_wrongState (s.clocked h) hserial hk hdrop))

end Sys2Proof.Machine

/-! ### NEXT_INSERT (R53, R54) -/

namespace Sys2Proof.Machine

variable (s : State)

/-- R54: the four counts of the response. -/
def State.insertCounts (s : State) : List Field :=
  [u2 s.carts.pool.length, u2 s.carts.backlog.length, u2 s.book.queue.length, u1 s.armedBays.length]

/-- R53: the case of Table 3-4 that applies first. -/
def State.insertCase (s : State) : Nat :=
  Machine.insertCase s.loans.poolReserve s.carts.pool.length s.carts.backlog.length s.book.queue.length s.armedBays.length

/-- R53: whether the pool is to be filled first. -/
def State.poolLow (s : State) : Prop :=
  s.carts.pool.length < s.loans.poolReserve ∨ s.book.queue.length ≤ s.armedBays.length

/-! #### Table 3-4 -/

theorem State.insertCase_low (hb : s.carts.backlog ≠ []) (hlow : s.poolLow) : s.insertCase = 1 :=
  if_pos ⟨List.length_pos_iff.2 hb, hlow⟩

theorem State.insertCase_pool (hlow : s.carts.backlog = [] ∨ ¬ s.poolLow) (hp : s.carts.pool ≠ [])
    (hq : s.armedBays.length < s.book.queue.length) : s.insertCase = 2 := by
  have hnot : ¬ (0 < s.carts.backlog.length ∧ s.poolLow) := by
    rintro ⟨hb, h⟩
    exact hlow.elim (List.length_pos_iff.1 hb) (fun hn => hn h)
  exact (if_neg hnot).trans (if_pos ⟨hq, List.length_pos_iff.2 hp⟩)

theorem State.insertCase_backlog (hb : s.carts.backlog ≠ []) (hlow : ¬ s.poolLow) (hp : s.carts.pool = []) :
    s.insertCase = 3 := by
  have hnone : ¬ 0 < s.carts.pool.length := by simp [hp]
  exact (if_neg fun h => hlow h.2).trans ((if_neg fun h => hnone h.2).trans (if_pos (List.length_pos_iff.2 hb)))

theorem State.insertCase_none (hb : s.carts.backlog = [])
    (h : s.book.queue.length ≤ s.armedBays.length ∨ s.carts.pool = []) : s.insertCase = 4 := by
  have hnone : ¬ 0 < s.carts.backlog.length := by simp [hb]
  have hnot : ¬ (s.armedBays.length < s.book.queue.length ∧ 0 < s.carts.pool.length) := by
    rintro ⟨hq, hp⟩
    exact h.elim (Nat.not_le.2 hq) (List.length_pos_iff.1 hp)
  exact (if_neg fun h => hnone h.1).trans ((if_neg hnot).trans (if_neg hnone))

/-! #### The response (R53, R54) -/

/-- The named cartridge is reported with its write count and dirty extent. -/
theorem nextInsert_named {m c : Nat} {k : Cartridge} (hm : s.insertCase = m) (hfour : m ≠ 4) (hc : s.namedSerial m = c)
    (hk : s.cart c = some k) : nextInsert s = answer s .accepted
      ([u1 m, u4 c, u1 (if m = 1 ∨ m = 3 then 1 else 0), u2 k.writes, u3 k.dirty] ++ s.insertCounts) := by
  subst hm hc
  simp only [nextInsert]
  rw [show Machine.insertCase _ _ _ _ _ = s.insertCase from rfl, hk, if_neg hfour]
  rfl

theorem nextInsert_none (hm : s.insertCase = 4) (hk : s.cart 0 = none) : nextInsert s = answer s .none
    ([u1 4, u4 0, u1 0, u2 0, u3 0] ++ s.insertCounts) := by
  simp only [nextInsert]
  rw [show Machine.insertCase _ _ _ _ _ = s.insertCase from rfl, hm, show s.namedSerial 4 = 0 from rfl, hk]
  rfl

/-- Settles O44, by the case of Table 3-4 that applies first. -/
theorem nextInsertNamesACartridge : Obligations.NextInsertNamesACartridge := by
  rintro s h ht _ low _ rfl hlow rfl
  have hlow : low ↔ (s.clocked h).poolLow := hlow
  refine ⟨fun c rest k hb hk hl => ?_, fun c rest k hp hk hl hq => ?_, fun c rest k hb hk hl hp => ?_,
    fun hb hq hk => ?_⟩
  · have hcase := State.insertCase_low (s.clocked h) (by simp [hb]) (hlow.1 hl)
    refine congrArg _ (request_answer ht (nextInsert_named (s.clocked h) hcase (by decide) ?_ hk))
    simp [State.namedSerial, hb, orZero]
  · have hcase := State.insertCase_pool (s.clocked h) (hl.imp_right (mt hlow.2)) (by simp [hp]) hq
    refine congrArg _ (request_answer ht (nextInsert_named (s.clocked h) hcase (by decide) ?_ hk))
    simp [State.namedSerial, hp, orZero]
  · have hcase := State.insertCase_backlog (s.clocked h) (by simp [hb]) (mt hlow.2 hl) hp
    refine congrArg _ (request_answer ht (nextInsert_named (s.clocked h) hcase (by decide) ?_ hk))
    simp [State.namedSerial, hb, orZero]
  · have hcase := State.insertCase_none (s.clocked h) hb hq
    exact congrArg _ (request_answer ht (nextInsert_none (s.clocked h) hcase hk))

end Sys2Proof.Machine

/-! ### BAY_INSERT (R61 to R65) -/

namespace Sys2Proof.Machine

variable (s : State) {b serial : Nat} {k : Cartridge}

/-! #### The arbiter where one bay is ARMED (R64) -/

theorem State.arbiterLoop_of_no_bay (h : s.armedBays = []) (fuel : Nat) : State.arbiterLoop fuel s = s := by
  cases fuel with
  | zero => rfl
  | succ fuel =>
    simp only [State.arbiterLoop, h]
    split
    · simp at *
    · rfl

/-- R64: the one ARMED bay takes the order at the head of the queue, and nothing more is assigned. -/
theorem State.arbiterLoop_of_one_bay {n : Nat} {q rest : List Nat} (hq : s.book.queue = n :: q)
    (hb : s.armedBays = b :: rest) (hdone : (s.assign n b).armedBays = []) (fuel : Nat) :
    State.arbiterLoop (fuel + 1) s = s.assign n b := by
  simp only [State.arbiterLoop, hq, hb]
  exact State.arbiterLoop_of_no_bay _ hdone fuel

theorem State.arbiter_of_one_bay {n : Nat} {q rest : List Nat} (hq : s.book.queue = n :: q)
    (hb : s.armedBays = b :: rest) (hdone : (s.assign n b).armedBays = []) : s.arbiter = s.assign n b :=
  s.arbiterLoop_of_one_bay hq hb hdone 31

/-! #### The outcomes of BAY_INSERT (R61 to R63) -/

/-- R62: a BLANK cartridge in an ARMED bay, before the arbiter runs. -/
def State.loaded (s : State) (b serial : Nat) : State :=
  ((s.leaveQueues serial).onCart serial (fun c => { c with bay := some b })).setBay b
    { Bay.vacant with state := .armed, cartridge := some serial }

/-- R61: a cartridge that can be placed. -/
theorem Cartridge.fits (hbay : k.bay = none) (hst : k.state = .blank ∨ k.state = .needsBlank) :
    ¬ ((k.state ≠ .blank ∧ k.state ≠ .needsBlank) ∨ k.bay.isSome = true) := by
  rcases hst with h | h <;> simp [h, hbay]

section Insert
variable (hb : b < 32) (hserial : serial ≠ 0)
include hb hserial

theorem bayInsert_checks : firstBad [decide (31 < b), decide (serial = 0)] = none := by
  simpa [firstBad_eq_none, hserial] using Nat.le_of_lt_succ hb

theorem bayInsert_notEmpty (he : (s.bay b).state ≠ .empty) : bayInsert b serial s = refuse s .wrongState 0 := by
  rw [bayInsert, bayInsert_checks hb hserial]
  exact if_pos he

variable (he : (s.bay b).state = .empty)
include he

theorem bayInsert_unknown (hk : s.cart serial = none) : bayInsert b serial s = refuse s .notFound 2 := by
  simp [bayInsert, bayInsert_checks hb hserial, he, hk]

variable (hk : s.cart serial = some k)
include hk

theorem bayInsert_known : bayInsert b serial s =
    if (k.state ≠ .blank ∧ k.state ≠ .needsBlank) ∨ k.bay.isSome = true then refuse s .wrongState 0
    else if s.loans.wearLimit ≤ k.writes then answer (s.retire serial) .worn [u2 k.writes, u2 s.loans.wearLimit]
    else if k.state = .blank then
      answer ((s.insertBlank b serial).settle s.book.orders) .accepted
        (((s.insertBlank b serial).settle s.book.orders).armedBody b serial)
    else answer (s.insertDirty b serial k.dirty) .accepted
      [u1 BayState.blanking.code, u3 (units32 k.dirty), u2 k.writes] := by
  simp only [bayInsert, bayInsert_checks hb hserial, he, hk, ne_eq, not_true_eq_false, if_false]

theorem bayInsert_unfit (hunfit : (k.state ≠ .blank ∧ k.state ≠ .needsBlank) ∨ k.bay ≠ none) :
    bayInsert b serial s = refuse s .wrongState 0 := by
  rw [bayInsert_known s hb hserial he hk]
  exact if_pos (hunfit.imp_right Option.isSome_iff_ne_none.2)

variable (hbay : k.bay = none)
include hbay

theorem bayInsert_worn (hst : k.state = .blank ∨ k.state = .needsBlank) (hworn : s.loans.wearLimit ≤ k.writes) :
    bayInsert b serial s = answer (s.retire serial) .worn [u2 k.writes, u2 s.loans.wearLimit] := by
  rw [bayInsert_known s hb hserial he hk, if_neg (Cartridge.fits hbay hst), if_pos hworn]

variable (hworn : k.writes < s.loans.wearLimit)
include hworn

theorem bayInsert_blank (hst : k.state = .blank) : bayInsert b serial s =
    answer ((s.insertBlank b serial).settle s.book.orders) .accepted
      (((s.insertBlank b serial).settle s.book.orders).armedBody b serial) := by
  rw [bayInsert_known s hb hserial he hk, if_neg (Cartridge.fits hbay (.inl hst)),
    if_neg (Nat.not_le.2 hworn), if_pos hst]

theorem bayInsert_dirty (hst : k.state = .needsBlank) : bayInsert b serial s =
    answer (s.insertDirty b serial k.dirty) .accepted [u1 1, u3 (units32 k.dirty), u2 k.writes] := by
  rw [bayInsert_known s hb hserial he hk, if_neg (Cartridge.fits hbay (.inr hst)),
    if_neg (Nat.not_le.2 hworn), if_neg (by simp [hst])]
  rfl

end Insert

/-! #### A BLANK cartridge placed (R62, R64, R65) -/

section Loaded
variable (hlen : b < s.bays.length) (hk : s.cart serial = some k)

include hlen in
theorem State.loaded_bay : (s.loaded b serial).bay b = ⟨.armed, some serial, none, none, none⟩ :=
  State.bay_setBay_same _ hlen _

theorem State.loaded_bay_other {a : Nat} (ha : a ≠ b) : (s.loaded b serial).bay a = s.bay a :=
  State.bay_setBay_other _ ha _

include hk in
theorem State.loaded_cart : (s.loaded b serial).cart serial = some { k with bay := some b } :=
  (State.cart_onCart_same (s.leaveQueues serial) serial _).trans (congrArg _ hk)

theorem State.loaded_cart_other {a : Nat} (ha : a ≠ serial) : (s.loaded b serial).cart a = s.cart a :=
  State.cart_onCart_other (s.leaveQueues serial) ha _

include hlen hk in
/-- R62: with no order waiting the bay is ARMED. -/
theorem State.insertBlank_armed (hq : s.book.queue = []) (hw : s.book.orders.wf = true) :
    (s.insertBlank b serial).settle s.book.orders = s.loaded b serial ∧
      (s.loaded b serial).armedBody b serial = [u1 2, u2 k.writes] := by
  refine ⟨?_, ?_⟩
  · rw [show s.insertBlank b serial = (s.loaded b serial).arbiter from rfl, (s.loaded b serial).arbiter_of_no_order hq]
    exact State.settle_same _ rfl hw
  · simp only [State.armedBody, State.writesOf, s.loaded_bay hlen, s.loaded_cart hk]
    rfl

include hlen hk in
/-- R64, R65: the order at the head of the queue is assigned to the bay. -/
theorem State.insertBlank_writes {n size : Nat} {rest : List Nat} {o : Order} {sel : Selector} (hb : b < 32)
    (hq : s.book.queue = n :: rest) (hn : n ∉ rest) (ho : s.order n = some o)
    (ht : s.title o.title = some (.cartridge size sel)) (hnone : ∀ a < 32, (s.bay a).state ≠ .armed) :
    ∃ t, (s.insertBlank b serial).settle s.book.orders = t ∧ t.armedBody b serial =
        [u1 3, u2 (min 4095 (k.writes + 1)), u2 n, u3 size] ∧
      t.book.queue = rest ∧ t.bay b = ⟨.writing, some serial, some ⟨.write n sel, size, size⟩, none, none⟩ ∧
      (∀ a, a ≠ b → t.bay a = s.bay a) ∧
      t.cart serial = some (({ k with bay := some b } : Cartridge).takes n size) ∧
      (∀ a, a ≠ serial → t.cart a = s.cart a) ∧
      (∃ q tag, t.order n = some { o.seat b serial with ready := some q, tag := tag }) ∧
      (∀ m, m ≠ n → t.order m = s.order m) ∧ t.titles = s.titles ∧ t.rack = s.rack ∧ t.clock = s.clock ∧
      t.loans = s.loans ∧ t.lane = s.lane ∧ t.pending = s.pending := by
  have hbay := s.loaded_bay (serial := serial) hlen
  have hc : ((s.loaded b serial).bay b).cartridge = some serial := congrArg Bay.cartridge hbay
  have hqueue := State.assign_queue (s.loaded b serial) ho hc ht
  have hbays := State.assign_bays (s.loaded b serial) ho hc ht
  have hcarts := State.assign_carts (s.loaded b serial) ho hc ht
  have hsame := State.assign_order_same (s.loaded b serial) ho hc ht
  have hother := fun m => State.assign_order_other (m := m) (s.loaded b serial) ho hc ht
  obtain ⟨hpend, -, -, htitles, hrack, hclock, -, hloans, hlane⟩ := (s.loaded b serial).assign_frame n b
  have hlen' : b < (s.loaded b serial).bays.length := by
    rw [State.loaded, State.setBay_bays, List.length_set]
    exact hlen
  generalize hu : (s.loaded b serial).assign n b = u at *
  have hub : u.bay b = ((s.loaded b serial).bay b).writes n size sel :=
    (State.bay_congr _ hbays b).trans (State.bay_setBay_same _ hlen' _)
  have huother (a : Nat) (ha : a ≠ b) : u.bay a = s.bay a :=
    (State.bay_congr _ hbays a).trans ((State.bay_setBay_other _ ha _).trans (s.loaded_bay_other ha))
  have huc : u.cart serial = some (({ k with bay := some b } : Cartridge).takes n size) :=
    (State.cart_congr _ hcarts serial).trans ((State.cart_onCart_same _ serial _).trans (congrArg _ (s.loaded_cart hk)))
  have hdone : u.armedBays = [] := by
    refine State.armedBays_eq_nil _ fun a ha => ?_
    by_cases hab : a = b
    · rw [hab, hub]
      simp [Bay.writes]
    · rw [huother a hab]
      exact hnone a ha
  have hinsert : s.insertBlank b serial = u := by
    obtain ⟨more, hmore⟩ := State.armedBays_of_lowest (s.loaded b serial) hb (congrArg Bay.state hbay)
      (fun a ha => by rw [s.loaded_bay_other (Nat.ne_of_lt ha)]; exact hnone a (ha.trans hb))
    exact ((s.loaded b serial).arbiter_of_one_bay hq hmore (hu ▸ hdone)).trans hu
  obtain ⟨hpend', -, hbook', htitles', hcarts', hbays', hrack', hclock', hloans', hlane'⟩ := u.settle_frame s.book.orders
  rw [hinsert]
  have hbay' (a : Nat) : (u.settle s.book.orders).bay a = u.bay a := State.bay_congr _ hbays' a
  have hcart' (a : Nat) : (u.settle s.book.orders).cart a = u.cart a := State.cart_congr _ hcarts' a
  have horder' (m : Nat) : (u.settle s.book.orders).order m = u.order m := congrArg (fun b => b.orders.look m) hbook'
  refine ⟨_, rfl, ?_, ?_, (hbay' b).trans (hub.trans (congrArg (fun r => r.writes n size sel) hbay)),
    fun a ha => (hbay' a).trans (huother a ha),
    (hcart' serial).trans huc, fun a ha => ?_, ?_, fun m hm => (horder' m).trans (hother m hm), htitles'.trans htitles,
    hrack'.trans hrack, hclock'.trans hclock, hloans'.trans hloans, hlane'.trans hlane, hpend'.trans hpend⟩
  · simp only [State.armedBody, State.writesOf, hbay', hcart', hub, huc]
    rfl
  · rw [hbook', hqueue]
    have hkeep : rest.filter (· != n) = rest := List.filter_eq_self.2 fun m hm => by
      simpa using (fun h : m = n => hn (h ▸ hm))
    rw [show (s.loaded b serial).book.queue = n :: rest from hq, List.filter_cons_of_neg (by simp), hkeep]
  · exact (hcart' a).trans ((State.cart_congr _ hcarts a).trans ((State.cart_onCart_other _ ha _).trans
      (s.loaded_cart_other ha)))
  · obtain ⟨q, tag, hrec⟩ := hsame
    exact ⟨q, tag, (horder' n).trans hrec⟩

end Loaded

/-! #### A NEEDS_BLANK cartridge placed (R63) -/

theorem State.insertDirty_eq (hlen : b < s.bays.length) (dirty : Nat) : s.insertDirty b serial dirty =
    State.raise { s with
      carts :=
        { table := s.carts.table.alter serial (fun c => { c with bay := some b })
          pool := s.carts.pool.filter (· != serial), backlog := s.carts.backlog.filter (· != serial) }
      bays := s.bays.set b ⟨.blanking, some serial, some ⟨.blank, units32 dirty, units32 dirty⟩, none, none⟩ }
      .rack .bayJob b [u1 2, u3 (units32 dirty), u4 serial] := by
  have hbay := State.bay_setBay_same ((s.leaveQueues serial).onCart serial (fun c => { c with bay := some b }))
    (show b < _ from hlen) { Bay.vacant with cartridge := some serial }
  rw [State.insertDirty, State.startJob, hbay]
  simp only [State.setBay, List.set_set]
  rfl

/-- Settles O45, outcome by outcome: a BLANK cartridge waits in an ARMED bay or goes to the order at the head of the
queue, and a NEEDS_BLANK one is blanked. -/
theorem insertedCartridgesArmBlankOrWrite : Obligations.InsertedCartridgesArmBlankOrWrite := by
  intro s h b serial ht hb hserial hlen hw
  have hlt : b < (s.clocked h).bays.length := hlen ▸ hb
  refine ⟨fun he => ?_, fun he hk => ?_, fun k he hk => ⟨fun hunfit => ?_, fun hst hbay hworn => ?_,
    fun hst hbay hworn hq => ?_, fun n rest o size sel hst hbay hworn hq hn ho htitle hnone => ?_,
    fun hst hbay hworn extent hext => ?_⟩⟩
  · exact congrArg _ (request_refuse ht (bayInsert_notEmpty (s.clocked h) hb hserial he))
  · exact congrArg _ (request_refuse ht (bayInsert_unknown (s.clocked h) hb hserial he hk))
  · exact congrArg _ (request_refuse ht (bayInsert_unfit (s.clocked h) hb hserial he hk hunfit))
  · exact congrArg _ (request_answer ht (bayInsert_worn (s.clocked h) hb hserial he hk hbay hst hworn))
  · have hacc := bayInsert_blank (s.clocked h) hb hserial he hk hbay hworn hst
    obtain ⟨hsettle, hbody⟩ := State.insertBlank_armed (s.clocked h) hlt hk hq hw
    rw [hsettle, hbody] at hacc
    exact congrArg _ (request_answer ht hacc)
  · have hacc := bayInsert_blank (s.clocked h) hb hserial he hk hbay hworn hst
    obtain ⟨t, hsettle, hbody, hwritten⟩ := State.insertBlank_writes (s.clocked h) hlt hk hb hq hn ho htitle hnone
    rw [hsettle, hbody] at hacc
    exact ⟨t, congrArg _ (request_answer ht hacc), hwritten⟩
  · have hacc := bayInsert_dirty (s.clocked h) hb hserial he hk hbay hworn hst
    rw [State.insertDirty_eq (s.clocked h) hlt, show units32 k.dirty = extent from hext.symm] at hacc
    exact congrArg _ (request_answer ht hacc)

end Sys2Proof.Machine

/-! ### VERIFY_DONE (R69 to R71) -/

namespace Sys2Proof.Machine

variable (s : State) {b c n : Nat} {k : Cartridge} {o : Order}

theorem State.order_onOrder_same (n : Nat) (f : Order → Order) : (s.onOrder n f).order n = (s.order n).map f :=
  Table.look_alter_same ..

theorem State.order_onOrder_other (f : Order → Order) {m : Nat} (hm : m ≠ n) : (s.onOrder n f).order m = s.order m :=
  Table.look_alter_other _ _ hm

theorem State.order_congr {s t : State} (h : t.book = s.book) (m : Nat) : t.order m = s.order m :=
  congrArg (fun b => b.orders.look m) h

theorem State.circulation_settle (start : Table Order) : (s.settle start).unit .circulation = s.unit .circulation :=
  congrArg Prod.fst (s.offMail_settle start)

theorem State.circulation_reexamineOf (n : Nat) : (s.reexamineOf n).unit .circulation = s.unit .circulation := by
  unfold State.reexamineOf
  split
  · exact congrArg Prod.fst (s.offMail_reexamine _)
  · rfl

/-! #### The outcomes of VERIFY_DONE -/

section Done
variable {result : Nat} (hb : b < 32) (hresult : result ≤ 1)
include hb hresult

theorem verifyDone_checks : firstBad [decide (31 < b), decide (1 < result)] = none := by
  simpa [firstBad_eq_none] using ⟨Nat.le_of_lt_succ hb, hresult⟩

theorem verifyDone_wrongState (hst : (s.bay b).state ≠ .verifying) : verifyDone b result s = refuse s .wrongState 0 := by
  rw [verifyDone, verifyDone_checks hb hresult]
  exact if_pos hst

end Done

section Taken
variable (hb : b < 32) (hst : (s.bay b).state = .verifying) (hn : (s.bay b).jobOrder = some n)
  (hc : (s.bay b).cartridge = some c)
include hb hst hn hc

theorem verifyDone_pass : verifyDone b 0 s =
    answer ((s.verifyPass b n).settle s.book.orders) .accepted [u2 n, u1 BayState.done.code] := by
  rw [verifyDone, verifyDone_checks hb (Nat.zero_le 1)]
  simp [hst, hn, hc]

/-- R70, R71: the response carries what the event has left of bay, cartridge and order. -/
theorem verifyDone_fail {t : State} {v : Cartridge} (ht : ((s.failCartridge b c).failOrder n c).settle s.book.orders = t)
    (hv : t.cart c = some v) : verifyDone b 1 s =
      answer t .accepted [u1 (t.bay b).state.code, u1 v.failures, u1 (t.orderCode n)] := by
  subst ht
  rw [verifyDone, verifyDone_checks hb (Nat.le_refl 1)]
  simp [hst, hn, hc, hv]

end Taken

/-! #### The verification failed: the cartridge (R46, R70) -/

/-- R70: the bay of a failed cartridge. -/
def Bay.failed (r : Bay) (worn : Bool) (extent : Nat) : Bay :=
  if worn then { r with state := .eject, job := none } else r.blanks extent

/-- R46, R70: a cartridge after its first or its second failure. -/
def Cartridge.failed (k : Cartridge) (worn : Bool) : Cartridge :=
  { k with failures := if worn then 2 else 1, state := if worn then .retired else .needsBlank, bound := .unbound }

/-- R46, R70: what the cartridge side of a failed verification changes. -/
structure State.CartridgeFailed (s u : State) (b c : Nat) (k : Cartridge) (worn : Bool) : Prop where
  bays : u.bays = s.bays.set b ((s.bay b).failed worn (units32 k.dirty))
  cart : u.cart c = some (k.failed worn)
  others : ∀ a, a ≠ c → u.cart a = s.cart a
  rack : worn = true → u.rack = s.rack
  running : u.rack.state = s.rack.state
  circulation : u.unit .circulation = s.unit .circulation
  book : u.book = s.book
  titles : u.titles = s.titles
  clock : u.clock = s.clock
  loans : u.loans = s.loans
  lane : u.lane = s.lane
  pending : u.pending = s.pending

/-- R46: the failure counted. -/
def State.countFailure (s : State) (c : Nat) : State :=
  s.onCart c (fun k => { k with failures := k.failures + 1 })

theorem State.countFailure_other {a : Nat} (ha : a ≠ c) : (s.countFailure c).cart a = s.cart a :=
  State.cart_onCart_other s ha _

section Failed
variable (hlen : b < s.bays.length) (hc : (s.bay b).cartridge = some c) (hk : s.cart c = some k)
include hk

theorem State.countFailure_cart : (s.countFailure c).cart c = some { k with failures := k.failures + 1 } :=
  (State.cart_onCart_same ..).trans (congrArg _ hk)

theorem State.failCartridge_first (hfirst : k.failures = 0) : s.failCartridge b c = (s.countFailure c).blankInPlace b := by
  have hcount := s.countFailure_cart hk
  rw [hfirst] at hcount
  unfold State.failCartridge
  simp only [show s.onCart c (fun k => { k with failures := k.failures + 1 }) = s.countFailure c from rfl, hcount]

theorem State.failCartridge_second (hsecond : k.failures = 1) : s.failCartridge b c =
    ((s.countFailure c).setBay b { s.bay b with state := .eject, job := none }).retire c := by
  have hcount := s.countFailure_cart hk
  rw [hsecond] at hcount
  unfold State.failCartridge
  simp only [show s.onCart c (fun k => { k with failures := k.failures + 1 }) = s.countFailure c from rfl, hcount]
  rfl

include hlen hc

/-- R46, R70: the first failure of a cartridge blanks it in its bay. -/
theorem State.cartridgeFailed_first (hfirst : k.failures = 0) :
    s.CartridgeFailed (s.failCartridge b c) b c k false := by
  have hcount := s.countFailure_cart hk
  have hcarts := State.blankInPlace_carts (s.countFailure c) hc hcount
  obtain ⟨hpend, -, -, hbook, htitles, hclock, -, hloans, hlane⟩ := (s.countFailure c).blankInPlace_frame b
  rw [s.failCartridge_first hk hfirst]
  exact {
    bays := (State.blankInPlace_bays (s.countFailure c) hc hcount hlen).trans rfl
    cart := by
      rw [State.cart_congr _ hcarts, State.cart_onCart_same, hcount, hfirst]
      rfl
    others := fun a ha => (State.cart_congr _ hcarts a).trans
      ((State.cart_onCart_other _ ha _).trans (s.countFailure_other ha))
    rack := nofun
    running := (congrArg Scheduler.state (State.blankInPlace_rack (s.countFailure c) hc hcount)).trans
      (State.abortJob_rack_state _ b false).1
    circulation := (congrArg Ports.circulation (State.blankInPlace_ports (s.countFailure c) hc hcount hlen)).trans rfl
    book := hbook, titles := htitles, clock := hclock, loans := hloans, lane := hlane, pending := hpend }

omit hlen hc in
/-- R46, R70: the second failure of a cartridge retires it. -/
theorem State.cartridgeFailed_second (hsecond : k.failures = 1) :
    s.CartridgeFailed (s.failCartridge b c) b c k true := by
  have hcount := s.countFailure_cart hk
  rw [s.failCartridge_second hk hsecond]
  exact {
    bays := rfl
    cart := by
      refine (State.cart_onCart_same _ c _).trans ?_
      rw [show State.cart (State.leaveQueues ((s.countFailure c).setBay b _) c) c = _ from hcount, hsecond]
      rfl
    others := fun a ha => (State.cart_onCart_other _ ha _).trans (s.countFailure_other ha)
    rack := fun _ => rfl
    running := rfl, circulation := rfl, book := rfl, titles := rfl, clock := rfl, loans := rfl, lane := rfl, pending := rfl }

theorem State.failCartridge_spec {worn : Bool} (hworn : k.failures = if worn then 1 else 0) :
    s.CartridgeFailed (s.failCartridge b c) b c k worn := by
  cases worn with
  | false => exact s.cartridgeFailed_first hlen hc hk hworn
  | true => exact s.cartridgeFailed_second hk hworn

end Failed

/-! #### The verification failed: the order (R71) -/

/-- R71: an order after its first or its second failure. -/
def Order.failed (o : Order) (stalled : Bool) : Order :=
  { o with
    state := if stalled then .stalled else .pending, retry := 1, bay := none, serial := none, ready := none, tag := .noTag }

/-- R71: what the order side of a failed verification changes. -/
structure State.OrderFailed (u t : State) (n c : Nat) (o : Order) (stalled : Bool) : Prop where
  order : t.order n = some (o.failed stalled)
  others : ∀ m, m ≠ n → t.order m = u.order m
  queue : t.book.queue = if stalled then u.book.queue else joinHead u.isRush n u.book.queue
  circulation : t.unit .circulation = if stalled then
      (u.unit .circulation).enqueue ⟨.orderStalled, n, u.clock.second, [u3 o.patron, u4 o.title, u4 c]⟩
    else u.unit .circulation
  bays : t.bays = u.bays
  carts : t.carts = u.carts
  rack : t.rack = u.rack
  titles : t.titles = u.titles
  clock : t.clock = u.clock
  loans : t.loans = u.loans
  lane : t.lane = u.lane
  pending : t.pending = u.pending

/-- The class of an order is its priority's. -/
theorem State.isRush_onOrder {f : Order → Order} (hf : ∀ o, (f o).priority = o.priority) (n : Nat) :
    (s.onOrder n f).isRush = s.isRush := by
  funext m
  rw [State.isRush_eq, State.isRush_eq, State.onOrder_book]
  by_cases hm : m = n
  · rw [hm, Table.look_alter_same]
    cases s.book.orders.look n <;> simp [hf]
  · rw [Table.look_alter_other _ _ hm]

/-- R71: the first failure of an order sends it back to the head of its class. -/
theorem State.orderFailed_first (ho : s.order n = some o) (hnone : ∀ a < bayCount, (s.bay a).state ≠ .armed) (c : Nat)
    (hfirst : o.retry = 0) : s.OrderFailed (s.failOrder n c) n c o false := by
  generalize hu : (s.onOrder n (fun o => { o with retry := 1 })).onOrder n (fun o => o.unseat .pending) = u
  have hrejoin : (s.onOrder n (fun o => { o with retry := 1 })).rejoin n =
      u.setQueue (joinHead u.isRush n u.book.queue) := by
    subst hu
    exact State.arbiter_of_no_bay _ (State.armedBays_eq_nil _ hnone)
  have hfail : s.failOrder n c = (u.setQueue (joinHead u.isRush n u.book.queue)).reexamineOf n := by
    rw [← hrejoin]
    simp only [State.failOrder, ho, hfirst, if_true]
  have hrush : u.isRush = s.isRush := by
    rw [← hu, State.isRush_onOrder, State.isRush_onOrder] <;> exact fun _ => rfl
  have horder : u.order n = some (o.failed false) := by
    rw [← hu, State.order_onOrder_same, State.order_onOrder_same, ho]
    rfl
  have hother (m : Nat) (hm : m ≠ n) : u.order m = s.order m := by
    rw [← hu, State.order_onOrder_other _ _ hm, State.order_onOrder_other _ _ hm]
  have hframe := (u.setQueue (joinHead u.isRush n u.book.queue)).reexamineOf_frame n
  have hcirc := (u.setQueue (joinHead u.isRush n u.book.queue)).circulation_reexamineOf n
  rw [← hfail] at hframe hcirc
  obtain ⟨hpend, -, hbook, htitles, hcarts, hbays, hrack, hclock, hloans, hlane⟩ := hframe
  rw [hrush] at hbook
  subst hu
  exact {
    order := (State.order_congr hbook n).trans horder
    others := fun m hm => (State.order_congr hbook m).trans (hother m hm)
    queue := (congrArg OrderBook.queue hbook).trans rfl
    circulation := hcirc
    bays := hbays, carts := hcarts, rack := hrack, titles := htitles, clock := hclock, loans := hloans, lane := hlane,
    pending := hpend }

/-- R71: the second failure of an order stalls it, with its notice. -/
theorem State.orderFailed_second (ho : s.order n = some o) (c : Nat) (hsecond : o.retry = 1) :
    s.OrderFailed (s.failOrder n c) n c o true := by
  generalize hu : (s.onOrder n (fun o => o.unseat .stalled)).raise .circulation .orderStalled n
    [u3 o.patron, u4 o.title, u4 c] = u
  have hfail : s.failOrder n c = u.reexamineOf n := by
    simp only [State.failOrder, ho, hsecond, hu]
    rfl
  have hframe := u.reexamineOf_frame n
  have hcirc := u.circulation_reexamineOf n
  rw [← hfail] at hframe hcirc
  obtain ⟨hpend, -, hbook, htitles, hcarts, hbays, hrack, hclock, hloans, hlane⟩ := hframe
  subst hu
  exact {
    order := by
      refine (State.order_congr hbook n).trans ((State.order_onOrder_same ..).trans ?_)
      rw [ho]
      simp [Order.unseat, Order.failed, hsecond]
    others := fun m hm => (State.order_congr hbook m).trans (State.order_onOrder_other _ _ hm)
    queue := (congrArg OrderBook.queue hbook).trans rfl
    circulation := hcirc.trans (State.unit_onUnit_same ..)
    bays := hbays, carts := hcarts, rack := hrack, titles := htitles, clock := hclock, loans := hloans, lane := hlane,
    pending := hpend }

theorem State.failOrder_spec (ho : s.order n = some o) (hnone : ∀ a < bayCount, (s.bay a).state ≠ .armed) (c : Nat)
    {stalled : Bool} (hstalled : o.retry = if stalled then 1 else 0) :
    s.OrderFailed (s.failOrder n c) n c o stalled := by
  cases stalled with
  | false => exact s.orderFailed_first ho hnone c hstalled
  | true => exact s.orderFailed_second ho c hstalled

/-- Settles O48: a pass changes the bay and the order; a failure is the cartridge's side, then the order's. -/
theorem verificationsPassOrFail : Obligations.VerificationsPassOrFail := by
  intro s h b c n sel total rem r k o ht hb hlen hr
  subst hr
  have hlt : b < (s.clocked h).bays.length := hlen ▸ hb
  refine ⟨fun hst result hresult => ?_, fun hst hc hj hk ho => ⟨?_,
    fun worn stalled extent hworn hstalled hnone hext => ?_⟩⟩
  · exact congrArg _ (request_refuse ht (verifyDone_wrongState (s.clocked h) hb hresult hst))
  all_goals have hn : (s.bay b).jobOrder = some n := by simp [Bay.jobOrder, hj, JobKind.order]
  · obtain ⟨hpend, -, hbook, htitles, hcarts, hbays, hrack, hclock, hloans, hlane⟩ :=
      ((s.clocked h).verifyPass b n).settle_frame s.book.orders
    refine ⟨_, congrArg _ (request_answer ht (verifyDone_pass (s.clocked h) hb hst hn hc)), ?_, fun a ha => ?_, ?_,
      fun m hm => ?_, (congrArg OrderBook.queue hbook).trans rfl, hcarts, htitles, hrack, hclock, ?_, hloans, hlane, hpend⟩
    · exact (State.bay_congr _ hbays b).trans (State.bay_setBay_same _ hlt _)
    · exact (State.bay_congr _ hbays a).trans (State.bay_setBay_other _ ha _)
    · exact (State.order_congr hbook n).trans ((State.order_onOrder_same ..).trans (congrArg _ ho))
    · exact (State.order_congr hbook m).trans (State.order_onOrder_other _ _ hm)
    · exact State.bags_settle ((s.clocked h).verifyPass b n) s.book.orders
  · have hcart := State.failCartridge_spec (s.clocked h) hlt hc hk hworn
    generalize hu : (s.clocked h).failCartridge b c = u at hcart
    have hubay : u.bay b = (s.bay b).failed worn (units32 k.dirty) :=
      (State.bay_congr _ hcart.bays b).trans (State.bay_setBay_same (s.clocked h) hlt _)
    have huother (a : Nat) (ha : a ≠ b) : u.bay a = s.bay a :=
      (State.bay_congr _ hcart.bays a).trans (State.bay_setBay_other (s.clocked h) ha _)
    have hunarmed (a : Nat) (ha : a < bayCount) : (u.bay a).state ≠ .armed := by
      by_cases hab : a = b
      · rw [hab, hubay]
        cases worn <;> simp [Bay.failed, Bay.blanks]
      · rw [huother a hab]
        exact hnone a ha
    have horder := u.failOrder_spec ((State.order_congr hcart.book n).trans ho) hunarmed c hstalled
    obtain ⟨hpend, -, hbook, htitles, hcarts, hbays, hrack, hclock, hloans, hlane⟩ :=
      (u.failOrder n c).settle_frame s.book.orders
    have hcirc := (u.failOrder n c).circulation_settle s.book.orders
    have hbay (a : Nat) : ((u.failOrder n c).settle s.book.orders).bay a = u.bay a :=
      State.bay_congr _ (hbays.trans horder.bays) a
    have hcartOf (a : Nat) : ((u.failOrder n c).settle s.book.orders).cart a = u.cart a :=
      State.cart_congr _ (hcarts.trans horder.carts) a
    have horderOf (m : Nat) : ((u.failOrder n c).settle s.book.orders).order m = (u.failOrder n c).order m :=
      State.order_congr hbook m
    have hbody : [u1 (((u.failOrder n c).settle s.book.orders).bay b).state.code, u1 (k.failed worn).failures,
        u1 (((u.failOrder n c).settle s.book.orders).orderCode n)] =
        [u1 (if worn then 6 else 1), u1 (if worn then 2 else 1), u1 (if stalled then 6 else 0)] := by
      rw [hbay, hubay, State.orderCode, horderOf, horder.order]
      cases worn <;> cases stalled <;> rfl
    have hfail := verifyDone_fail (s.clocked h) hb hst hn hc (hu ▸ rfl) ((hcartOf c).trans hcart.cart)
    have hrush : u.isRush = s.isRush := funext fun m => by
      rw [State.isRush_eq, State.isRush_eq, hcart.book]
      rfl
    refine ⟨_, congrArg _ (request_answer ht (hfail.trans (congrArg _ hbody))), (hbay b).trans (hubay.trans ?_),
      fun a ha => (hbay a).trans (huother a ha), (hcartOf c).trans hcart.cart,
      fun a ha => (hcartOf a).trans (hcart.others a ha), (horderOf n).trans horder.order,
      fun m hm => (horderOf m).trans ((horder.others m hm).trans (State.order_congr hcart.book m)),
      ?_, hcirc.trans ?_, fun hw => hrack.trans (horder.rack.trans (hcart.rack hw)),
      (congrArg Scheduler.state (hrack.trans horder.rack)).trans hcart.running,
      htitles.trans (horder.titles.trans hcart.titles),
      hclock.trans (horder.clock.trans hcart.clock), hloans.trans (horder.loans.trans hcart.loans),
      hlane.trans (horder.lane.trans hcart.lane), hpend.trans (horder.pending.trans hcart.pending)⟩
    · rw [show extent = units32 k.dirty from hext]
      cases worn <;> rfl
    · rw [hbook, horder.queue, hrush, hcart.book]
      rfl
    · rw [horder.circulation, hcart.circulation, hcart.clock]
      rfl

end Sys2Proof.Machine

/-! ### The queries of every port (Chapters 3, 4, 5, 6, 8, 9 and 10) -/

namespace Sys2Proof.Machine

variable (s : State)

/-! #### Places in a queue -/

theorem placeIn_of_not_mem {q : List Nat} {n : Nat} (h : n ∉ q) : placeIn q n = 0 := by
  have hnone : q.findIdx? (· == n) = none := List.findIdx?_eq_none_iff.2 fun m hm => by
    simpa using (fun hmn : m = n => h (hmn ▸ hm))
  rw [placeIn, hnone]

/-- The head of a queue is at place 1. -/
theorem placeIn_of_first {q : List Nat} {n i : Nat} (hi : q[i]? = some n) (hfirst : ∀ j < i, q[j]? ≠ some n) :
    placeIn q n = i + 1 := by
  obtain ⟨hlt, hin⟩ := List.getElem?_eq_some_iff.1 hi
  have hsome : q.findIdx? (· == n) = some i := by
    refine List.findIdx?_eq_some_iff_getElem.2 ⟨hlt, by simpa using hin, fun j hj => ?_⟩
    have hne := hfirst j hj
    rw [List.getElem?_eq_getElem (hj.trans hlt)] at hne
    simpa using hne
  rw [placeIn, hsome]

/-! #### STATUS (R177) -/

/-- A frame leaves a port's notices and its mode. -/
theorem PortUnit.clockOut_notices (u : PortUnit) (n : Nat) :
    (u.clockOut n).notices = u.notices ∧ (u.clockOut n).mode = u.mode := by
  unfold PortUnit.clockOut
  split <;> exact ⟨rfl, rfl⟩

theorem State.statusFields_clocked (h : Header) : (s.clocked h).statusFields h.port = s.statusFields h.port := by
  obtain ⟨hnotices, hmode⟩ := (s.unit h.port).clockOut_notices h.clocked
  rw [State.statusFields, State.clocked, State.unit_onUnit_same, hnotices, hmode]
  rfl

/-! #### CARTRIDGE_QUERY (R55) -/

theorem cartridgeQuery_eq {n : Nat} {k : Cartridge} (hn : n ≠ 0) (hk : s.cart n = some k) :
    cartridgeQuery n s = answer s .accepted (s.cartridgeFields n k) := by
  simp [cartridgeQuery, firstBad, hn, hk]

theorem State.cartridgeFields_eq (n : Nat) (k : Cartridge) : s.cartridgeFields n k =
    [u4 n, u1 k.state.code, u2 k.writes, u1 k.failures, u3 k.dirty,
      u2 (match k.bound with | .unbound => 0 | .order m => m | .loan m => m),
      u1 (match k.bound with | .loan _ => 1 | _ => 0), u1 (k.bay.getD 0), mark k.bay.isNone,
      u2 (placeIn s.carts.pool n + placeIn s.carts.backlog n), mark (decide (s.loans.wearLimit ≤ k.writes))] := by
  cases hb : k.bound <;> simp only [State.cartridgeFields, hb] <;> rfl

/-! #### BAY_QUERY (R81) -/

theorem bayQuery_eq {b : Nat} (hb : b < 32) : bayQuery b s = answer s .accepted (s.bayFields b) := by
  have hcheck : firstBad [decide (31 < b)] = none := by simpa [firstBad_eq_none] using Nat.le_of_lt_succ hb
  rw [bayQuery, hcheck]

theorem Scheduler.inSlot_eq (r : Scheduler) (b : Nat) : r.inSlot b = r.slot.any (fun sl => decide (sl.pair = b / 2)) := by
  unfold Scheduler.inSlot
  cases r.slot <;> rfl

theorem State.doneOrder_of_not_done {r : Bay} (h : r.state ≠ .done) : s.doneOrder r = 0 :=
  if_neg h

theorem State.doneOrder_of_done {r : Bay} {c n : Nat} {k : Cartridge} (h : r.state = .done) (hc : r.cartridge = some c)
    (hk : s.cart c = some k) (hn : k.bound = .order n) : s.doneOrder r = n := by
  have hbound : s.boundOrder c = some n := by
    obtain ⟨_, _, _, _, _, _⟩ := k
    cases hn
    rw [State.boundOrder, hk]
  rw [State.doneOrder, if_pos h, hc, Option.bind_some, hbound]
  rfl

/-! #### PROJECTION_QUERY (R111) -/

theorem projectionQuery_eq {n : Nat} {o : Order} (hn : n ≠ 0) (ho : s.order n = some o) :
    projectionQuery n s = answer s .accepted (s.projectionFields o) := by
  simp [projectionQuery, firstBad, hn, ho]

theorem State.itemFields_working {o : Order} {b : Nat} {j : Job} (hst : o.state = .writing ∨ o.state = .verifying)
    (hcopy : o.copy = none) (hb : o.bay = some b) (hj : (s.bay b).job = some j) :
    s.itemFields o = [u1 b, u3 j.remaining] := by
  rw [State.itemFields, if_pos hst, hcopy, hb, Option.bind_some, hj]
  rfl

theorem State.itemFields_idle {o : Order} (hw : o.state ≠ .writing) (hv : o.state ≠ .verifying) :
    s.itemFields o = match o.copy with
      | some i => [u4 o.title, u1 i]
      | none => [] := by
  rw [State.itemFields, if_neg (not_or.2 ⟨hw, hv⟩)]
  rfl

/-! #### CONTAINER_QUERY and BAG_QUERY (R142) -/

theorem containerQuery_eq {n : Nat} {c : Container} (hn : n ≠ 0) (hc : s.container n = some c) :
    containerQuery n s = answer s .accepted (s.containerFields n c) := by
  simp [containerQuery, firstBad, hn, hc]

/-- R142: what follows the fields of Table 8-2: the seconds left of a running timer, and a place in the unbagged queue. -/
def State.containerRest (s : State) (n : Nat) (c : Container) : List Field :=
  (match c.idle with
    | some i => [u2 (s.packing.idleTime - i)]
    | none => []) ++
  (if c.state = .waitingBag then [u2 (placeIn s.packing.unbagged n)] else [])

theorem State.containerFields_eq (n : Nat) (c : Container) : s.containerFields n c =
    [u2 n, u3 c.patron, u1 c.region, u1 c.state.code, u1 c.items.length] ++ c.items.map u2 ++
      [mark c.braille, u3 c.lastItem, u2 (c.idle.getD 0), mark c.held, u1 (c.bag.getD 0)] ++ s.containerRest n c :=
  List.append_assoc ..

theorem bagQuery_eq {n : Nat} {g : Bag} (hn : n ≠ 0) (hg : s.bag n = some g) :
    bagQuery n s = answer s .accepted g.fields := by
  simp [bagQuery, firstBad, hn, hg]

/-- Settles O60, query by query. -/
theorem queriesReportTheRecords : Obligations.QueriesReportTheRecords := by
  refine fun s h => ⟨fun ht => ?_, fun ht n k hn hk => ?_, fun ht b hb r hr => ?_, fun ht => ?_, fun ht n o hn ho => ?_,
    fun ht n c hn hc => ?_, fun ht n g hn hg => ?_, fun ht => ?_⟩
  · have hstatus : request .status h (fun s => answer s .accepted (s.statusFields h.port)) s = _ :=
      request_answer ht (congrArg _ (s.statusFields_clocked h))
    exact congrArg _ hstatus
  · have hquery := cartridgeQuery_eq (s.clocked h) hn hk
    rw [State.cartridgeFields_eq] at hquery
    refine ⟨_, congrArg _ (request_answer ht hquery), fun hp hb => ?_, fun i hi hfirst hb => ?_,
      fun i hi hfirst hp => ?_⟩
    · exact congrArg₂ (· + ·) (placeIn_of_not_mem hp) (placeIn_of_not_mem hb)
    · exact (congrArg₂ (· + ·) (placeIn_of_first hi hfirst) (placeIn_of_not_mem hb)).trans (Nat.add_zero _)
    · exact (congrArg₂ (· + ·) (placeIn_of_not_mem hp) (placeIn_of_first hi hfirst)).trans (Nat.zero_add _)
  · subst hr
    have hquery := bayQuery_eq (s.clocked h) hb
    rw [State.bayFields, Scheduler.inSlot_eq] at hquery
    refine ⟨jobFields (s.bay b).job, jobFields (s.bay b).aborted, s.rack.selectorCode (s.bay b).job, s.doneOrder (s.bay b),
      congrArg _ (request_answer ht hquery), fun hj => ?_, fun n x total rem hj => ?_, fun total rem hj => ?_,
      s.doneOrder_of_not_done, fun c k n => s.doneOrder_of_done, fun hj => ?_, fun n x total rem hj => ?_,
      fun total rem hj => ?_⟩
    all_goals rw [hj]
    · exact ⟨rfl, rfl⟩
    · exact ⟨rfl, rfl⟩
    · exact ⟨rfl, rfl⟩
    · rfl
    · rfl
    · rfl
  · refine ⟨_, _, congrArg _ (request_answer ht (act := fun s => answer s .accepted s.rackFields) rfl), fun hround => ?_,
      fun hslot => ?_, fun rd hround => ?_, fun sl hslot => ?_⟩
    · rw [show (s.clocked h).rack.round = none from hround]
    · rw [show (s.clocked h).rack.slot = none from hslot]
    · rw [show (s.clocked h).rack.round = some rd from hround]
      rfl
    · rw [show (s.clocked h).rack.slot = some sl from hslot]
      rfl
  · refine ⟨s.itemFields o, congrArg _ (request_answer ht (projectionQuery_eq (s.clocked h) hn ho)),
      fun b j => s.itemFields_working, fun i hw hv hi => ?_, fun hw hv hi => ?_⟩
    · rw [s.itemFields_idle hw hv, hi]
    · rw [s.itemFields_idle hw hv, hi]
  · have hquery := containerQuery_eq (s.clocked h) hn hc
    rw [State.containerFields_eq] at hquery
    refine ⟨s.containerRest n c, congrArg _ (request_answer ht hquery), fun i hi hst => ?_, fun hi hst => ?_,
      fun i hi hst hplace hfirst => ?_⟩
    · rw [State.containerRest, hi, if_neg hst]
      rfl
    · rw [State.containerRest, hi, if_neg hst]
      rfl
    · rw [State.containerRest, hi, if_pos hst, placeIn_of_first hplace hfirst]
      rfl
  · exact congrArg _ (request_answer ht (bagQuery_eq (s.clocked h) hn hg))
  · have hlane : (s.clocked h).laneFields = [u1 s.lane.state.code] ++ captureFields s.lane.capture ++ [mark s.lane.more,
        mark s.lane.mask.unreadable, mark s.lane.mask.unknownItem, mark s.lane.mask.notOnLoan, u2 s.lane.returnsToday,
        u2 s.lane.errorsToday, u2 s.loans.loans.length,
        u2 (s.loans.loans.countP (fun e => decide (e.2.state = .overdue)))] := by
      simp [State.laneFields, StopMask.fields]
    refine ⟨captureFields s.lane.capture, congrArg _ (request_answer ht
      (act := fun s => answer s .accepted s.laneFields) (congrArg _ hlane)), fun hnone => ?_,
      fun kind item condition day second hcap => ⟨?_, ?_, ?_⟩⟩
    · rw [hnone]
      rfl
    all_goals rw [hcap]
    · rintro serial rfl
      rfl
    · rintro title index rfl
      rfl
    · rintro rfl
      rfl

end Sys2Proof.Machine
